-- ==== Sys2Proof/Word.lean ====
section
/-! DEFINITION. The word types of the part's interfaces: bytes on the wires, 16-bit masks and serials. -/

namespace Sys2Proof

/-- One byte on the job port, the motion port or the pump link. -/
abbrev Byte := BitVec 8

/-- A 16-bit source mask or pending set (R184, R187): bit `n - 1` stands for source `n`. -/
abbrev Mask := BitVec 16

/-- A record serial, counted modulo 65536 (R138). -/
abbrev Serial := BitVec 16

end Sys2Proof
end

