-- ==== Sys2Proof/Syntax.lean ====
section
/-! DEFINITION. The commands: one constructor of `Instr` for each row of spec/opcode_table.json, with the operands the
spec gives it at the width its wire gives them (R189, R190, R191), so that every value a partner can send is an operand
and every range check of the spec has something to refuse. -/

namespace Sys2Proof

/-- A segment record as it is written to a staging buffer: the 24 bytes of R189, field by field, stored unchecked (R28).
A presence byte of 0 marks its field absent, any other value marks it present. -/
structure SegRecord where
  kindByte : BitVec 8
  roleByte : BitVec 8
  radiusPresence : BitVec 8
  dwellPresence : BitVec 8
  lengthField : BitVec 24
  radiusField : BitVec 24
  headingIn : BitVec 16
  headingOut : BitVec 16
  endX : BitVec 32
  endY : BitVec 32
  dwellField : BitVec 16
  deriving DecidableEq, Repr

/-- The material fields of R54, at the widths MAT_WRITE carries them with (R190). -/
structure Material where
  vSep : BitVec 16
  qf2 : BitVec 16
  qf3 : BitVec 16
  qf4 : BitVec 16
  qf5 : BitVec 16
  cf0 : BitVec 16
  cf1 : BitVec 16
  cf2 : BitVec 16
  cf3 : BitVec 16
  cf4 : BitVec 16
  cf5 : BitVec 16
  cf6 : BitVec 16
  cf7 : BitVec 16
  dw0 : BitVec 16
  dw1 : BitVec 16
  dw2 : BitVec 16
  dw3 : BitVec 16
  dw4 : BitVec 16
  dw5 : BitVec 16
  dw6 : BitVec 16
  dw7 : BitVec 16
  rCrit : BitVec 24
  vFloor : BitVec 16
  slope : BitVec 16
  lif : BitVec 16
  pCut : BitVec 16
  pPierce : BitVec 16
  pierceTime : BitVec 16
  abrasiveRate : BitVec 16
  deriving DecidableEq, Repr

/-- The machine configuration record of R185, at the widths CONFIG_SET carries it with (R190). -/
structure MachineConfig where
  bedXMax : BitVec 32
  bedYMax : BitVec 32
  pumpPMin : BitVec 16
  pumpPMax : BitVec 16
  idlePressure : BitVec 16
  readyBand : BitVec 8
  dropMargin : BitVec 8
  pressureTimeout : BitVec 8
  pumpReportTimeout : BitVec 16
  motionLinkTimeout : BitVec 16
  traverseSpeed : BitVec 24
  deriving DecidableEq, Repr

/-- The two attention lines (R187, R188). -/
inductive LineName where
  | jatn
  | matn
  deriving DecidableEq, Repr

/-- The steps of the part, row by row of spec/opcode_table.json: bus accesses and job port commands of the station,
completions of the part's own timed operations, motion port and pump link events, timers and ticks. -/
inductive Instr where
  /-- POWER_ON_RESET (R22). -/
  | powerOnReset
  /-- COMMAND_BYTE_WRITE (R182): a data write, or a write strobe with DACK asserted (`dma`). -/
  | commandByteWrite (dma : Bool) (byte : Byte)
  /-- RESPONSE_BYTE_READ (R181): a data read. -/
  | responseByteRead
  /-- STATUS_BYTE_READ (R181): a read with the address line high. -/
  | statusByteRead
  /-- JOB_PORT_WRITE_IGNORED (R181): a write with the address line high, or with no behaviour of its own. -/
  | jobPortWriteIgnored (byte : Byte)
  /-- COMMAND_BYTE_GAP (R182): more than 100 ms between two bytes of one command. -/
  | commandByteGap
  | bufClear (buffer : Byte)
  | bufWrite (buffer startSlot : Byte) (records : List SegRecord)
  | bufRead (buffer slot : Byte)
  | commitStatus (buffer : Byte)
  | contourOpen (contourId tag : BitVec 16) (material quality passes pierceMode closed : Byte)
      (startX startY : BitVec 32) (beforeId : BitVec 16)
  | contourAppend (buffer : Byte) (contourId : BitVec 16)
  | contourReplace (buffer : Byte) (contourId : BitVec 16) (listPosition : Byte)
  | contourClose (contourId : BitVec 16)
  | contourDelete (contourId : BitVec 16)
  | contourMove (contourId beforeId : BitVec 16)
  | contourQuery (contourId : BitVec 16)
  | queueList
  | filterSkip (base mask : BitVec 16)
  | hold
  | resume
  | skip
  | finishedRead (n : Byte)
  | matWrite (index : Byte) (record : Material)
  | matRead (index : Byte)
  | matInvalidate (index : Byte)
  | configSet (record : MachineConfig)
  | configRead
  | wearConfig (counter source : Byte) (limit : BitVec 32)
  | wearLevels (t1 t2 t3 : BitVec 32) (d1 d2 d3 : BitVec 16)
  | wearLoad (counter : Byte) (value : BitVec 32)
  | wearReset (counter : Byte)
  | wearRead
  | routeSet (jatnRoute matnRoute : Mask) (jatnMode matnMode : Byte)
  | eventsRead
  | eventsAck (mask : Mask)
  | status
  | jobReset
  /-- COMMIT_COMPLETE (R33): the write engine ends writing the commit it holds. -/
  | commitComplete
  /-- CONTOUR_PLAN_COMPLETE (R102). -/
  | contourPlanComplete
  /-- ACTIVE_JOB_COMPLETE (R103). -/
  | activeJobComplete
  /-- MOTION_FRAME_START (R140): frame select is asserted. -/
  | motionFrameStart
  /-- MOTION_FRAME_COMPLETE (R133): the 28th byte is exchanged; `frame` is the controller's frame. -/
  | motionFrameComplete (frame : Vector Byte 28)
  /-- MOTION_FRAME_CUT_SHORT (R133). -/
  | motionFrameCutShort
  /-- MOTION_LINK_TIMEOUT (R135). -/
  | motionLinkTimeout
  /-- PRESSURE_WAIT_EXPIRY (R116). -/
  | pressureWaitExpiry
  /-- PIERCE_TIMER_EXPIRY (R118). -/
  | pierceTimerExpiry
  /-- PUMP_MESSAGE_TRANSMITTED (R167). -/
  | pumpMessageTransmitted
  /-- PUMP_STATUS (R168): the six bytes of one complete message from the pump. -/
  | pumpStatus (message : Vector Byte 6)
  /-- PUMP_ASSEMBLY_TIMEOUT (R168). -/
  | pumpAssemblyTimeout
  /-- PUMP_REPORT_TIMEOUT (R173). -/
  | pumpReportTimeout
  /-- WEAR_TIME_UNIT (R176), of one counter. -/
  | wearTimeUnit (counter : Fin 4)
  /-- ATTENTION_PULSE_END (R188), on one line. -/
  | attentionPulseEnd (line : LineName)
  /-- ATTENTION_PULSE_GAP_END (R188), on one line. -/
  | attentionPulseGapEnd (line : LineName)
  /-- PUMP_BYTE_RECEIVED (R168). -/
  | pumpByteReceived (byte : Byte)
  /-- MILLISECOND_TICK (R176). -/
  | millisecondTick
  deriving DecidableEq, Repr

end Sys2Proof
end

