-- ==== Sys2Proof/Machine/Types.lean ====
section
/-! DEFINITION. The types of the blocks' state: enumerations in the order their defining tables list them, and the
records each block holds. Functions over them stand in the other files of Machine/. -/

namespace Sys2Proof.Machine

open Sys2Proof

/-! ### Segments and commits (chapter 2) -/

/-- Kind of a segment (R24). -/
inductive Kind where
  | line | arcCw | arcCcw | bridge
  deriving DecidableEq, Repr

/-- Role of a segment (R24). -/
inductive Role where
  | leadIn | body | leadOut
  deriving DecidableEq, Repr

/-- Reason codes of record validation, in the order of R25's table. -/
inductive RecordReason where
  | badKind | badRole | badLength | radiusAbsent | radiusPresent | badRadius | badHeading | headingMismatch | badSweep
  | xOutOfBed | yOutOfBed | badDwell | dwellOnBridge
  deriving DecidableEq, Repr

/-- Reason codes of the contour structure checks, in the order of R5's table. -/
inductive ContourReason where
  | noSegments | roleOrder | bridgePlacement | multipassOpen | multipassLeads
  deriving DecidableEq, Repr

/-- The two staging buffers. -/
inductive BufferName where
  | a | b
  deriving DecidableEq, Repr

/-- State of a staging buffer (R26). -/
inductive BufferState where
  | free | commitWaiting | committing
  deriving DecidableEq, Repr

inductive CommitKind where
  | append | replace
  deriving DecidableEq, Repr

/-- Result of a completed commit (R33), with the detail R37 reports. -/
inductive CommitResult where
  | ok
  | invalidRecord (slot : Nat) (reason : RecordReason)
  | invalidContour (reason : ContourReason) (segment : Option Nat)
  | notFound
  deriving DecidableEq, Repr

/-- The last completed commit of a buffer (R37). -/
structure LastCommit where
  result : CommitResult
  kind : CommitKind
  contour : Nat
  page : Nat
  deriving DecidableEq, Repr

/-- A staging buffer (R26), with its last commit result (R37); `last` is `none` for NONE. -/
structure Buffer where
  slots : Vector (Option SegRecord) 32
  pointer : Fin 32
  state : BufferState
  last : Option LastCommit
  deriving DecidableEq, Repr

/-- A commit the write engine holds (section 2.4). `page` is the held page of an append, the target page of a replace.
`bound` says that the entry bound at acceptance is still in the queue (R6): removal clears it, so a new entry under the
same contour_id is never taken for it. -/
structure Commit where
  kind : CommitKind
  buffer : BufferName
  contour : Nat
  bound : Bool
  fill : Nat
  page : Nat
  deriving DecidableEq, Repr

/-! ### The segment store (chapter 3) -/

/-- A written plan word (R47), with the exit dwell of R73. -/
structure PlanWord where
  entry : Nat
  exit : Nat
  peak : Nat
  overspeed : Bool
  dwell : Nat
  deriving DecidableEq, Repr

/-- A used slot of a page: its record and its plan word, `none` when cleared (R41, R47). -/
structure Slot where
  record : SegRecord
  word : Option PlanWord
  deriving DecidableEq, Repr

/-- The used slots of a page, slot 0 first; its page count is their number (R41). -/
abbrev Page := List Slot

/-- The pages that have contents, by rising page number, none empty. A page on the free-page list or held by an append
has no page count and no defined contents (R41), so it is not listed. -/
abbrev Store := List (Nat × Page)

/-! ### The contour queue (chapter 1) -/

/-- A place in cut order (section 3.8): a segment index and a pass. -/
structure Place where
  index : Nat
  pass : Nat
  deriving DecidableEq, Repr

/-- The send cursor or the stop place (R136): a place in cut order, or END. -/
inductive Cursor where
  | seg (place : Place)
  | fin
  deriving DecidableEq, Repr

inductive PierceMode where
  | lowStationary | fullStationary | edgeStart
  deriving DecidableEq, Repr

/-- State of a queue entry (R2). -/
inductive EntryState where
  | loading | waitingPlan | planning | ready | active | held | failed
  deriving DecidableEq, Repr

/-- Hold causes (R2), which are also the stop causes of R150. -/
inductive Cause where
  | operator | pumpFault | pressureTimeout | pressureSag | pumpLinkLost | motionFault | motionLinkFault | starved
  deriving DecidableEq, Repr

/-- Plan stamp (R2, R109). -/
structure Stamp where
  revision : Nat
  override : Nat
  level : Nat
  deriving DecidableEq, Repr

/-- A queue entry (R2). The segment count is the view `State.segmentCount` of the page list and the store. Of progress,
the current pass and send index are the plan stream's send cursor (R17, R136), held there once; `donePlace` is the done
index and done pass. `restartMark` is the mark of R150. -/
structure Entry where
  contourId : Nat
  tag : Nat
  material : Fin 24
  quality : Nat
  passes : Nat
  pierceMode : PierceMode
  closed : Bool
  startX : Nat
  startY : Nat
  pages : List Nat
  commitsPending : Nat
  state : EntryState
  stamp : Option Stamp
  overspeedCount : Option Nat
  donePlace : Option Place
  resumePoint : Option Place
  holdCause : Option Cause
  lastHoldCause : Option Cause
  laterFault : Option Bool
  resumeFailures : Nat
  holdCount : Nat
  restartMark : Bool
  deriving DecidableEq, Repr

inductive Outcome where
  | done | skipped
  deriving DecidableEq, Repr

/-- A finished-list entry (R20). -/
structure Finished where
  contourId : Nat
  tag : Nat
  outcome : Outcome
  passesCompleted : Nat
  segmentsDone : Nat
  holdCount : Nat
  lastHoldCause : Option Cause
  deriving DecidableEq, Repr

/-! ### The material table (chapter 4) -/

/-- A material record (R53): VALID with its fields, or INVALID (`none`); the revision is kept in both. -/
structure MaterialRecord where
  revision : BitVec 16
  fields : Option Material
  deriving DecidableEq, Repr

/-! ### The planner (chapter 6) -/

inductive JobKind where
  | contour | activation | remainder | stop | resume
  deriving DecidableEq, Repr

/-- Engine state as STATUS reports it (R91). -/
inductive EngineState where
  | idle | contourJob | activeJob
  deriving DecidableEq, Repr

/-- The inputs a job samples at its start (R99). -/
structure JobInputs where
  material : Material
  revision : Nat
  override : Nat
  level : Nat
  factor : Nat
  traverse : Nat
  deriving DecidableEq, Repr

/-- Fixed boundary, as the place whose start boundary it is, and fixed value (R98). -/
structure FixedPoint where
  cursor : Cursor
  value : Nat
  deriving DecidableEq, Repr

/-- What a stop-boundary search found (R107, R108): the segments crossed, in cut order, and the stop place. -/
structure StopPlan where
  chain : List Nat
  place : Cursor
  deriving DecidableEq, Repr

/-- The one job in flight (R91). -/
structure Job where
  kind : JobKind
  contour : Nat
  inputs : JobInputs
  fixed : Option FixedPoint
  stop : Option StopPlan
  deriving DecidableEq, Repr

/-- PLN: the job in flight and the stop-taken mark. The engine is IDLE without a job, in CONTOUR_JOB with a job of kind
CONTOUR, and in ACTIVE_JOB otherwise; an active request is outstanding exactly in ACTIVE_JOB (R91). -/
structure Planner where
  job : Option Job
  stopTaken : Bool
  deriving DecidableEq, Repr

/-! ### The jet sequencer (chapters 7 and 9) -/

/-- Phases (R110). -/
inductive Phase where
  | idle | positioning | piercePressure | piercing | cutPressure | cutting | bridgeStop | bridgeTravel | finishing
  | holding | aborting
  deriving DecidableEq, Repr

inductive Valve where
  | opened | closed
  deriving DecidableEq, Repr

/-- An open pressure wait: its target and the milliseconds remaining (R110, R116). -/
structure PressureWait where
  target : Nat
  msLeft : Nat
  deriving DecidableEq, Repr

/-- Stop ending (R150). -/
inductive Ending where
  | held | skipped
  deriving DecidableEq, Repr

/-- JSQ (R110), with the stop cause and stop ending of R150. -/
structure Sequencer where
  phase : Phase
  contour : Option Nat
  startMode : Option PierceMode
  traverseSerial : Option Serial
  arrived : Option Bool
  wait : Option PressureWait
  pierceMs : Option Nat
  valve : Valve
  abrasive : Nat
  stopCause : Option Cause
  stopEnding : Option Ending
  deriving DecidableEq, Repr

/-! ### The plan stream and the motion port (chapter 8) -/

/-- Control records of the due list (R137). -/
inductive Control where
  | contourBegin (contour : Nat)
  | traverse (x y speed : Nat)
  | holdAt
  | halt
  | abort
  | contourEnd (contour : Nat)
  deriving DecidableEq, Repr

/-- The fields of a SEG record (R137, R141), with the place of its segment, which joins the in-flight window (R142). -/
structure SegOut where
  contour : Nat
  kind : Kind
  endX : Nat
  endY : Nat
  radius : Option Nat
  entry : Nat
  exit : Nat
  peak : Nat
  dwell : Nat
  jet : Bool
  overspeed : Bool
  lastOfPass : Bool
  place : Place
  deriving DecidableEq, Repr

/-- What a frame carries (R137). -/
inductive RecordBody where
  | empty (pendingSet : Mask)
  | control (record : Control)
  | seg (record : SegOut)
  deriving DecidableEq, Repr

/-- A record as placed in a frame, with the serial it took (R138); EMPTY has none. -/
structure Placed where
  serial : Option Serial
  body : RecordBody
  deriving DecidableEq, Repr

/-- An entry of the in-flight window (R136, R143). -/
structure Flight where
  serial : Serial
  contour : Nat
  place : Place
  deriving DecidableEq, Repr

inductive SerialKind where
  | seg | control
  deriving DecidableEq, Repr

/-- PST (R136). `again` is the repeat record. -/
structure Stream where
  nextSerial : Serial
  due : List Control
  again : Option Placed
  window : List Flight
  lastKind : Option SerialKind
  cursor : Option Cursor
  lastExit : Option Nat
  stopPlace : Option Cursor
  holdAtMade : Option Bool
  deriving DecidableEq, Repr

/-- An exchange in progress (R133): the record placed and the 28 bytes the part shifts out. `cancelled` is set when the
record is no longer to be delivered: a SEG or TRAVERSE whose entry stopped being ACTIVE since its placement (R142), or any
record at a JOB_RESET (R149). -/
structure Exchange where
  placed : Placed
  frame : List Byte
  cancelled : Bool
  deriving DecidableEq, Repr

inductive LinkState where
  | ok | silent
  deriving DecidableEq, Repr

/-- MPI: the exchange, the link timer with the milliseconds remaining (`none` from its expiry to its restart), the link
state and the last override received (R133, R135, R147). -/
structure MotionPort where
  exchange : Option Exchange
  timer : Option Nat
  link : LinkState
  override : Nat
  deriving DecidableEq, Repr

/-- Report kinds of a controller frame (R146, R191), with the 16-bit field of bytes 2 and 3 where the kind has one. -/
inductive Report where
  | nothing
  | segDone (serial : Serial)
  | arrived (serial : Serial)
  | stopped (serial : Serial)
  | holdReq
  | resumeReq
  | skipReq
  | motionFault
  | starvedStop (serial : Serial)
  | linkError
  | eventAck (mask : Mask)
  deriving DecidableEq, Repr

/-- Faults as they reach JSQ (R158). The link class distinguishes silence from a failed check or LINK_ERROR, which R161
takes differently; STARVED carries the serial of STARVED_STOP (R160). -/
inductive FaultEvent where
  | pumpFault
  | pressureSag
  | pressureTimeout
  | pumpLinkLost
  | linkSilence
  | linkCheck
  | motionFault
  | starved (serial : Serial)
  deriving DecidableEq, Repr

/-! ### The pump link (chapter 10) -/

/-- Messages to the pump (section 10.2). -/
inductive PumpMessage where
  | setPressure (target : Nat)
  | setValve (valve : Valve)
  | setAbrasive (rate : Nat)
  deriving DecidableEq, Repr

inductive Flow where
  | ok | low | noFlow
  deriving DecidableEq, Repr

/-- The three reported items of R166. -/
structure PumpReport where
  pressure : Nat
  code : Nat
  flow : Flow
  deriving DecidableEq, Repr

/-- A message under assembly: the bytes received so far, lead byte first, and the milliseconds left of its 5 ms limit
(R168). -/
structure Assembly where
  bytes : List Byte
  msLeft : Nat
  deriving DecidableEq, Repr

/-- PLK (R166). The oldest message of `transmit` is the one in transmission. `wire` is the model's own record of the six
bytes of the message that left the part last. -/
structure PumpLink where
  transmit : List PumpMessage
  target : Nat
  ready : Bool
  report : Option PumpReport
  sag : Nat
  link : LinkState
  timer : Option Nat
  assembly : Option Assembly
  wire : List Byte
  deriving DecidableEq, Repr

/-! ### Wear counters (chapter 11) -/

inductive WearSource where
  | abrasiveTime | valveTime | pierces | cutLength
  deriving DecidableEq, Repr

/-- One wear counter (R175). -/
structure Counter where
  source : WearSource
  value : Nat
  remainder : Nat
  limit : Nat
  due : Bool
  deriving DecidableEq, Repr

/-- WCT (R175). -/
structure Wear where
  c0 : Counter
  c1 : Counter
  c2 : Counter
  c3 : Counter
  t1 : Nat
  t2 : Nat
  t3 : Nat
  d1 : Nat
  d2 : Nat
  d3 : Nat
  level : Nat
  deriving DecidableEq, Repr

/-! ### The attention router (chapter 12) -/

/-- The fifteen event sources, source 1 first (R187). -/
inductive Source where
  | commitDone | planDone | contourStart | contourEnd | held | pumpFault | pressureTimeout | pumpLinkLost
  | motionLinkFault | overspeed | starved | wearService | wearLevel | queueIdle | abrasiveLow
  deriving DecidableEq, Repr

inductive LineMode where
  | level | pulse
  deriving DecidableEq, Repr

/-- Pulse state of a line in PULSE mode (R188): no pulse; a pulse in progress, with a further pulse owed or not; the
1 µs between a pulse and the further pulse owed. -/
inductive Pulse where
  | idle
  | high (owed : Bool)
  | gap
  deriving DecidableEq, Repr

/-- One attention line. `fresh` is the model's own mark, within one change, that the change made a routed source pending
that was not pending: R188 gives one pulse for the whole change. It is clear between changes. -/
structure Line where
  route : Mask
  mode : LineMode
  pending : Mask
  pulse : Pulse
  fresh : Bool
  deriving DecidableEq, Repr

/-- ATR. -/
structure Attention where
  jatn : Line
  matn : Line
  deriving DecidableEq, Repr

/-! ### The job port (chapter 12) -/

/-- Status codes, 0 to 12 in this order (R184). -/
inductive Status where
  | ok | busy | badArg | notFound | duplicate | wrongState | full | inUse | gap | invalidRecord | invalidContour
  | notReady | badCommand
  deriving DecidableEq, Repr

/-- The detail of a refusal, in the order R182 gives: offset of the field named, a contour_id, a reason code and a
segment index. -/
structure Detail where
  offset : Option Nat
  contour : Option Nat
  reason : Option Nat
  segment : Option Nat
  deriving DecidableEq, Repr

/-- What CONTOUR_QUERY reports (R13): every field of R2, an absent one as `none`. -/
structure EntryView where
  contourId : Nat
  tag : Nat
  material : Nat
  quality : Nat
  passes : Nat
  pierceMode : PierceMode
  closed : Bool
  startX : Nat
  startY : Nat
  pages : List Nat
  segmentCount : Nat
  commitsPending : Nat
  state : EntryState
  stamp : Option Stamp
  overspeedCount : Option Nat
  sendPlace : Option Place
  donePlace : Option Place
  resumePoint : Option Place
  holdCause : Option Cause
  lastHoldCause : Option Cause
  laterFault : Option Bool
  resumeFailures : Nat
  holdCount : Nat
  deriving DecidableEq, Repr

/-- What COMMIT_STATUS reports (R37). `pending` is the pending kind, contour_id and page. -/
structure CommitView where
  state : BufferState
  pending : Option (CommitKind × Nat × Nat)
  last : Option LastCommit
  deriving DecidableEq, Repr

/-- What MAT_READ reports (R61). -/
structure MaterialView where
  revision : Nat
  users : Nat
  headUser : Option Nat
  fields : Option Material
  deriving DecidableEq, Repr

/-- What STATUS reports (R184). -/
structure StatusView where
  phase : Phase
  entries : Nat
  head : Option (Nat × EntryState)
  freePages : Nat
  engine : EngineState
  bufferA : BufferState
  bufferB : BufferState
  pumpTarget : Nat
  pumpReady : Bool
  pumpReport : Option PumpReport
  pumpLink : LinkState
  transmitLength : Nat
  motionLink : LinkState
  override : Nat
  wearLevel : Nat
  jatnPending : Mask
  deriving DecidableEq, Repr

/-- What EVENTS_READ reports (R187). -/
structure EventsView where
  jatnPending : Mask
  matnPending : Mask
  jatnRoute : Mask
  matnRoute : Mask
  jatnMode : LineMode
  matnMode : LineMode
  deriving DecidableEq, Repr

/-- The values a response body carries, in the order its command's rule names them (R190). -/
inductive Payload where
  | empty
  | refusal (detail : Detail)
  | writePointer (pointer : Nat)
  | bufferSlot (state : BufferState) (pointer : Nat) (slot : Option SegRecord)
  | commitStatus (view : CommitView)
  | position (n : Nat)
  | pageAndState (page : Nat) (state : BufferState)
  | entry (view : EntryView)
  | queue (entries : List (Nat × EntryState))
  | count (n : Nat)
  | finished (entries : List Finished)
  | materialWritten (revision returned : Nat)
  | revision (n : Nat)
  | material (view : MaterialView)
  | config (record : MachineConfig)
  | counter (value remainder : Nat) (due : Bool)
  | level (n : Nat)
  | wear (block : Wear)
  | jatnSet (pendingSet : Mask)
  | events (view : EventsView)
  | status (view : StatusView)
  deriving DecidableEq, Repr

/-- A response: a status code and the values of its body (R182, R184). -/
structure Response where
  status : Status
  payload : Payload
  deriving DecidableEq, Repr

/-- The four conditions of JPI (R181): RECEIVING with the bytes of the command received so far, RESPONDING with the
response and the number of its bytes already read. -/
inductive PortCondition where
  | waitHeader
  | receiving (bytes : List Byte)
  | executing
  | responding (response : Response) (bytesRead : Nat)
  deriving DecidableEq, Repr

/-- JPI (R181). `dataOut` is the byte the port drove on the data lines at the last read. -/
structure JobPort where
  condition : PortCondition
  ovr : Bool
  dataOut : Byte
  deriving DecidableEq, Repr

end Sys2Proof.Machine
end

