-- ==== Sys2Proof/Decode.lean ====
section
/-! DEFINITION. The byte layouts of section 12.7 (R189, R190, R191): command bodies in both directions,
motion frames and pump messages; and `decodeTableWord`, for a table whose rows give no bits. -/

namespace Sys2Proof

/-- spec/opcode_table.json gives no row any bits (its "fields" are empty and no row has "fixed"), so no word spells a
command. -/
def decodeTableWord (_nbits _w : Nat) : Option Instr := none

/-! ### Multi-byte fields: low byte first (R189) -/

def join2 (b0 b1 : Byte) : BitVec 16 := b1 ++ b0

def join3 (b0 b1 b2 : Byte) : BitVec 24 := b2 ++ (b1 ++ b0)

def join4 (b0 b1 b2 b3 : Byte) : BitVec 32 := b3 ++ (b2 ++ (b1 ++ b0))

def split2 (x : BitVec 16) : List Byte := [x.extractLsb' 0 8, x.extractLsb' 8 8]

def split3 (x : BitVec 24) : List Byte := [x.extractLsb' 0 8, x.extractLsb' 8 8, x.extractLsb' 16 8]

def split4 (x : BitVec 32) : List Byte :=
  [x.extractLsb' 0 8, x.extractLsb' 8 8, x.extractLsb' 16 8, x.extractLsb' 24 8]

/-- The sum of some bytes modulo 256: 0 for a frame or message whose check byte agrees (R191). -/
def byteSum (bytes : List Byte) : Byte := bytes.foldr (· + ·) 0

/-! ### Segment records: 24 bytes (R189) -/

def SegRecord.bytes (r : SegRecord) : List Byte :=
  [r.kindByte, r.roleByte, r.radiusPresence, r.dwellPresence] ++ split3 r.lengthField ++ split3 r.radiusField
    ++ split2 r.headingIn ++ split2 r.headingOut ++ split4 r.endX ++ split4 r.endY ++ split2 r.dwellField

/-- The records of a BUF_WRITE body after its buffer and start_slot bytes, if it is a whole number of them. -/
def decodeRecords : List Byte → Option (List SegRecord)
  | [] => some []
  | k :: o :: rp :: dp :: l0 :: l1 :: l2 :: r0 :: r1 :: r2 :: i0 :: i1 :: u0 :: u1 :: x0 :: x1 :: x2 :: x3 :: y0 :: y1
      :: y2 :: y3 :: d0 :: d1 :: rest =>
    match decodeRecords rest with
    | some rs => some (⟨k, o, rp, dp, join3 l0 l1 l2, join3 r0 r1 r2, join2 i0 i1, join2 u0 u1, join4 x0 x1 x2 x3,
        join4 y0 y1 y2 y3, join2 d0 d1⟩ :: rs)
    | none => none
  | _ => none

/-! ### Command bodies (R190) -/

def Material.bytes (m : Material) : List Byte :=
  split2 m.vSep ++ split2 m.qf2 ++ split2 m.qf3 ++ split2 m.qf4 ++ split2 m.qf5
    ++ split2 m.cf0 ++ split2 m.cf1 ++ split2 m.cf2 ++ split2 m.cf3 ++ split2 m.cf4
    ++ split2 m.cf5 ++ split2 m.cf6 ++ split2 m.cf7 ++ split2 m.dw0 ++ split2 m.dw1
    ++ split2 m.dw2 ++ split2 m.dw3 ++ split2 m.dw4 ++ split2 m.dw5 ++ split2 m.dw6
    ++ split2 m.dw7 ++ split3 m.rCrit ++ split2 m.vFloor ++ split2 m.slope ++ split2 m.lif
    ++ split2 m.pCut ++ split2 m.pPierce ++ split2 m.pierceTime ++ split2 m.abrasiveRate

def decodeMaterial : List Byte → Option Material
  | b0 :: b1 :: b2 :: b3 :: b4 :: b5 :: b6 :: b7 :: b8 :: b9 :: b10 :: b11 :: b12 :: b13 :: b14 :: b15 :: b16 :: b17 ::
      b18 :: b19 :: b20 :: b21 :: b22 :: b23 :: b24 :: b25 :: b26 :: b27 :: b28 :: b29 :: b30 :: b31 :: b32 :: b33 :: b34 :: b35 ::
      b36 :: b37 :: b38 :: b39 :: b40 :: b41 :: b42 :: b43 :: b44 :: b45 :: b46 :: b47 :: b48 :: b49 :: b50 :: b51 :: b52 :: b53 ::
      b54 :: b55 :: b56 :: b57 :: b58 :: [] =>
    some ⟨join2 b0 b1, join2 b2 b3, join2 b4 b5, join2 b6 b7, join2 b8 b9, join2 b10 b11,
      join2 b12 b13, join2 b14 b15, join2 b16 b17, join2 b18 b19, join2 b20 b21, join2 b22 b23,
      join2 b24 b25, join2 b26 b27, join2 b28 b29, join2 b30 b31, join2 b32 b33, join2 b34 b35,
      join2 b36 b37, join2 b38 b39, join2 b40 b41, join3 b42 b43 b44, join2 b45 b46, join2 b47 b48,
      join2 b49 b50, join2 b51 b52, join2 b53 b54, join2 b55 b56, join2 b57 b58⟩
  | _ => none

def MachineConfig.bytes (c : MachineConfig) : List Byte :=
  split4 c.bedXMax ++ split4 c.bedYMax ++ split2 c.pumpPMin ++ split2 c.pumpPMax ++ split2 c.idlePressure
    ++ [c.readyBand] ++ [c.dropMargin] ++ [c.pressureTimeout] ++ split2 c.pumpReportTimeout ++ split2 c.motionLinkTimeout
    ++ split3 c.traverseSpeed

def decodeConfig : List Byte → Option MachineConfig
  | [b0, b1, b2, b3, b4, b5, b6, b7, b8, b9, b10, b11, b12, b13, b14, b15, b16, b17, b18, b19, b20, b21, b22, b23] =>
    some ⟨join4 b0 b1 b2 b3, join4 b4 b5 b6 b7, join2 b8 b9, join2 b10 b11, join2 b12 b13, b14,
      b15, b16, join2 b17 b18, join2 b19 b20, join3 b21 b22 b23⟩
  | _ => none

def decodeBufClear : List Byte → Option Instr
  | [b0] => some (.bufClear b0)
  | _ => none

def decodeBufRead : List Byte → Option Instr
  | [b0, b1] => some (.bufRead b0 b1)
  | _ => none

def decodeCommitStatus : List Byte → Option Instr
  | [b0] => some (.commitStatus b0)
  | _ => none

def decodeContourOpen : List Byte → Option Instr
  | [b0, b1, b2, b3, b4, b5, b6, b7, b8, b9, b10, b11, b12, b13, b14, b15, b16, b17, b18] => some (.contourOpen (join2 b0 b1) (join2 b2 b3) b4 b5 b6 b7
      b8 (join4 b9 b10 b11 b12) (join4 b13 b14 b15 b16) (join2 b17 b18))
  | _ => none

def decodeContourAppend : List Byte → Option Instr
  | [b0, b1, b2] => some (.contourAppend b0 (join2 b1 b2))
  | _ => none

def decodeContourReplace : List Byte → Option Instr
  | [b0, b1, b2, b3] => some (.contourReplace b0 (join2 b1 b2) b3)
  | _ => none

def decodeContourClose : List Byte → Option Instr
  | [b0, b1] => some (.contourClose (join2 b0 b1))
  | _ => none

def decodeContourDelete : List Byte → Option Instr
  | [b0, b1] => some (.contourDelete (join2 b0 b1))
  | _ => none

def decodeContourMove : List Byte → Option Instr
  | [b0, b1, b2, b3] => some (.contourMove (join2 b0 b1) (join2 b2 b3))
  | _ => none

def decodeContourQuery : List Byte → Option Instr
  | [b0, b1] => some (.contourQuery (join2 b0 b1))
  | _ => none

def decodeFilterSkip : List Byte → Option Instr
  | [b0, b1, b2, b3] => some (.filterSkip (join2 b0 b1) (join2 b2 b3))
  | _ => none

def decodeFinishedRead : List Byte → Option Instr
  | [b0] => some (.finishedRead b0)
  | _ => none

def decodeMatRead : List Byte → Option Instr
  | [b0] => some (.matRead b0)
  | _ => none

def decodeMatInvalidate : List Byte → Option Instr
  | [b0] => some (.matInvalidate b0)
  | _ => none

def decodeWearConfig : List Byte → Option Instr
  | [b0, b1, b2, b3, b4, b5] => some (.wearConfig b0 b1 (join4 b2 b3 b4 b5))
  | _ => none

def decodeWearLevels : List Byte → Option Instr
  | [b0, b1, b2, b3, b4, b5, b6, b7, b8, b9, b10, b11, b12, b13, b14, b15, b16, b17] => some (.wearLevels (join4 b0 b1 b2 b3) (join4 b4 b5 b6 b7) (join4 b8 b9 b10 b11) (join2 b12 b13) (join2 b14 b15) (join2 b16 b17))
  | _ => none

def decodeWearLoad : List Byte → Option Instr
  | [b0, b1, b2, b3, b4] => some (.wearLoad b0 (join4 b1 b2 b3 b4))
  | _ => none

def decodeWearReset : List Byte → Option Instr
  | [b0] => some (.wearReset b0)
  | _ => none

def decodeRouteSet : List Byte → Option Instr
  | [b0, b1, b2, b3, b4, b5] => some (.routeSet (join2 b0 b1) (join2 b2 b3) b4 b5)
  | _ => none

def decodeEventsAck : List Byte → Option Instr
  | [b0, b1] => some (.eventsAck (join2 b0 b1))
  | _ => none

/-- A BUF_WRITE body: a buffer byte, a start_slot byte and 1 to 32 records (R28, R190). -/
def decodeBufWrite : List Byte → Option Instr
  | buffer :: startSlot :: rest =>
    match decodeRecords rest with
    | some records => if 1 ≤ records.length ∧ records.length ≤ 32 then some (.bufWrite buffer startSlot records) else none
    | none => none
  | _ => none

def decodeMatWrite : List Byte → Option Instr
  | index :: rest => (decodeMaterial rest).map (.matWrite index)
  | [] => none

def decodeConfigSet (body : List Byte) : Option Instr := (decodeConfig body).map .configSet

/-- A command whose body is empty. -/
def emptyBody (i : Instr) (body : List Byte) : Option Instr := if body = [] then some i else none

/-- The job port command a code and a body spell: the codes of R183 with the bodies of R190. `none` for an unknown code or
a wrong length, which JPI answers BAD_COMMAND (R182). -/
def decodeCommand (code : Byte) (body : List Byte) : Option Instr :=
  match code.toNat with
  | 1 => decodeBufClear body
  | 2 => decodeBufWrite body
  | 3 => decodeBufRead body
  | 4 => decodeCommitStatus body
  | 5 => decodeContourOpen body
  | 6 => decodeContourAppend body
  | 7 => decodeContourReplace body
  | 8 => decodeContourClose body
  | 9 => decodeContourDelete body
  | 10 => decodeContourMove body
  | 11 => decodeContourQuery body
  | 12 => emptyBody .queueList body
  | 13 => decodeFilterSkip body
  | 14 => emptyBody .hold body
  | 15 => emptyBody .resume body
  | 16 => emptyBody .skip body
  | 17 => decodeFinishedRead body
  | 18 => decodeMatWrite body
  | 19 => decodeMatRead body
  | 20 => decodeMatInvalidate body
  | 21 => decodeConfigSet body
  | 22 => emptyBody .configRead body
  | 23 => decodeWearConfig body
  | 24 => decodeWearLevels body
  | 25 => decodeWearLoad body
  | 26 => decodeWearReset body
  | 27 => emptyBody .wearRead body
  | 28 => decodeRouteSet body
  | 29 => emptyBody .eventsRead body
  | 30 => decodeEventsAck body
  | 31 => emptyBody .status body
  | 32 => emptyBody .jobReset body
  | _ => none

/-- The code and the body bytes of a job port command (R183, R190); `none` for the steps that are no job port command. -/
def encodeCommand : Instr → Option (Byte × List Byte)
  | .bufClear buffer => some (1, [buffer])
  | .bufWrite buffer startSlot records => some (2, buffer :: startSlot :: records.flatMap SegRecord.bytes)
  | .bufRead buffer slot => some (3, [buffer, slot])
  | .commitStatus buffer => some (4, [buffer])
  | .contourOpen contourId tag material quality passes pierceMode closed startX startY beforeId =>
      some (5, split2 contourId ++ split2 tag ++ [material, quality, passes, pierceMode, closed] ++ split4 startX ++ split4 startY ++ split2 beforeId)
  | .contourAppend buffer contourId => some (6, [buffer] ++ split2 contourId)
  | .contourReplace buffer contourId listPosition => some (7, [buffer] ++ split2 contourId ++ [listPosition])
  | .contourClose contourId => some (8, split2 contourId)
  | .contourDelete contourId => some (9, split2 contourId)
  | .contourMove contourId beforeId => some (10, split2 contourId ++ split2 beforeId)
  | .contourQuery contourId => some (11, split2 contourId)
  | .queueList => some (12, [])
  | .filterSkip base mask => some (13, split2 base ++ split2 mask)
  | .hold => some (14, [])
  | .resume => some (15, [])
  | .skip => some (16, [])
  | .finishedRead n => some (17, [n])
  | .matWrite index record => some (18, index :: record.bytes)
  | .matRead index => some (19, [index])
  | .matInvalidate index => some (20, [index])
  | .configSet record => some (21, record.bytes)
  | .configRead => some (22, [])
  | .wearConfig counter source limit => some (23, [counter, source] ++ split4 limit)
  | .wearLevels t1 t2 t3 d1 d2 d3 =>
      some (24, split4 t1 ++ split4 t2 ++ split4 t3 ++ split2 d1 ++ split2 d2 ++ split2 d3)
  | .wearLoad counter value => some (25, [counter] ++ split4 value)
  | .wearReset counter => some (26, [counter])
  | .wearRead => some (27, [])
  | .routeSet jatnRoute matnRoute jatnMode matnMode =>
      some (28, split2 jatnRoute ++ split2 matnRoute ++ [jatnMode, matnMode])
  | .eventsRead => some (29, [])
  | .eventsAck mask => some (30, split2 mask)
  | .status => some (31, [])
  | .jobReset => some (32, [])
  | .powerOnReset | .commandByteWrite _ _ | .responseByteRead | .statusByteRead | .jobPortWriteIgnored _
  | .commandByteGap | .commitComplete | .contourPlanComplete | .activeJobComplete | .motionFrameStart
  | .motionFrameComplete _ | .motionFrameCutShort | .motionLinkTimeout | .pressureWaitExpiry | .pierceTimerExpiry
  | .pumpMessageTransmitted | .pumpStatus _ | .pumpAssemblyTimeout | .pumpReportTimeout | .wearTimeUnit _
  | .attentionPulseEnd _ | .attentionPulseGapEnd _ | .pumpByteReceived _ | .millisecondTick => none

/-- All the bytes of a command as the station writes them: code, body length, body (R189). -/
def commandBytes (code : Byte) (body : List Byte) : List Byte :=
  code :: (split2 (BitVec.ofNat 16 body.length) ++ body)

end Sys2Proof

namespace Sys2Proof.Machine

/-! ### Enumerations: one byte, numbered from 0 in the order of their defining tables (R184) -/

def Kind.code : Kind → Byte
  | .line => 0
  | .arcCw => 1
  | .arcCcw => 2
  | .bridge => 3

/-- The kind a record's byte names, if any (R189). -/
def Kind.ofByte (b : Byte) : Option Kind :=
  if b = 0 then some .line else if b = 1 then some .arcCw else if b = 2 then some .arcCcw
  else if b = 3 then some .bridge else none

/-- The role a record's byte names, if any (R189). -/
def Role.ofByte (b : Byte) : Option Role :=
  if b = 0 then some .leadIn else if b = 1 then some .body else if b = 2 then some .leadOut else none

/-- Buffers in the order of R37 and R26: 0 is A, 1 is B. -/
def BufferName.ofByte (b : Byte) : Option BufferName :=
  if b = 0 then some .a else if b = 1 then some .b else none

def PierceMode.ofByte (b : Byte) : Option PierceMode :=
  if b = 0 then some .lowStationary else if b = 1 then some .fullStationary else if b = 2 then some .edgeStart else none

/-- Field `closed`: R2 lists its values "yes, no", so 0 is yes and 1 is no (DEDUCED, notes/assumptions/3.md). -/
def closedOfByte (b : Byte) : Option Bool :=
  if b = 0 then some true else if b = 1 then some false else none

/-- Wear sources in the order of R175. -/
def WearSource.ofByte (b : Byte) : Option WearSource :=
  if b = 0 then some .abrasiveTime else if b = 1 then some .valveTime else if b = 2 then some .pierces
  else if b = 3 then some .cutLength else none

/-- Line modes: 0 LEVEL, 1 PULSE (R188). -/
def LineMode.ofByte (b : Byte) : Option LineMode :=
  if b = 0 then some .level else if b = 1 then some .pulse else none

/-- Status codes 0 to 12 (R184). -/
def Status.code : Status → Byte
  | .ok => 0
  | .busy => 1
  | .badArg => 2
  | .notFound => 3
  | .duplicate => 4
  | .wrongState => 5
  | .full => 6
  | .inUse => 7
  | .gap => 8
  | .invalidRecord => 9
  | .invalidContour => 10
  | .notReady => 11
  | .badCommand => 12

/-- Reason codes of R5 take their Order column as value (R184). -/
def ContourReason.code : ContourReason → Nat
  | .noSegments => 1
  | .roleOrder => 2
  | .bridgePlacement => 3
  | .multipassOpen => 4
  | .multipassLeads => 5

/-- Reason codes of R25 take their Order column as value (R184). -/
def RecordReason.code : RecordReason → Nat
  | .badKind => 1
  | .badRole => 2
  | .badLength => 3
  | .radiusAbsent => 4
  | .radiusPresent => 5
  | .badRadius => 6
  | .badHeading => 7
  | .headingMismatch => 8
  | .badSweep => 9
  | .xOutOfBed => 10
  | .yOutOfBed => 11
  | .badDwell => 12
  | .dwellOnBridge => 13

/-! ### Motion frames (R191) -/

/-- The check byte, chosen so that the frame or message sums to 0 modulo 256. -/
def withCheck (bytes : List Byte) : List Byte := bytes ++ [-(byteSum bytes)]

def zeros (n : Nat) : List Byte := List.replicate n 0

def Control.kindCode : Control → Byte
  | .contourBegin _ => 1
  | .traverse _ _ _ => 2
  | .holdAt => 4
  | .halt => 5
  | .abort => 6
  | .contourEnd _ => 7

/-- Bytes 3 to 26 of a control record's frame. -/
def Control.fieldBytes : Control → List Byte
  | .contourBegin contour => split2 (BitVec.ofNat 16 contour) ++ zeros 22
  | .traverse x y speed =>
    split4 (BitVec.ofNat 32 x) ++ split4 (BitVec.ofNat 32 y) ++ split3 (BitVec.ofNat 24 speed) ++ zeros 13
  | .holdAt => zeros 24
  | .halt => zeros 24
  | .abort => zeros 24
  | .contourEnd contour => split2 (BitVec.ofNat 16 contour) ++ zeros 22

/-- SEG flags: bit 0 jet, bit 1 overspeed, bit 2 last-of-pass, bit 3 radius present. -/
def SegOut.flags (r : SegOut) : Byte :=
  (if r.jet then 1 else 0) ||| (if r.overspeed then 2 else 0) ||| (if r.lastOfPass then 4 else 0)
    ||| (if r.radius.isSome then 8 else 0)

/-- Bytes 3 to 26 of a SEG record's frame. -/
def SegOut.fieldBytes (r : SegOut) : List Byte :=
  split2 (BitVec.ofNat 16 r.contour) ++ [r.kind.code, r.flags] ++ split4 (BitVec.ofNat 32 r.endX)
    ++ split4 (BitVec.ofNat 32 r.endY) ++ split3 (BitVec.ofNat 24 (r.radius.getD 0)) ++ split2 (BitVec.ofNat 16 r.entry)
    ++ split2 (BitVec.ofNat 16 r.exit) ++ split2 (BitVec.ofNat 16 r.peak) ++ split2 (BitVec.ofNat 16 r.dwell) ++ [0]

/-- Bytes 0 to 2 and the rest of the frame of a placed record: its kind in the order of R137, its serial (0 for EMPTY) and
its fields; byte 27 is the check. -/
def Placed.frame (p : Placed) : List Byte :=
  match p.body with
  | .empty pendingSet => withCheck ([0, 0, 0] ++ split2 pendingSet ++ zeros 22)
  | .control c => withCheck (c.kindCode :: (split2 (p.serial.getD 0) ++ c.fieldBytes))
  | .seg r => withCheck (3 :: (split2 (p.serial.getD 0) ++ r.fieldBytes))

/-- The report of a controller frame whose kind byte is `kind` and whose bytes 2 and 3 are `field` (R146, R191); `none`
for a kind outside the table, which fails the check of R134. -/
def Report.ofBytes (kind : Byte) (field : BitVec 16) : Option Report :=
  match kind.toNat with
  | 0 => some .nothing
  | 1 => some (.segDone field)
  | 2 => some (.arrived field)
  | 3 => some (.stopped field)
  | 4 => some .holdReq
  | 5 => some .resumeReq
  | 6 => some .skipReq
  | 7 => some .motionFault
  | 8 => some (.starvedStop field)
  | 9 => some .linkError
  | 10 => some (.eventAck field)
  | _ => none

/-- The override and the report of a controller frame, if it is accepted (R134): its 28 bytes sum to 0 modulo 256 and its
report kind is one of R146. -/
def decodeFrame (frame : Vector Byte 28) : Option (Byte × Report) :=
  if byteSum frame.toList = 0 then
    (Report.ofBytes frame[0] (join2 frame[2] frame[3])).map fun r => (frame[1], r)
  else none

/-! ### Pump messages (R191) -/

/-- The lead byte of a pump message. -/
def leadByte : Byte := 0xA5

/-- The six bytes of a message to the pump. -/
def PumpMessage.bytes : PumpMessage → List Byte
  | .setPressure target => withCheck ([leadByte, 1] ++ split2 (BitVec.ofNat 16 target) ++ [0])
  | .setValve .opened => withCheck [leadByte, 2, 1, 0, 0]
  | .setValve .closed => withCheck [leadByte, 2, 0, 0, 0]
  | .setAbrasive rate => withCheck ([leadByte, 3] ++ split2 (BitVec.ofNat 16 rate) ++ [0])

/-- The flow state of bits 4 and 5 of a STATUS message's byte 4; 3 is malformed (R191). -/
def Flow.ofCode (n : Nat) : Option Flow :=
  match n with
  | 0 => some .ok
  | 1 => some .low
  | 2 => some .noFlow
  | _ => none

/-- The report of a STATUS message, or `none` for a malformed message (R168, R191): lead byte, check byte, kind 16,
pressure at most 600, fault code at most 4, flow state OK, LOW or NONE. Bits 3, 6 and 7 of byte 4 are ignored. -/
def decodeStatus (message : List Byte) : Option PumpReport :=
  match message with
  | [lead, kind, p0, p1, codes, check] =>
    let pressure := (join2 p0 p1).toNat
    let code := codes.toNat % 8
    if lead = leadByte ∧ byteSum [lead, kind, p0, p1, codes, check] = 0 ∧ kind = 16 ∧ pressure ≤ 600 ∧ code ≤ 4 then
      (Flow.ofCode (codes.toNat / 16 % 4)).map fun flow => ⟨pressure, code, flow⟩
    else none
  | _ => none

end Sys2Proof.Machine
end

