-- ==== Sys2Proof/Machine/State.lean ====
section
/-! DEFINITION. The state of the part: what its twelve blocks hold (00_scope.md, block overview) and the queue of the
commands that are waiting. Plain data. -/

namespace Sys2Proof.Machine

open Sys2Proof

/-- Reasons the part stops with a fault. There is none: the spec gives every command an effect in every state, so no
meaning raises one. -/
inductive Fault where
  deriving DecidableEq, Repr

/-- Reasons a command has no meaning. -/
inductive Refusal where
  /-- Raised by an arm of exec for a command that has no meaning yet; safe. No arm raises it. -/
  | notModelled (mnemonic : String)
  deriving DecidableEq, Repr

/-- The whole part. -/
structure State where
  /-- The commands waiting, first in, first out. -/
  pending : List Instr
  /-- JPI (R181). -/
  port : JobPort
  /-- The machine configuration record, held beside JPI (R185). -/
  config : MachineConfig
  /-- Staging buffer A (R26). -/
  bufA : Buffer
  /-- Staging buffer B (R26). -/
  bufB : Buffer
  /-- The commits the write engine holds, oldest first: the first is being written (WRITING), a second waits; empty is IDLE
  (R32). -/
  engine : List Commit
  /-- The segment store (R41). -/
  store : Store
  /-- The free-page list, head first (R43). -/
  freePages : List Nat
  /-- The contour queue, head first (R1). -/
  queue : List Entry
  /-- The finished list, oldest first (R20). -/
  finished : List Finished
  /-- The material table (R53). -/
  materials : Vector MaterialRecord 24
  /-- PLN (R91). -/
  planner : Planner
  /-- JSQ (R110, R150). -/
  jsq : Sequencer
  /-- PST (R136). -/
  stream : Stream
  /-- MPI (R133, R135, R147). -/
  motion : MotionPort
  /-- PLK (R166). -/
  pump : PumpLink
  /-- WCT (R175). -/
  wear : Wear
  /-- ATR (R187, R188). -/
  attention : Attention
  deriving DecidableEq, Repr

namespace State

/-- The state with `pending` replaced. -/
def setPending (s : State) (x : List Instr) : State := ⟨x, s.port, s.config, s.bufA, s.bufB, s.engine, s.store, s.freePages, s.queue, s.finished, s.materials, s.planner, s.jsq, s.stream, s.motion, s.pump, s.wear, s.attention⟩

/-- The state with `port` replaced. -/
def setPort (s : State) (x : JobPort) : State := ⟨s.pending, x, s.config, s.bufA, s.bufB, s.engine, s.store, s.freePages, s.queue, s.finished, s.materials, s.planner, s.jsq, s.stream, s.motion, s.pump, s.wear, s.attention⟩

/-- The state with `config` replaced. -/
def setConfig (s : State) (x : MachineConfig) : State := ⟨s.pending, s.port, x, s.bufA, s.bufB, s.engine, s.store, s.freePages, s.queue, s.finished, s.materials, s.planner, s.jsq, s.stream, s.motion, s.pump, s.wear, s.attention⟩

/-- The state with `bufA` replaced. -/
def setBufA (s : State) (x : Buffer) : State := ⟨s.pending, s.port, s.config, x, s.bufB, s.engine, s.store, s.freePages, s.queue, s.finished, s.materials, s.planner, s.jsq, s.stream, s.motion, s.pump, s.wear, s.attention⟩

/-- The state with `bufB` replaced. -/
def setBufB (s : State) (x : Buffer) : State := ⟨s.pending, s.port, s.config, s.bufA, x, s.engine, s.store, s.freePages, s.queue, s.finished, s.materials, s.planner, s.jsq, s.stream, s.motion, s.pump, s.wear, s.attention⟩

/-- The state with `engine` replaced. -/
def setEngine (s : State) (x : List Commit) : State := ⟨s.pending, s.port, s.config, s.bufA, s.bufB, x, s.store, s.freePages, s.queue, s.finished, s.materials, s.planner, s.jsq, s.stream, s.motion, s.pump, s.wear, s.attention⟩

/-- The state with `store` replaced. -/
def setStore (s : State) (x : Store) : State := ⟨s.pending, s.port, s.config, s.bufA, s.bufB, s.engine, x, s.freePages, s.queue, s.finished, s.materials, s.planner, s.jsq, s.stream, s.motion, s.pump, s.wear, s.attention⟩

/-- The state with `freePages` replaced. -/
def setFreePages (s : State) (x : List Nat) : State := ⟨s.pending, s.port, s.config, s.bufA, s.bufB, s.engine, s.store, x, s.queue, s.finished, s.materials, s.planner, s.jsq, s.stream, s.motion, s.pump, s.wear, s.attention⟩

/-- The state with `queue` replaced. -/
def setQueue (s : State) (x : List Entry) : State := ⟨s.pending, s.port, s.config, s.bufA, s.bufB, s.engine, s.store, s.freePages, x, s.finished, s.materials, s.planner, s.jsq, s.stream, s.motion, s.pump, s.wear, s.attention⟩

/-- The state with `finished` replaced. -/
def setFinished (s : State) (x : List Finished) : State := ⟨s.pending, s.port, s.config, s.bufA, s.bufB, s.engine, s.store, s.freePages, s.queue, x, s.materials, s.planner, s.jsq, s.stream, s.motion, s.pump, s.wear, s.attention⟩

/-- The state with `materials` replaced. -/
def setMaterials (s : State) (x : Vector MaterialRecord 24) : State := ⟨s.pending, s.port, s.config, s.bufA, s.bufB, s.engine, s.store, s.freePages, s.queue, s.finished, x, s.planner, s.jsq, s.stream, s.motion, s.pump, s.wear, s.attention⟩

/-- The state with `planner` replaced. -/
def setPlanner (s : State) (x : Planner) : State := ⟨s.pending, s.port, s.config, s.bufA, s.bufB, s.engine, s.store, s.freePages, s.queue, s.finished, s.materials, x, s.jsq, s.stream, s.motion, s.pump, s.wear, s.attention⟩

/-- The state with `jsq` replaced. -/
def setJsq (s : State) (x : Sequencer) : State := ⟨s.pending, s.port, s.config, s.bufA, s.bufB, s.engine, s.store, s.freePages, s.queue, s.finished, s.materials, s.planner, x, s.stream, s.motion, s.pump, s.wear, s.attention⟩

/-- The state with `stream` replaced. -/
def setStream (s : State) (x : Stream) : State := ⟨s.pending, s.port, s.config, s.bufA, s.bufB, s.engine, s.store, s.freePages, s.queue, s.finished, s.materials, s.planner, s.jsq, x, s.motion, s.pump, s.wear, s.attention⟩

/-- The state with `motion` replaced. -/
def setMotion (s : State) (x : MotionPort) : State := ⟨s.pending, s.port, s.config, s.bufA, s.bufB, s.engine, s.store, s.freePages, s.queue, s.finished, s.materials, s.planner, s.jsq, s.stream, x, s.pump, s.wear, s.attention⟩

/-- The state with `pump` replaced. -/
def setPump (s : State) (x : PumpLink) : State := ⟨s.pending, s.port, s.config, s.bufA, s.bufB, s.engine, s.store, s.freePages, s.queue, s.finished, s.materials, s.planner, s.jsq, s.stream, s.motion, x, s.wear, s.attention⟩

/-- The state with `wear` replaced. -/
def setWear (s : State) (x : Wear) : State := ⟨s.pending, s.port, s.config, s.bufA, s.bufB, s.engine, s.store, s.freePages, s.queue, s.finished, s.materials, s.planner, s.jsq, s.stream, s.motion, s.pump, x, s.attention⟩

/-- The state with `attention` replaced. -/
def setAttention (s : State) (x : Attention) : State := ⟨s.pending, s.port, s.config, s.bufA, s.bufB, s.engine, s.store, s.freePages, s.queue, s.finished, s.materials, s.planner, s.jsq, s.stream, s.motion, s.pump, s.wear, x⟩

/-- A staging buffer after power-on reset and after JOB_RESET: FREE, every slot empty, write pointer 0 (R26), last result
NONE (R37). -/
def freshBuffer : Buffer := ⟨Vector.replicate 32 none, 0, .free, none⟩

/-- The free-page list after power-on reset and after JOB_RESET: all 256 pages in ascending order (R43). -/
def allPages : List Nat := List.range 256

/-- The machine configuration record's power-on values (R185). -/
def powerOnConfig : MachineConfig where
  bedXMax := 3600000
  bedYMax := 2100000
  pumpPMin := 0
  pumpPMax := 380
  idlePressure := 0
  readyBand := 5
  dropMargin := 30
  pressureTimeout := 20
  pumpReportTimeout := 1000
  motionLinkTimeout := 200
  traverseSpeed := 250000

/-- JSQ in IDLE with the jet shut and every item with a presence condition absent (R111, R132). -/
def idleSequencer : Sequencer where
  phase := .idle
  contour := none
  startMode := none
  traverseSerial := none
  arrived := none
  wait := none
  pierceMs := none
  valve := .closed
  abrasive := 0
  stopCause := none
  stopEnding := none

/-- PST after power-on reset and after JOB_RESET (R138, R149). -/
def freshStream : Stream where
  nextSerial := 0
  due := []
  again := none
  window := []
  lastKind := none
  cursor := none
  lastExit := none
  stopPlace := none
  holdAtMade := none

/-- A wear counter after power-on reset (R175). -/
def freshCounter (source : WearSource) : Counter := ⟨source, 0, 0, 0, false⟩

/-- The machine right after power-on reset: every field at the value its block's rule states, and SET_ABRASIVE 0 and
SET_VALVE close, which JSQ issues (R111), as the first two messages of the transmit list (R166). `dataOut` and `wire` are
the model's own fields (notes/assumptions/2.md). That no message is under assembly at power-on is the model's choice: R166
does not list the assembly of R168 (DESIGN CHOICE, notes/assumptions/35.md). -/
def reset : State where
  pending := []
  port := ⟨.waitHeader, false, 0⟩
  config := powerOnConfig
  bufA := freshBuffer
  bufB := freshBuffer
  engine := []
  store := []
  freePages := allPages
  queue := []
  finished := []
  materials := Vector.replicate 24 ⟨0, none⟩
  planner := ⟨none, false⟩
  jsq := idleSequencer
  stream := freshStream
  motion := ⟨none, some 200, .ok, 100⟩
  pump := ⟨[.setAbrasive 0, .setValve .closed], 0, false, none, 0, .ok, some 1000, none, []⟩
  wear := ⟨freshCounter .abrasiveTime, freshCounter .pierces, freshCounter .valveTime, freshCounter .cutLength,
    0, 0, 0, 256, 256, 256, 0⟩
  attention := ⟨⟨0x7FFF, .level, 0, .idle, false⟩, ⟨0x05F0, .level, 0, .idle, false⟩⟩

end State

end Sys2Proof.Machine
end

