-- ==== Sys2Proof/Machine/Flags.lean ====
section
/-! DEFINITION. The attention router and the status flags: raising and acknowledging sources, line levels and pulses
(R187, R188), the job port's status byte and DRQ (R181, R182, R189). -/

namespace Sys2Proof.Machine

open Sys2Proof

/-- Number of a source (R187). -/
def Source.number : Source → Nat
  | .commitDone => 1
  | .planDone => 2
  | .contourStart => 3
  | .contourEnd => 4
  | .held => 5
  | .pumpFault => 6
  | .pressureTimeout => 7
  | .pumpLinkLost => 8
  | .motionLinkFault => 9
  | .overspeed => 10
  | .starved => 11
  | .wearService => 12
  | .wearLevel => 13
  | .queueIdle => 14
  | .abrasiveLow => 15

/-- The mask of one source: bit n - 1 for source n (R184). -/
def Source.bit (src : Source) : Mask := 1#16 <<< (src.number - 1)

/-- A mask as ATR holds it: bit 15 is ignored (R184). -/
def usedBits (m : Mask) : Mask := m &&& 0x7FFF

/-- A source is raised on one line (R187): where it is routed there and not pending, it becomes pending, and in PULSE mode
the change under way is marked (R188). -/
def Line.raise (bit : Mask) (l : Line) : Line :=
  if l.route &&& bit = 0 ∨ l.pending &&& bit ≠ 0 then l
  else { l with pending := l.pending ||| bit, fresh := l.fresh || l.mode == .pulse }

/-- The acknowledgement of a set of sources on one line (R187, R148). -/
def Line.acknowledge (mask : Mask) (l : Line) : Line := { l with pending := l.pending &&& ~~~mask }

/-- The end of a change on one line (R188): a change that made a routed source pending starts a pulse, or, in a pulse, owes
one further pulse; in the gap before a further pulse it adds none. -/
def Line.settle (l : Line) : Line :=
  if l.fresh then
    { l with
      fresh := false
      pulse :=
        match l.pulse with
        | .idle => .high false
        | .high _ => .high true
        | .gap => .gap }
  else l

/-- A line's output (R188): asserted in LEVEL mode while its set is not empty, in PULSE mode during a pulse. -/
def Line.asserted (l : Line) : Bool :=
  match l.mode, l.pulse with
  | .level, _ => l.pending != 0
  | .pulse, .high _ => true
  | .pulse, _ => false

/-- ROUTE_SET on one line (R188): the route and the mode are replaced; a line whose mode changes has no pulse in progress
and none owed. -/
def Line.reroute (route : Mask) (mode : LineMode) (l : Line) : Line :=
  { l with route := usedBits route, mode := mode, pulse := if mode = l.mode then l.pulse else .idle }

/-- ATR's part of JOB_RESET (R186): the set is emptied, a pulse in progress completes, and a further pulse owed is not
given. -/
def Line.clearSet (l : Line) : Line :=
  { l with
    pending := 0
    pulse :=
      match l.pulse with
      | .high _ => .high false
      | _ => .idle }

/-- The end of a pulse: an owed further pulse waits its 1 µs (R188). -/
def Line.pulseEnd (l : Line) : Line :=
  match l.pulse with
  | .high true => { l with pulse := .gap }
  | .high false => { l with pulse := .idle }
  | _ => l

/-- The end of the 1 µs after a pulse: the owed further pulse begins (R188). -/
def Line.gapEnd (l : Line) : Line :=
  match l.pulse with
  | .gap => { l with pulse := .high false }
  | _ => l

/-- An operation on the named line. -/
def Attention.onLine (name : LineName) (f : Line → Line) (a : Attention) : Attention :=
  match name with
  | .jatn => { a with jatn := f a.jatn }
  | .matn => { a with matn := f a.matn }

namespace State

/-- A block raises a source to the attention router (R187). -/
def raise (src : Source) (s : State) : State :=
  s.setAttention ⟨s.attention.jatn.raise src.bit, s.attention.matn.raise src.bit⟩

/-- The end of one change: each line gives at most one pulse for it (R188). -/
def settle (s : State) : State := s.setAttention ⟨s.attention.jatn.settle, s.attention.matn.settle⟩

/-- Whether body bytes of the command under way are still expected (R182). -/
def expectsBody : PortCondition → Bool
  | .receiving (_ :: n0 :: n1 :: body) => decide (body.length < (join2 n0 n1).toNat)
  | _ => false

/-- DRQ: asserted in RECEIVING while at least one body byte is still expected (R182). -/
def drq (s : State) : Bool := expectsBody s.port.condition

/-- JATN. -/
def jatn (s : State) : Bool := s.attention.jatn.asserted

/-- MATN. -/
def matn (s : State) : Bool := s.attention.matn.asserted

/-- The job port status byte (R181, R189): RDY, RSP, CMD, OVR and ATN in bits 0 to 4. -/
def statusByte (s : State) : Byte :=
  let condition : Byte :=
    match s.port.condition with
    | .waitHeader => 1
    | .receiving _ => 1
    | .executing => 4
    | .responding _ _ => 3
  condition ||| (if s.port.ovr then 8 else 0) ||| (if s.jatn then 16 else 0)

end State

end Sys2Proof.Machine
end

