-- ==== Sys2Proof/Machine/Operands.lean ====
section
/-! DEFINITION. Reading operands: the fields of a segment record and its validation (R24, R25), the contour structure
checks (R5), the range and ordering checks of the material, configuration and wear commands, and the pressure clamp. -/

namespace Sys2Proof.Machine

open Sys2Proof

/-! ### Segment records -/

def segKind (r : SegRecord) : Kind := (Kind.ofByte r.kindByte).getD .bridge

def segRole (r : SegRecord) : Role := (Role.ofByte r.roleByte).getD .leadOut

def segLength (r : SegRecord) : Nat := r.lengthField.toNat

/-- The radius, absent where its presence byte is 0 (R189). -/
def segRadius (r : SegRecord) : Option Nat := if r.radiusPresence = 0 then none else some r.radiusField.toNat

/-- The dwell request, absent where its presence byte is 0 (R189). -/
def segDwell (r : SegRecord) : Option Nat := if r.dwellPresence = 0 then none else some r.dwellField.toNat

def segHeadingIn (r : SegRecord) : Nat := r.headingIn.toNat

def segHeadingOut (r : SegRecord) : Nat := r.headingOut.toNat

def isBridge (r : SegRecord) : Bool := segKind r == .bridge

def isArc (k : Kind) : Bool := k == .arcCw || k == .arcCcw

/-- The sweep of an arc, modulo 4096 (R25). -/
def sweep (k : Kind) (headingIn headingOut : Nat) : Nat :=
  match k with
  | .arcCw => (headingIn + 4096 - headingOut) % 4096
  | _ => (headingOut + 4096 - headingIn) % 4096

/-- Validation of one record: the first check of R25's table that fails, under the bed limits in force. -/
def recordFault (config : MachineConfig) (r : SegRecord) : Option RecordReason :=
  match Kind.ofByte r.kindByte with
  | none => some .badKind
  | some k =>
    if (Role.ofByte r.roleByte).isNone then some .badRole
    else if segLength r < 1 ∨ 4194303 < segLength r then some .badLength
    else if isArc k ∧ (segRadius r).isNone then some .radiusAbsent
    else if ¬ isArc k ∧ (segRadius r).isSome then some .radiusPresent
    else if (segRadius r).any (fun x => x < 500 || 4194303 < x) then some .badRadius
    else if 4095 < segHeadingIn r ∨ 4095 < segHeadingOut r then some .badHeading
    else if ¬ isArc k ∧ segHeadingIn r ≠ segHeadingOut r then some .headingMismatch
    else if isArc k ∧ (sweep k (segHeadingIn r) (segHeadingOut r) < 1 ∨ 2047 < sweep k (segHeadingIn r) (segHeadingOut r))
      then some .badSweep
    else if config.bedXMax.toNat < r.endX.toNat then some .xOutOfBed
    else if config.bedYMax.toNat < r.endY.toNat then some .yOutOfBed
    else if (segDwell r).any (fun x => x < 1 || 2000 < x) then some .badDwell
    else if k = .bridge ∧ (segDwell r).isSome then some .dwellOnBridge
    else none

/-- The first slot whose record fails, counted from `slot`, with its reason (R33). -/
def firstRecordFault (config : MachineConfig) (slot : Nat) : List SegRecord → Option (Nat × RecordReason)
  | [] => none
  | r :: rs =>
    match recordFault config r with
    | some reason => some (slot, reason)
    | none => firstRecordFault config (slot + 1) rs

/-! ### Contour structure (R5) -/

def roleRank : Role → Nat
  | .leadIn => 0
  | .body => 1
  | .leadOut => 2

/-- The first segment, counted from `i`, whose role stands after a later role of the order LEAD_IN, BODY, LEAD_OUT
(DEDUCED, notes/assumptions/4.md). -/
def roleBreak (rank i : Nat) : List SegRecord → Option Nat
  | [] => none
  | r :: rs => if roleRank (segRole r) < rank then some i else roleBreak (roleRank (segRole r)) (i + 1) rs

/-- Index of the first BODY segment (`a` of R72). -/
def firstBody (segs : List SegRecord) : Nat := segs.findIdx (fun r => segRole r == .body)

/-- Number of BODY segments (`m` of R72). -/
def bodyCount (segs : List SegRecord) : Nat := segs.countP (fun r => segRole r == .body)

/-- Index of the last BODY segment, `a + m - 1`. -/
def lastBody (segs : List SegRecord) : Nat := firstBody segs + bodyCount segs - 1

/-- Whether segment `i` is a bridge that stands where check 3 of R5 forbids one. -/
def bridgeMisplaced (segs : List SegRecord) (i : Nat) : Bool :=
  match segs[i]? with
  | none => false
  | some r =>
    isBridge r && (segRole r != .body || i == firstBody segs || i == lastBody segs || i == 0 || i + 1 == segs.length
      || (segs[i - 1]?).any isBridge && i != 0 || (segs[i + 1]?).any isBridge)

/-- The contour structure checks of R5 in their order: the first that fails, with its segment index where R5 names one. -/
def structureFault (closed : Bool) (passes : Nat) (segs : List SegRecord) : Option (ContourReason × Option Nat) :=
  if segs.isEmpty then some (.noSegments, none)
  else if (roleBreak 0 0 segs).isSome then some (.roleOrder, roleBreak 0 0 segs)
  else if bodyCount segs = 0 then some (.roleOrder, none)
  else
    match (List.range segs.length).find? (bridgeMisplaced segs) with
    | some i => some (.bridgePlacement, some i)
    | none =>
      if 1 < passes ∧ closed = false then some (.multipassOpen, none)
      else if 1 < passes ∧ (segs.all (fun r => segRole r != .leadIn) ∨ segs.all (fun r => segRole r != .leadOut)) then
        some (.multipassLeads, none)
      else none

/-! ### Range and ordering checks -/

/-- A field to be checked: the offset of its first byte in the command body (R182, R190), its value and its range. -/
structure FieldCheck where
  offset : Nat
  value : Nat
  low : Nat
  high : Nat
  deriving DecidableEq, Repr

def FieldCheck.ok (f : FieldCheck) : Bool := decide (f.low ≤ f.value) && decide (f.value ≤ f.high)

/-- Offset of the first field out of its range. -/
def firstOutOfRange (fields : List FieldCheck) : Option Nat := (fields.find? (fun f => !f.ok)).map FieldCheck.offset

/-- Offset of the first field that is above the one before it; `(offset, value)` pairs from the lowest number up. -/
def firstRise : List (Nat × Nat) → Option Nat
  | (_, x) :: (o, y) :: rest => if x < y then some o else firstRise ((o, y) :: rest)
  | _ => none

/-- Offset of the first field that is below the one before it. -/
def firstFall : List (Nat × Nat) → Option Nat
  | (_, x) :: (o, y) :: rest => if y < x then some o else firstFall ((o, y) :: rest)
  | _ => none

/-- Values at consecutive two-byte offsets. -/
def atOffsets (start : Nat) : List Nat → List (Nat × Nat)
  | [] => []
  | x :: xs => (start, x) :: atOffsets (start + 2) xs

/-- Quality factors qf2 to qf5. -/
def qualityFactors (m : Material) : List Nat := [m.qf2.toNat, m.qf3.toNat, m.qf4.toNat, m.qf5.toNat]

/-- Corner factors cf0 to cf7. -/
def cornerFactors (m : Material) : List Nat :=
  [m.cf0.toNat, m.cf1.toNat, m.cf2.toNat, m.cf3.toNat, m.cf4.toNat, m.cf5.toNat, m.cf6.toNat, m.cf7.toNat]

/-- Corner dwells dw0 to dw7. -/
def cornerDwells (m : Material) : List Nat :=
  [m.dw0.toNat, m.dw1.toNat, m.dw2.toNat, m.dw3.toNat, m.dw4.toNat, m.dw5.toNat, m.dw6.toNat, m.dw7.toNat]

/-- Ranges of R54, in the order of its table, at the offsets MAT_WRITE's body gives the fields (R190); v_floor against its
lower bound only (R57). -/
def materialRanges (m : Material) : List FieldCheck :=
  ⟨1, m.vSep.toNat, 100, 65535⟩
    :: ((atOffsets 3 (qualityFactors m)).map (fun (o, x) => ⟨o, x, 1, 256⟩)
      ++ (atOffsets 11 (cornerFactors m)).map (fun (o, x) => ⟨o, x, 1, 256⟩)
      ++ (atOffsets 27 (cornerDwells m)).map (fun (o, x) => ⟨o, x, 0, 2000⟩)
      ++ [⟨43, m.rCrit.toNat, 500, 4194303⟩, ⟨46, m.vFloor.toNat, 1, 65535⟩, ⟨48, m.slope.toNat, 1, 4095⟩,
        ⟨50, m.lif.toNat, 1, 256⟩, ⟨52, m.pCut.toNat, 0, 420⟩, ⟨54, m.pPierce.toNat, 0, 420⟩,
        ⟨56, m.pierceTime.toNat, 0, 6000⟩, ⟨58, m.abrasiveRate.toNat, 0, 1200⟩])

/-- Checks 2 and 3 of R57: ranges, then the ordering rules of R55; the offset of the field named. -/
def materialFault (m : Material) : Option Nat :=
  (firstOutOfRange (materialRanges m)).orElse fun _ =>
    (firstRise ((1, 256) :: atOffsets 3 (qualityFactors m))).orElse fun _ =>
      (firstRise (atOffsets 11 (cornerFactors m))).orElse fun _ =>
        (firstFall (atOffsets 27 (cornerDwells m))).orElse fun _ =>
          if m.vSep.toNat < m.vFloor.toNat then some 46 else none

/-- Ranges of R185, in table order, at CONFIG_SET's offsets (R190). -/
def configRanges (c : MachineConfig) : List FieldCheck :=
  [⟨0, c.bedXMax.toNat, 1000000, 6000000⟩, ⟨4, c.bedYMax.toNat, 500000, 3000000⟩, ⟨8, c.pumpPMin.toNat, 0, 200⟩,
    ⟨10, c.pumpPMax.toNat, 100, 420⟩, ⟨12, c.idlePressure.toNat, 0, 420⟩, ⟨14, c.readyBand.toNat, 1, 20⟩,
    ⟨15, c.dropMargin.toNat, 10, 100⟩, ⟨16, c.pressureTimeout.toNat, 2, 60⟩,
    ⟨17, c.pumpReportTimeout.toNat, 200, 2000⟩, ⟨19, c.motionLinkTimeout.toNat, 20, 1000⟩,
    ⟨21, c.traverseSpeed.toNat, 1000, 500000⟩]

/-- Checks 1 and 2 of CONFIG_SET (R185): the offset of the field named. -/
def configFault (c : MachineConfig) : Option Nat :=
  (firstOutOfRange (configRanges c)).orElse fun _ => if c.pumpPMax.toNat < c.pumpPMin.toNat then some 8 else none

/-- The checks of WEAR_LEVELS (R180): the offset of the field named. -/
def wearLevelsFault (t1 t2 t3 d1 d2 d3 : Nat) : Option Nat :=
  (firstOutOfRange [⟨12, d1, 1, 256⟩, ⟨14, d2, 1, 256⟩, ⟨16, d3, 1, 256⟩]).orElse fun _ =>
    if t1 = 0 ∧ t2 ≠ 0 then some 4
    else if (t1 = 0 ∨ t2 = 0) ∧ t3 ≠ 0 then some 8
    else if t2 ≠ 0 ∧ t2 < t1 then some 4
    else if t3 ≠ 0 ∧ t3 < t2 then some 8
    else firstRise [(12, d1), (14, d2), (16, d3)]

/-- The header checks of CONTOUR_OPEN (R3, check 1), against the ranges of R2 and the bed limits in force. -/
def headerRanges (config : MachineConfig) (contourId material quality passes pierceMode closed startX startY : Nat) :
    List FieldCheck :=
  [⟨0, contourId, 1, 65535⟩, ⟨4, material, 0, 23⟩, ⟨5, quality, 1, 5⟩, ⟨6, passes, 1, 4⟩, ⟨7, pierceMode, 0, 2⟩,
    ⟨8, closed, 0, 1⟩, ⟨9, startX, 0, config.bedXMax.toNat⟩, ⟨13, startY, 0, config.bedYMax.toNat⟩]

/-! ### Pressures -/

/-- The pressure clamp of R63. -/
def clampPressure (config : MachineConfig) (p : Nat) : Nat :=
  if p < config.pumpPMin.toNat then config.pumpPMin.toNat
  else if config.pumpPMax.toNat < p then config.pumpPMax.toNat
  else p

/-- The clamp of R147 on a received override. -/
def clampOverride (o : Nat) : Nat := if o < 10 then 10 else if 150 < o then 150 else o

/-- Effective override of R68. -/
def effectiveOverride (o quality : Nat) : Nat := if quality = 1 then o else min o 100

end Sys2Proof.Machine
end

