-- ==== Sys2Proof/Machine/Plan.lean ====
section
/-! DEFINITION. Speed planning arithmetic (chapter 5) and the stop-boundary search (R107), over the segments of one
contour and the sampled inputs of one job. All quantities are whole numbers; every product is formed in full and every
division floors (R67). -/

namespace Sys2Proof.Machine

open Sys2Proof

/-- What a job plans: the contour's segments, its passes and quality, and the inputs sampled at the job's start (R66). -/
structure PlanInput where
  segs : List SegRecord
  passes : Nat
  quality : Nat
  inputs : JobInputs
  deriving DecidableEq, Repr

/-- A record standing for no segment; no reader of a contour that passed R5 meets it. -/
def blankRecord : SegRecord := ⟨0, 0, 0, 0, 0, 0, 0, 0, 0, 0, 0⟩

/-! ### Cut order (R50, R51) -/

/-- The successor of segment `i` in pass `p` (R50), or END. -/
def successor (segs : List SegRecord) (passes : Nat) (place : Place) : Cursor :=
  if 1 < passes ∧ place.index = lastBody segs ∧ place.pass < passes then .seg ⟨firstBody segs, place.pass + 1⟩
  else if place.index + 1 < segs.length then .seg ⟨place.index + 1, place.pass⟩
  else .fin

/-- The predecessor of segment `i` in pass `p` (R51). -/
def predecessor (segs : List SegRecord) (place : Place) : Option Place :=
  if place.index = firstBody segs ∧ 1 < place.pass then some ⟨lastBody segs, place.pass - 1⟩
  else if 0 < place.index then some ⟨place.index - 1, place.pass⟩
  else none

/-! ### Contour speed, ceilings and increments (sections 5.2, 5.3, 5.6) -/

/-- The quality factor: 256 for quality 1, qf_q otherwise (R54). -/
def qualityFactor (m : Material) (quality : Nat) : Nat :=
  if quality = 1 then 256 else (qualityFactors m).getD (quality - 2) 256

/-- The contour speed v_o (R69). -/
def contourSpeed (c : PlanInput) : Nat :=
  let vq := c.inputs.material.vSep.toNat * qualityFactor c.inputs.material c.quality / 256
  let vw := vq * c.inputs.factor / 256
  min 65535 (vw * c.inputs.override / 100)

/-- The ceiling of a cutting segment (R70). -/
def ceiling (m : Material) (vo : Nat) (r : SegRecord) : Nat :=
  let straight :=
    match segRadius r with
    | some radius => if isArc (segKind r) ∧ radius < m.rCrit.toNat then vo * radius / m.rCrit.toNat else vo
    | none => vo
  let led := if segRole r = .body then straight else straight * m.lif.toNat / 256
  max led m.vFloor.toNat

/-- The increment of a segment (R76). -/
def increment (m : Material) (r : SegRecord) : Nat := m.slope.toNat * segLength r / 1000

/-! ### Boundaries (sections 5.4 and 5.5) -/

/-- Deflection class of a turn (R71). -/
def deflectionClass (headingOut headingIn : Nat) : Nat :=
  let d := (headingIn + 4096 - headingOut) % 4096
  min 7 ((if 2048 < d then 4096 - d else d) / 256)

/-- A vertex limit and a dwell (R72). -/
structure Boundary where
  limit : Nat
  dwell : Nat
  deriving DecidableEq, Repr

/-- Vertex limit, before it is zeroed by a dwell, and corner dwell of a cutting boundary between two segments (R72). -/
def cornerTerm (m : Material) (vo : Nat) (before after : SegRecord) : Boundary :=
  let k := deflectionClass (segHeadingOut before) (segHeadingIn after)
  ⟨max m.vFloor.toNat (min (ceiling m vo before) (ceiling m vo after) * (cornerFactors m).getD k 0 / 256),
    (cornerDwells m).getD k 0⟩

/-- A limit becomes 0 where the dwell is greater than 0 (R72, R74). -/
def zeroed (limit dwell : Nat) : Boundary := ⟨if 0 < dwell then 0 else limit, dwell⟩

/-- The sum B of the increments of all BODY segments (R75). -/
def bodyIncrements (c : PlanInput) : Nat :=
  ((c.segs.filter (fun r => segRole r == .body)).map (increment c.inputs.material)).sum

/-- Limit and dwell of the body junction of a contour of several passes (R74, R75). -/
def junction (c : PlanInput) : Boundary :=
  let m := c.inputs.material
  let vo := contourSpeed c
  let seg (i : Nat) : SegRecord := c.segs.getD i blankRecord
  let a := firstBody c.segs
  let z := a + bodyCount c.segs
  let entry := cornerTerm m vo (seg (a - 1)) (seg a)
  let wrap := cornerTerm m vo (seg (z - 1)) (seg a)
  let out := cornerTerm m vo (seg (z - 1)) (seg z)
  let dwell := max (max entry.dwell (max wrap.dwell out.dwell))
    (max ((segDwell (seg (a - 1))).getD 0) ((segDwell (seg (z - 1))).getD 0))
  zeroed (min (min entry.limit (min wrap.limit out.limit)) ((bodyIncrements c - 1) / 2)) dwell

/-- Vertex limit and dwell of boundary `j` (R72). -/
def boundary (c : PlanInput) (j : Nat) : Boundary :=
  if j = 0 then ⟨0, 0⟩
  else
    match c.segs[j - 1]?, c.segs[j]? with
    | none, _ => ⟨0, 0⟩
    | some p, none => ⟨0, (segDwell p).getD 0⟩
    | some p, some q =>
      if isBridge p then ⟨0, 0⟩
      else if isBridge q then ⟨0, (segDwell p).getD 0⟩
      else if 1 < c.passes ∧ (j = firstBody c.segs ∨ j = firstBody c.segs + bodyCount c.segs) then junction c
      else
        let t := cornerTerm c.inputs.material (contourSpeed c) p q
        zeroed t.limit (max t.dwell ((segDwell p).getD 0))

/-! ### The speed profile (section 5.8) -/

/-- Forward pass (R79): from the speed `b` of the first boundary, over the increment and the end limit of each segment. -/
def forwardPass (b : Nat) : List (Nat × Nat) → List Nat
  | [] => [b]
  | (inc, limit) :: rest => b :: forwardPass (min limit (b + inc)) rest

/-- Backward pass (R79): speeds of the boundaries and increments of the segments between them. -/
def backwardPass : List Nat → List Nat → List Nat
  | b :: bs, inc :: incs =>
    match backwardPass bs incs with
    | next :: rest => min b (next + inc) :: next :: rest
    | [] => [b]
  | bs, _ => bs

/-- Both passes over a range: the limits of its boundaries and the increments of its segments (R79). -/
def profile (limits incs : List Nat) : List Nat :=
  match limits with
  | [] => []
  | first :: rest => backwardPass (forwardPass first (incs.zip rest)) incs

/-- Speeds after the descent repair, each with the mark that it was raised (R81): a boundary of the range below the fixed
value minus its distance is raised to that difference. -/
def repair (value : Nat) (speeds dists : List Nat) : List (Nat × Bool) :=
  (speeds.zip dists).map fun (b, d) => if b < value - d then (value - d, true) else (b, false)

/-! ### Plan words (section 5.9) -/

/-- Peak of a cutting segment (R82). -/
def peakSpeed (entry exit inc ceil : Nat) : Nat := max (max entry exit) (min ceil ((entry + exit + inc) / 2))

/-- One planned boundary of a range: its speed, whether the repair raised it, and its vertex limit for R85. -/
structure Planned where
  speed : Nat
  raised : Bool
  limit : Nat
  deriving DecidableEq, Repr

/-- The plan word of segment `i` between two planned boundaries (R82 to R85). -/
def planWord (c : PlanInput) (i : Nat) (start stop : Planned) : PlanWord :=
  let r := c.segs.getD i blankRecord
  let m := c.inputs.material
  if isBridge r then ⟨0, 0, min 65535 c.inputs.traverse, false, (segDwell r).getD 0⟩
  else
    let ceil := ceiling m (contourSpeed c) r
    let peak := peakSpeed start.speed stop.speed (increment m r) ceil
    ⟨start.speed, stop.speed, peak,
      decide (start.limit < start.speed) || decide (stop.limit < stop.speed) || decide (ceil < peak) || start.raised
        || stop.raised,
      (boundary c (i + 1)).dwell⟩

/-- The plan words of consecutive segments of an index range, from segment `i` on. -/
def rangeWords (c : PlanInput) (i : Nat) : List Planned → List (Nat × PlanWord)
  | s :: t :: rest => (i, planWord c i s t) :: rangeWords c (i + 1) (t :: rest)
  | _ => []

/-! ### Jobs over an index range (R77, R78, R80, R90) -/

/-- Distance between boundaries `f` and `k` of a range (R81): sums of increments, and with an open wrap the way through
the junction, which stands for boundaries `a` and `z` together. -/
def rangeDistance (sumTo : Nat → Nat) (openWrap : Bool) (a z f k : Nat) : Nat :=
  let between (x y : Nat) : Nat := max (sumTo x) (sumTo y) - min (sumTo x) (sumTo y)
  if openWrap then min (between f k) (min (between f a) (between f z) + min (between k a) (between k z))
  else between f k

/-- The job has an open wrap (R77): passes above 1, and the computation begins in a pass before the last. -/
def openWrapAt (passes : Nat) : Option Cursor → Bool
  | none => decide (1 < passes)
  | some .fin => false
  | some (.seg place) => decide (1 < passes ∧ place.pass < passes)

/-- The boundary index of a fixed boundary: the start boundary of the next segment, or the contour's end (R77, R98). -/
def fixedIndex (n : Nat) : Cursor → Nat
  | .seg place => place.index
  | .fin => n

/-- The plan words a CONTOUR, ACTIVATION, REMAINDER or RESUME job writes, by segment index (R78). -/
def rangeJobWords (c : PlanInput) (fixed : Option FixedPoint) : List (Nat × PlanWord) :=
  let n := c.segs.length
  let a := firstBody c.segs
  let z := a + bodyCount c.segs
  let wrap := openWrapAt c.passes (fixed.map FixedPoint.cursor)
  let f := (fixed.map fun p => fixedIndex n p.cursor).getD 0
  let value := (fixed.map FixedPoint.value).getD 0
  let isFixed (j : Nat) : Bool := fixed.isSome && (j == f || (wrap && f == a && j == z))
  let lo := if wrap then min f a else f
  let js := (List.range (n + 1)).drop lo
  let incs := (c.segs.drop lo).map (increment c.inputs.material)
  let limits := js.map fun j => if isFixed j then value else (boundary c j).limit
  let first := profile limits incs
  let speeds :=
    if wrap then
      let joined := min (first.getD (a - lo) 0) (first.getD (z - lo) 0)
      profile (js.zip limits |>.map fun (j, l) => if j = a ∨ j = z then joined else l) incs
    else first
  let held := js.zip speeds |>.map fun (j, b) => if isFixed j then value else b
  let sumTo (j : Nat) : Nat := ((c.segs.take j).map (increment c.inputs.material)).sum
  let dists := js.map (rangeDistance sumTo wrap a z f)
  let repaired := if fixed.isSome then repair value held dists else held.map fun b => (b, false)
  let planned := js.zip repaired |>.map fun (j, b, up) => (⟨b, up, (boundary c j).limit⟩ : Planned)
  rangeWords c lo planned

/-! ### STOP jobs (R89, R107) -/

/-- Running sums, from 0. -/
def runningSums (s : Nat) : List Nat → List Nat
  | [] => [s]
  | x :: xs => s :: runningSums (s + x) xs

/-- The plan words of the segments of a chain, in cut order, between its planned boundaries. -/
def chainWords (c : PlanInput) : List Nat → List Planned → List (Nat × PlanWord)
  | i :: is, s :: t :: rest => (i, planWord c i s t) :: chainWords c is (t :: rest)
  | _, _ => []

/-- Limits of a chain's boundaries after its first: those of the segments' end boundaries, and 0 for the stop boundary. -/
def chainLimits (c : PlanInput) : List Nat → List Nat
  | [] => []
  | [_] => [0]
  | i :: is => (boundary c (i + 1)).limit :: chainLimits c is

/-- The plan words a STOP job writes: its chain from the fixed value to rest at the stop boundary (R89). -/
def stopJobWords (c : PlanInput) (value : Nat) (chain : List Nat) : List (Nat × PlanWord) :=
  match chain with
  | [] => []
  | i :: _ =>
    let incs := chain.map fun k => increment c.inputs.material (c.segs.getD k blankRecord)
    let ends := chainLimits c chain
    let speeds := (profile (value :: ends) incs).set 0 value
    let repaired := repair value speeds (runningSums 0 incs)
    let limits := (boundary c i).limit :: ends
    chainWords c chain (repaired.zip limits |>.map fun ((b, up), u) => ⟨b, up, u⟩)

/-- The walk of R107 from `place`, the segment to be crossed next: `planned i` is the exit speed in the plan word of
segment `i`, if written. -/
def stopWalk (c : PlanInput) (planned : Nat → Option Nat) (value : Nat) : Nat → Nat → Cursor → StopPlan
  | 0, _, place => ⟨[], place⟩
  | _ + 1, _, .fin => ⟨[], .fin⟩
  | fuel + 1, sum, .seg place =>
    let total := sum + increment c.inputs.material (c.segs.getD place.index blankRecord)
    let next := successor c.segs c.passes place
    if planned place.index = some 0 ∨ value ≤ total then ⟨[place.index], next⟩
    else
      let rest := stopWalk c planned value fuel total next
      ⟨place.index :: rest.chain, rest.place⟩

/-- The stop-boundary search (R107): F itself where the fixed value is 0, else the walk in cut order. -/
def stopSearch (c : PlanInput) (planned : Nat → Option Nat) (fixed : FixedPoint) : StopPlan :=
  if fixed.value = 0 then ⟨[], fixed.cursor⟩
  else stopWalk c planned fixed.value (c.passes * c.segs.length + 1) 0 fixed.cursor

/-- The plan words a job writes at its completion (R78). -/
def jobWords (c : PlanInput) (job : Job) : List (Nat × PlanWord) :=
  match job.kind with
  | .stop => stopJobWords c ((job.fixed.map FixedPoint.value).getD 0) ((job.stop.map StopPlan.chain).getD [])
  | _ => rangeJobWords c job.fixed

/-- The stop distance of R88, for stations: the part does not use it. -/
def stopDistance (v slope : Nat) : Nat := (v * 1000 + slope - 1) / slope

end Sys2Proof.Machine
end

