-- ==== Sys2Proof/Machine/Ops.lean ====
section
/-! DEFINITION. The operations the meanings share: the segment store and the page list (chapter 3), queue entries and
their removal (chapter 1), settings to the pump and the jet (R112, R167, R169), the due list (R139), the planning engine
(chapter 6), and responses on the job port (R182). -/

namespace Sys2Proof.Machine

open Sys2Proof

/-! ### The segment store -/

/-- The used slots of a page; none where nothing is listed (R41). -/
def pageAt : Store → Nat → Page
  | [], _ => []
  | (q, page) :: rest, p => if q = p then page else pageAt rest p

/-- The store with page `p` given new contents, in canonical form: page numbers strictly rising, no empty page. -/
def putPage (p : Nat) (page : Page) : Store → Store
  | [] => if page.isEmpty then [] else [(p, page)]
  | (q, old) :: rest =>
    if p < q then if page.isEmpty then (q, old) :: rest else (p, page) :: (q, old) :: rest
    else if p = q then if page.isEmpty then rest else (p, page) :: rest
    else (q, old) :: putPage p page rest

/-- Pages that return to the free-page list have no defined contents any more (R41). -/
def erasePages (pages : List Nat) (store : Store) : Store := pages.foldl (fun st p => putPage p [] st) store

/-- The canonical form of the store. -/
def storeWf : Store → Bool
  | [] => true
  | [(_, page)] => !page.isEmpty
  | (p, page) :: (q, next) :: rest => decide (p < q) && !page.isEmpty && storeWf ((q, next) :: rest)

/-- The walk of R46: the page and slot of segment `i` of a page list. -/
def locate (store : Store) : List Nat → Nat → Option (Nat × Nat)
  | [], _ => none
  | p :: rest, i =>
    let count := (pageAt store p).length
    if i < count then some (p, i) else locate store rest (i - count)

/-- The slot of segment `i` (R46). -/
def slotAt (store : Store) (pages : List Nat) (i : Nat) : Option Slot :=
  match locate store pages i with
  | some (p, k) => (pageAt store p)[k]?
  | none => none

/-- The segments of a page list in index order (R45). -/
def segmentsOf (store : Store) (pages : List Nat) : List SegRecord :=
  pages.flatMap fun p => (pageAt store p).map Slot.record

/-- The segment count of a page list (R45). -/
def countOf (store : Store) (pages : List Nat) : Nat := (pages.map fun p => (pageAt store p).length).sum

/-- Writes the plan word of segment `i` (R47). -/
def writeWord (pages : List Nat) (store : Store) (i : Nat) (word : PlanWord) : Store :=
  match locate store pages i with
  | some (p, k) =>
    match (pageAt store p)[k]? with
    | some slot => putPage p ((pageAt store p).set k { slot with word := some word }) store
    | none => store
  | none => store

/-- Writes the plan words of a job, all together (R48). -/
def writeWords (pages : List Nat) (store : Store) (words : List (Nat × PlanWord)) : Store :=
  words.foldl (fun st w => writeWord pages st w.1 w.2) store

/-- Number of the contour's plan words that carry the overspeed flag (R9). -/
def overspeedCount (store : Store) (pages : List Nat) : Nat :=
  ((pages.flatMap (pageAt store)).filter fun slot => slot.word.any PlanWord.overspeed).length

/-- A page as a commit writes it: the records in slot order, every plan word cleared (R34, R35). -/
def freshPage (records : List SegRecord) : Page := records.map fun r => ⟨r, none⟩

/-! ### Queue entries -/

/-- ACTIVE, HELD or FAILED: the entry has begun cutting (R1). -/
def EntryState.begun : EntryState → Bool
  | .active => true
  | .held => true
  | .failed => true
  | _ => false

/-- WAITING_PLAN, PLANNING or READY: the states a material write or a replace returns to WAITING_PLAN (R7, R57). -/
def EntryState.planned : EntryState → Bool
  | .waitingPlan => true
  | .planning => true
  | .ready => true
  | _ => false

/-- The entry returned to WAITING_PLAN (R7, R57): its plan stamp and overspeed count become absent. -/
def Entry.replan (e : Entry) : Entry := { e with state := .waitingPlan, stamp := none, overspeedCount := none }

/-- Position of the entry with this contour_id, counted from 1 at the head (R1). -/
def positionOf (queue : List Entry) (id : Nat) : Nat := queue.findIdx (fun e => e.contourId == id) + 1

/-- Placement (R4): the tail without a before_id; else immediately before the named entry, or immediately after it where
it is ACTIVE, HELD or FAILED. -/
def place (e : Entry) (before : Option Nat) (queue : List Entry) : List Entry :=
  match before with
  | none => queue ++ [e]
  | some id =>
    match queue with
    | [] => [e]
    | q :: rest =>
      if q.contourId = id then if q.state.begun then q :: e :: rest else e :: q :: rest
      else q :: place e (some id) rest

namespace State

/-- The entry with this contour_id. -/
def entry (s : State) (id : Nat) : Option Entry := s.queue.find? fun e => e.contourId == id

/-- Changes the entry with this contour_id. -/
def modifyEntry (id : Nat) (f : Entry → Entry) (s : State) : State :=
  s.setQueue (s.queue.map fun e => if e.contourId = id then f e else e)

/-- Changes the head entry. -/
def modifyHead (f : Entry → Entry) (s : State) : State :=
  s.setQueue
    (match s.queue with
    | [] => []
    | e :: rest => f e :: rest)

/-- The ACTIVE entry, which is the head (R1). -/
def activeEntry (s : State) : Option Entry :=
  match s.queue with
  | e :: _ => if e.state = .active then some e else none
  | [] => none

/-- The segments of an entry, in index order. -/
def segments (s : State) (e : Entry) : List SegRecord := segmentsOf s.store e.pages

/-- The segment count of an entry (R2, R45). -/
def segmentCount (s : State) (e : Entry) : Nat := countOf s.store e.pages

/-- The material fields of an entry's record. The record of every entry in the queue is VALID (R53); for an INVALID one,
which no block reads, all fields read 0. -/
def materialOf (s : State) (e : Entry) : Material :=
  s.materials[e.material].fields.getD
    ⟨0, 0, 0, 0, 0, 0, 0, 0, 0, 0, 0, 0, 0, 0, 0, 0, 0, 0, 0, 0, 0, 0, 0, 0, 0, 0, 0, 0, 0⟩

/-! ### Staging buffers -/

def buffer (s : State) : BufferName → Buffer
  | .a => s.bufA
  | .b => s.bufB

def setBuffer (s : State) (name : BufferName) (b : Buffer) : State :=
  match name with
  | .a => s.setBufA b
  | .b => s.setBufB b

/-! ### Settings to the pump and the jet -/

end State

def PumpMessage.isPressure : PumpMessage → Bool
  | .setPressure _ => true
  | _ => false

def PumpMessage.isValve : PumpMessage → Bool
  | .setValve _ => true
  | _ => false

/-- Removes the oldest SET_PRESSURE that has a later SET_PRESSURE behind it (R167). -/
def dropOutdated : List PumpMessage → List PumpMessage
  | [] => []
  | m :: rest => if m.isPressure && rest.any PumpMessage.isPressure then rest else m :: dropOutdated rest

/-- A message joins the tail of the transmit list; at 16 messages room is made behind the one in transmission (R167). -/
def enqueueMessage (m : PumpMessage) (list : List PumpMessage) : List PumpMessage :=
  if 16 ≤ list.length then
    (match list with
    | [] => []
    | first :: rest => first :: dropOutdated rest) ++ [m]
  else list ++ [m]

namespace State

/-- PLK takes a message to send (R167); a SET_PRESSURE sets the target, makes ready no and the sag count 0 (R169). -/
def issue (m : PumpMessage) (s : State) : State :=
  let p := { s.pump with transmit := enqueueMessage m s.pump.transmit }
  s.setPump
    (match m with
    | .setPressure target => { p with target := target, ready := false, sag := 0 }
    | _ => p)

/-- The jet-on pair (R112): SET_VALVE open, then SET_ABRASIVE with the rate. -/
def jetOn (rate : Nat) (s : State) : State :=
  let s := (s.issue (.setValve .opened)).issue (.setAbrasive rate)
  s.setJsq { s.jsq with valve := .opened, abrasive := rate }

/-- The jet-off pair (R112): SET_ABRASIVE 0, then SET_VALVE close. -/
def jetOff (s : State) : State :=
  let s := (s.issue (.setAbrasive 0)).issue (.setValve .closed)
  s.setJsq { s.jsq with valve := .closed, abrasive := 0 }

/-- SET_PRESSURE with a target passed through the clamp, and the pressure wait it opens (R63, R116). -/
def pressureStep (target : Nat) (s : State) : State :=
  let p := clampPressure s.config target
  let s := s.issue (.setPressure p)
  s.setJsq { s.jsq with wait := some ⟨p, s.config.pressureTimeout.toNat * 1000⟩ }

/-- The idle pressure (R128, R174): clamped, and opening no wait. -/
def issueIdlePressure (s : State) : State :=
  s.issue (.setPressure (clampPressure s.config s.config.idlePressure.toNat))

/-- First target of a start mode (R114, R123). -/
def firstTarget (m : Material) : PierceMode → Nat
  | .lowStationary => m.pPierce.toNat
  | .fullStationary => m.pCut.toNat
  | .edgeStart => m.pCut.toNat

/-- JSQ leaves a phase by the rules of chapter 9 (R131): waits and timers stop, the items of the start become absent. -/
def leavePhase (s : State) : State :=
  s.setJsq { s.jsq with wait := none, pierceMs := none, startMode := none, traverseSerial := none, arrived := none }

/-- JSQ in IDLE with no contour, stop cause or stop ending (R131, R150). -/
def sequencerIdle (s : State) : State :=
  let s := s.leavePhase
  s.setJsq { s.jsq with phase := .idle, contour := none, stopCause := none, stopEnding := none }

/-! ### The due list and the records in flight -/

/-- A control record is made due (R139). -/
def makeDue (c : Control) (s : State) : State := s.setStream { s.stream with due := s.stream.due ++ [c] }

end State

/-- TRAVERSE, HOLD_AT and HALT leave the due list when a HALT or ABORT is made due (R139). -/
def Control.superseded : Control → Bool
  | .traverse _ _ _ => true
  | .holdAt => true
  | .halt => true
  | _ => false

def RecordBody.isTraverse : RecordBody → Bool
  | .control (.traverse _ _ _) => true
  | _ => false

def RecordBody.isSeg : RecordBody → Bool
  | .seg _ => true
  | _ => false

/-- A SEG, TRAVERSE or HOLD_AT, which as the repeat record is dropped at a HALT or ABORT (R133). -/
def RecordBody.stopDrops (b : RecordBody) : Bool := b.isSeg || b.isTraverse || b == .control .holdAt

namespace State

/-- HALT or ABORT is made due (R139). -/
def makeStopDue (c : Control) (s : State) : State :=
  s.setStream
    { s.stream with
      due := s.stream.due.filter (fun d => !d.superseded) ++ [c]
      again := s.stream.again.filter fun p => !p.body.stopDrops }

/-- The ACTIVE entry stops being ACTIVE: a SEG or TRAVERSE placed for it is not delivered (R142) and not placed again
(R133), and the last exit sent becomes absent (R136). -/
def endActive (s : State) : State :=
  let own (p : Placed) : Bool := p.body.isSeg || p.body.isTraverse
  let s := s.setStream { s.stream with again := s.stream.again.filter (fun p => !own p), lastExit := none }
  s.setMotion
    { s.motion with
      exchange := s.motion.exchange.map fun x => if own x.placed then { x with cancelled := true } else x }

/-- PST empties the in-flight window. -/
def clearWindow (s : State) : State := s.setStream { s.stream with window := [] }

/-- PST makes HOLD_AT due where the send cursor stands at the stop place and none was made (R139). -/
def holdAtDue (s : State) : State :=
  match s.stream.stopPlace with
  | some (.seg place) =>
    if s.stream.cursor = some (.seg place) ∧ s.stream.holdAtMade = some false then
      let s := s.makeDue .holdAt
      s.setStream { s.stream with holdAtMade := some true }
    else s
  | _ => s

/-! ### The planning engine -/

/-- The engine state (R91). -/
def engineState (s : State) : EngineState :=
  match s.planner.job with
  | none => .idle
  | some job => if job.kind = .contour then .contourJob else .activeJob

/-- An active request is outstanding exactly in ACTIVE_JOB (R91). -/
def requestOutstanding (s : State) : Bool := s.engineState == .activeJob

/-- Derate factor of the current wear level (R178). -/
def derateFactor (w : Wear) : Nat :=
  match w.level with
  | 0 => 256
  | 1 => w.d1
  | 2 => w.d2
  | _ => w.d3

/-- The inputs a job for an entry samples at its start (R99). -/
def sampleInputs (s : State) (e : Entry) : JobInputs where
  material := s.materialOf e
  revision := s.materials[e.material].revision.toNat
  override := effectiveOverride s.motion.override e.quality
  level := s.wear.level
  factor := derateFactor s.wear
  traverse := s.config.traverseSpeed.toNat

/-- What a job for an entry plans. -/
def planInput (s : State) (e : Entry) (inputs : JobInputs) : PlanInput where
  segs := s.segments e
  passes := e.passes
  quality := e.quality
  inputs := inputs

/-- The engine, when IDLE, starts a contour plan for the first WAITING_PLAN entry (R8, R93, R94). -/
def chooseWork (s : State) : State :=
  match s.planner.job with
  | some _ => s
  | none =>
    match s.queue.find? fun e => e.state == .waitingPlan with
    | none => s
    | some e =>
      let s := s.setPlanner { s.planner with job := some ⟨.contour, e.contourId, s.sampleInputs e, none, none⟩ }
      s.modifyEntry e.contourId fun e => { e with state := .planning }

/-- A contour plan in flight for this contour_id is abandoned (R105); the engine does not choose yet. -/
def abandonPlan (id : Nat) (s : State) : State :=
  match s.planner.job with
  | some job => if job.kind = .contour ∧ job.contour = id then s.setPlanner { s.planner with job := none } else s
  | none => s

/-- An outstanding active request is dropped, its job with it, and the engine chooses again (R106). -/
def dropRequest (s : State) : State :=
  if s.requestOutstanding then (s.setPlanner { s.planner with job := none }).chooseWork else s

/-- The exit speed in the plan word of a segment, if written (R107). -/
def plannedExit (s : State) (e : Entry) (i : Nat) : Option Nat :=
  match slotAt s.store e.pages i with
  | some slot => slot.word.map PlanWord.exit
  | none => none

/-- The fixed point an active job takes at its start (R98). -/
def fixedPoint (s : State) : JobKind → Option FixedPoint
  | .contour => none
  | .activation => none
  | .remainder => s.stream.cursor.map fun c => ⟨c, s.stream.lastExit.getD 0⟩
  | .stop => s.stream.cursor.map fun c => ⟨c, s.stream.lastExit.getD 0⟩
  | .resume => s.stream.cursor.map fun c => ⟨c, 0⟩

/-- An active job starts for the ACTIVE entry: its fixed point, its inputs and, for a STOP, its stop-boundary search
(R95, R98, R99, R107). -/
def startActiveJob (kind : JobKind) (e : Entry) (s : State) : State :=
  let inputs := s.sampleInputs e
  let fixed := s.fixedPoint kind
  let stop :=
    if kind = .stop then fixed.map fun p => stopSearch (s.planInput e inputs) (s.plannedExit e) p else none
  s.setPlanner { s.planner with job := some ⟨kind, e.contourId, inputs, fixed, stop⟩ }

end State

/-- The request outstanding after an arriving one has merged with it; `none` where the arriving one is not made (R96). -/
def mergeRequest : JobKind → JobKind → Option JobKind
  | .stop, _ => none
  | _, .stop => some .stop
  | outstanding, .remainder => some outstanding
  | _, arriving => some arriving

namespace State

/-- PLN takes an active request for the ACTIVE entry (R95): a contour plan in flight is abandoned and its entry returns to
WAITING_PLAN; an outstanding request is merged (R96); the taking of a STOP sets the stop-taken mark (R97). -/
def takeRequest (kind : JobKind) (s : State) : State :=
  match s.activeEntry with
  | none => s
  | some e =>
    let s := if kind = .stop then s.setPlanner { s.planner with stopTaken := true } else s
    match s.planner.job with
    | none => s.startActiveJob kind e
    | some job =>
      if job.kind = .contour then
        (s.modifyEntry job.contour fun x => { x with state := .waitingPlan }).startActiveJob kind e
      else
        match mergeRequest job.kind kind with
        | some kind => s.startActiveJob kind e
        | none => s

/-! ### Leaving the queue -/

/-- An addition to the finished list (R20): at 16 entries the oldest is dropped first; CONTOUR_END is raised. -/
def addFinished (f : Finished) (s : State) : State :=
  (s.setFinished ((if 16 ≤ s.finished.length then s.finished.drop 1 else s.finished) ++ [f])).raise .contourEnd

/-- Passes completed of a skipped entry with progress (R19). -/
def passesCompleted (segs : List SegRecord) (p : Place) : Nat :=
  if p.index ≤ lastBody segs then p.pass - 1 else p.pass

/-- Segments done since the start of the done pass (R19). -/
def segmentsDone (segs : List SegRecord) (p : Place) : Nat :=
  if p.pass ≤ 1 then p.index else p.index - firstBody segs

/-- The finished-list entry of an entry that leaves with an outcome (R19, R20). -/
def finishedEntry (s : State) (e : Entry) (outcome : Outcome) : Finished :=
  let segs := s.segments e
  let counts : Nat × Nat :=
    match outcome with
    | .done => (e.passes, if e.passes = 1 then segs.length else segs.length - firstBody segs)
    | .skipped =>
      match e.donePlace with
      | some p => (passesCompleted segs p, segmentsDone segs p)
      | none => (0, 0)
  ⟨e.contourId, e.tag, outcome, counts.1, counts.2, e.holdCount, e.lastHoldCause⟩

/-- Removal of an entry (R19): its pages return to the tail of the free-page list in page-list order (R44), it leaves the
queue, and with an outcome it joins the finished list. Commits bound to it stay with the engine, unbound (R6). The send
cursor and the last exit sent of an entry that had begun become absent (R149). -/
def removeEntry (e : Entry) (outcome : Option Outcome) (s : State) : State :=
  let finished := outcome.map (s.finishedEntry e)
  let s := s.setFreePages (s.freePages ++ e.pages)
  let s := s.setStore (erasePages e.pages s.store)
  let s := s.setQueue (s.queue.filter fun x => x.contourId != e.contourId)
  let s := s.setEngine (s.engine.map fun c => if c.contour = e.contourId then { c with bound := false } else c)
  let s := if e.state.begun then s.setStream { s.stream with cursor := none, lastExit := none } else s
  match finished with
  | some f => s.addFinished f
  | none => s

/-! ### Responses on the job port -/

/-- JPI holds a response to be read (R181). -/
def respond (r : Response) (s : State) : State := s.setPort { s.port with condition := .responding r 0 }

end State

/-- What a job port command gives: its response and the state it leaves. -/
abbrev Reply := Response × State

/-- A response OK. -/
def okay (payload : Payload) (s : State) : Reply := (⟨.ok, payload⟩, s)

/-- A refusal: a status code and the detail its rule names; no state changes (R184). -/
def refuse (status : Status) (detail : Detail) (s : State) : Reply := (⟨status, .refusal detail⟩, s)

/-- A refusal that names no detail. -/
def refusePlain (status : Status) (s : State) : Reply := refuse status ⟨none, none, none, none⟩ s

/-- BAD_ARG, with the offset of the field's first byte in the command body (R182, R190). -/
def badArg (offset : Nat) (s : State) : Reply := refuse .badArg ⟨some offset, none, none, none⟩ s

/-- BAD_COMMAND, with an empty body (R182). -/
def badCommand : Response := ⟨.badCommand, .empty⟩

namespace State

/-- A job port command, complete, is handed to its block (R182): JPI passes EXECUTING and ends in RESPONDING with the
response, all in one change. A command written while JPI is in EXECUTING or RESPONDING is not taken: its bytes are ignored
and set OVR (R181; notes/assumptions/5.md). -/
def onJobPort (command : State → Reply) (s : State) : State :=
  match s.port.condition with
  | .waitHeader =>
    let reply := command (s.setPort { s.port with condition := .executing })
    reply.2.respond reply.1
  | .receiving _ =>
    let reply := command (s.setPort { s.port with condition := .executing })
    reply.2.respond reply.1
  | .executing => s.setPort { s.port with ovr := true }
  | .responding _ _ => s.setPort { s.port with ovr := true }

end State

end Sys2Proof.Machine
end

