-- ==== Sys2Proof/Machine/Sequence.lean ====
section
/-! DEFINITION. The course of the active contour: coming to rest (R154, R155), activation (R15, R16, R114), leaving by skip
or finish (R126, R157), faults (R158 to R161), and the sequencer's events (R116 to R124). -/

namespace Sys2Proof.Machine

open Sys2Proof

namespace State

/-! ### Coming to rest -/

/-- The place a cursor stands at; END is reported as the segment count in the last pass (R136). -/
def cursorPlace (segs : List SegRecord) (passes : Nat) : Cursor → Place
  | .seg place => place
  | .fin => ⟨segs.length, passes⟩

/-- A resume point that names a BRIDGE moves to the bridge's successor in cut order (R155). -/
def pastBridge (segs : List SegRecord) (passes : Nat) (p : Place) : Place :=
  if (segs[p.index]?).any isBridge then cursorPlace segs passes (successor segs passes p) else p

end State

/-- The entry's part of becoming HELD or FAILED (R155, R164, R18). -/
def Entry.hold (cause : Cause) (point : Place) (e : Entry) : Entry :=
  let failures := if e.restartMark then e.resumeFailures + 1 else e.resumeFailures
  { e with
    state := if e.restartMark ∧ 3 ≤ failures then .failed else .held
    resumeFailures := failures
    restartMark := false
    donePlace := some point
    resumePoint := some point
    holdCause := some cause
    lastHoldCause := some cause
    holdCount := min 255 (e.holdCount + 1) }

namespace State

/-- The ACTIVE entry becomes HELD, or FAILED at its third failed resume, at a resume point (R155): JSQ is IDLE with no
contour, an outstanding request is dropped (R106), and HELD is raised. -/
def becomeHeld (cause : Cause) (point : Place) (s : State) : State :=
  match s.activeEntry with
  | none => s
  | some e =>
    let point := pastBridge (s.segments e) e.passes point
    let s := s.modifyHead (Entry.hold cause point)
    ((s.endActive.sequencerIdle).dropRequest).raise .held

/-- The first half of an immediate rest (R154): HALT due, the jet shut if open, the phase left, the window emptied. -/
def restAtOnce (s : State) : State :=
  let s := s.makeStopDue .halt
  let s := if s.jsq.valve = .opened then s.jetOff else s
  s.leavePhase.clearWindow

/-- The resume point of an immediate rest: the send cursor (R154). -/
def restPoint (s : State) (e : Entry) : Place :=
  cursorPlace (s.segments e) e.passes (s.stream.cursor.getD (.seg ⟨0, 1⟩))

/-- An immediate rest that ends with the entry HELD (R154). -/
def immediateHold (cause : Cause) (s : State) : State :=
  match s.activeEntry with
  | none => s
  | some e => s.restAtOnce.becomeHeld cause (s.restPoint e)

/-! ### Activation -/

/-- JSQ starts a contour, at activation and at resume (R114, R115): a TRAVERSE to the pierce point, the first target and
its pressure wait, POSITIONING. -/
def startSequence (e : Entry) (mode : PierceMode) (x y : Nat) (s : State) : State :=
  let s := s.makeDue (.traverse x y s.config.traverseSpeed.toNat)
  let s := s.pressureStep (firstTarget (s.materialOf e) mode)
  s.setJsq
    { s.jsq with
      phase := .positioning
      contour := some e.contourId
      startMode := some mode
      traverseSerial := none
      arrived := some false }

/-- PST's part of an activation or of the acceptance of a resume (R149). -/
def startStream (place : Place) (s : State) : State :=
  s.setStream { s.stream with cursor := some (.seg place), lastExit := some 0, stopPlace := none, holdAtMade := none }

/-- The stamp an entry's plan would take now (R16, R68). -/
def currentStamp (s : State) (e : Entry) : Stamp :=
  ⟨s.materials[e.material].revision.toNat, effectiveOverride s.motion.override e.quality, s.wear.level⟩

/-- A silent pump link hands PUMP_LINK_LOST to an entry that becomes ACTIVE, which is in POSITIONING (R173). -/
def pumpSilenceAtStart (s : State) : State :=
  if s.pump.link = .silent then s.immediateHold .pumpLinkLost else s

/-- A silent motion link hands MOTION_LINK_FAULT to an entry that is activated (R135), before PUMP_LINK_LOST (R158). -/
def silenceAtStart (s : State) : State :=
  (if s.motion.link = .silent then s.immediateHold .motionLinkFault else s).pumpSilenceAtStart

end State

/-- The entry's part of its activation (R16, R150). -/
def Entry.activate (e : Entry) : Entry :=
  { e with
    state := .active
    donePlace := some ⟨0, 1⟩
    laterFault := some false
    resumeFailures := 0
    restartMark := false }

namespace State

/-- The head is activated (R16): CONTOUR_START, an ACTIVATION request where the plan stamp differs from the current
values, the start of the contour (R114), and the faults of silent links. -/
def activate (e : Entry) (s : State) : State :=
  let s := s.modifyHead Entry.activate
  let s := s.startStream ⟨0, 1⟩
  let s := s.setPlanner { s.planner with stopTaken := false }
  let s := s.raise .contourStart
  let s := if e.stamp = some (s.currentStamp e) then s else s.takeRequest .activation
  let s := s.makeDue (.contourBegin e.contourId)
  let s := s.startSequence e e.pierceMode e.startX e.startY
  s.silenceAtStart

/-- Whether the head entry can be activated (R15). -/
def canActivate (s : State) : Bool :=
  match s.queue with
  | e :: _ => s.jsq.phase == .idle && e.state == .ready && e.commitsPending == 0
  | [] => false

/-- CQU tries activation (R15). -/
def tryActivate (s : State) : State :=
  match s.queue with
  | e :: _ => if s.canActivate then s.activate e else s
  | [] => s

/-- CQU tries activation where the head has changed since `old` (R15). -/
def activateNewHead (old : State) (s : State) : State :=
  if (s.queue.head?).map Entry.contourId = (old.queue.head?).map Entry.contourId then s else s.tryActivate

/-- JSQ has become IDLE by a finish or a skip: activation is tried, and without a head that can be activated the idle
pressure is issued and QUEUE_IDLE raised (R127, R128). -/
def runOn (s : State) : State :=
  if s.canActivate then s.tryActivate else s.issueIdlePressure.raise .queueIdle

/-! ### Leaving the queue by skip or finish -/

end State

/-- The due list without the CONTOUR_BEGIN of a skipped entry and every record behind it (R139). -/
def dropUntold (id : Nat) : List Control → List Control
  | [] => []
  | c :: rest => if c = .contourBegin id then [] else c :: dropUntold id rest

namespace State

/-- A skipped head leaves the queue (R157): removal with outcome SKIPPED, JSQ IDLE, a request dropped, and R128. -/
def skipHead (s : State) : State :=
  match s.queue with
  | [] => s
  | e :: _ =>
    let s := if e.state = .active then s.endActive else s
    let s := s.removeEntry e (some .skipped)
    let s := s.setStream { s.stream with due := dropUntold e.contourId s.stream.due }
    (s.sequencerIdle.dropRequest).runOn

/-- An immediate rest of the ACTIVE entry, by a hold or a skip (R154): the done position is set to the resume point (R155,
R157). -/
def immediateRest (cause : Cause) (ending : Ending) (s : State) : State :=
  match s.activeEntry with
  | none => s
  | some e =>
    match ending with
    | .held => s.immediateHold cause
    | .skipped =>
      let point := pastBridge (s.segments e) e.passes (s.restPoint e)
      (s.restAtOnce.modifyHead fun e => { e with donePlace := some point }).skipHead

/-- The contour has been cut to its end (R126): removal with outcome DONE, CONTOUR_END due, FINISHING, the window empty
(R149). The jet is shut before, by the caller. -/
def finish (s : State) : State :=
  match s.queue with
  | [] => s
  | e :: _ =>
    let s := s.endActive.leavePhase.clearWindow
    let s := s.removeEntry e (some .done)
    let s := s.makeDue (.contourEnd e.contourId)
    (s.setJsq
      { s.jsq with phase := .finishing, contour := some e.contourId, stopCause := none, stopEnding := none }).dropRequest

/-- Whether the done position says that the contour has been cut to its end (R17, R161). -/
def cutToEnd (s : State) (e : Entry) : Bool :=
  match e.donePlace with
  | some p => p.index == s.segmentCount e && p.pass == e.passes
  | none => false

/-- The ACTIVE entry comes to rest, the jet already shut, at its done position (R159, R160, R161): the window is emptied;
a contour cut to its end is finished; else it becomes HELD, or leaves by skip, as the stop ending gives. -/
def restAtDone (cause : Cause) (ending : Ending) (s : State) : State :=
  match s.activeEntry with
  | none => s
  | some e =>
    let s := s.clearWindow
    if s.cutToEnd e then s.finish
    else
      match ending with
      | .held => s.becomeHeld cause (e.donePlace.getD ⟨0, 1⟩)
      | .skipped => s.skipHead

end State

/-! ### Wear counting (R176 to R178) -/

/-- A counter's limit is judged (R177): whether it becomes due now. -/
def Counter.becomesDue (c : Counter) : Bool := c.limit != 0 && decide (c.limit ≤ c.value) && !c.due

def Counter.judge (c : Counter) : Counter := if c.becomesDue then { c with due := true } else c

/-- A count of whole units, at most 4,294,967,295 (R175). -/
def Counter.add (n : Nat) (c : Counter) : Counter := { c with value := min 4294967295 (c.value + n) }

/-- One pierce (R176). -/
def Counter.pierce (c : Counter) : Counter := if c.source = .pierces then c.add 1 else c

/-- The length in µm of one cutting segment (R176). -/
def Counter.cut (length : Nat) (c : Counter) : Counter :=
  if c.source = .cutLength then
    { c.add ((c.remainder + length) / 1000) with remainder := (c.remainder + length) % 1000 }
  else c

/-- One millisecond of condition time (R176): at 100 ms the remainder returns to 0 and the value rises by 1. -/
def Counter.millisecond (c : Counter) : Counter :=
  if 100 ≤ c.remainder + 1 then { c.add 1 with remainder := 0 } else { c with remainder := c.remainder + 1 }

/-- Number of used thresholds at or below the value of counter 0 (R178). -/
def Wear.levelNow (w : Wear) : Nat :=
  let reached (t : Nat) : Nat := if t ≠ 0 ∧ t ≤ w.c0.value then 1 else 0
  reached w.t1 + reached w.t2 + reached w.t3

def Wear.counter (w : Wear) (i : Fin 4) : Counter :=
  match i with
  | 0 => w.c0
  | 1 => w.c1
  | 2 => w.c2
  | 3 => w.c3

def Wear.setCounter (w : Wear) (i : Fin 4) (c : Counter) : Wear :=
  match i with
  | 0 => { w with c0 := c }
  | 1 => { w with c1 := c }
  | 2 => { w with c2 := c }
  | 3 => { w with c3 := c }

/-- The same operation on all four counters. -/
def Wear.mapCounters (f : Counter → Counter) (w : Wear) : Wear :=
  { w with c0 := f w.c0, c1 := f w.c1, c2 := f w.c2, c3 := f w.c3 }

/-- Whether a counter becomes due. -/
def Wear.anyDue (w : Wear) : Bool :=
  w.c0.becomesDue || w.c1.becomesDue || w.c2.becomesDue || w.c3.becomesDue

namespace State

/-- The wear level is judged afresh from counter 0 (R178). -/
def judgeLevel (s : State) : State :=
  if s.wear.levelNow = s.wear.level then s
  else (s.setWear { s.wear with level := s.wear.levelNow }).raise .wearLevel

/-- All counters and the level are judged after a change (R177, R178). -/
def judgeWear (s : State) : State :=
  let due := s.wear.anyDue
  let s := s.setWear (s.wear.mapCounters Counter.judge)
  (if due then s.raise .wearService else s).judgeLevel

/-- A count on every counter, judged in the same change (R176, R177, R178). -/
def countWear (f : Counter → Counter) (s : State) : State := (s.setWear (s.wear.mapCounters f)).judgeWear

/-! ### Segments done -/

/-- CQU advances the done position of the entry past a segment reported done (R17). -/
def advanceDone (segs : List SegRecord) (passes : Nat) (index : Nat) (p : Place) : Place :=
  if index = lastBody segs ∧ p.pass < passes then ⟨firstBody segs, p.pass + 1⟩ else ⟨p.index + 1, p.pass⟩

/-- A segment is handed on as done (R144, R160): to CQU, which advances the done position and clears the restart mark and
the resume failures, and to the wear counters, with the length of a cutting segment. -/
def segmentDone (e : Entry) (index : Nat) (s : State) : State :=
  let segs := s.segments e
  let s := s.modifyHead fun x =>
    { x with
      donePlace := x.donePlace.map (advanceDone segs x.passes index)
      resumeFailures := 0
      restartMark := false }
  match segs[index]? with
  | some r => if isBridge r then s else s.countWear (Counter.cut (segLength r))
  | none => s

/-- The serial confirmation of R160: where the serial is in the window, it and every older one are handed on, oldest
first. -/
def confirm (serial : Serial) (e : Entry) (s : State) : State :=
  if s.stream.window.any fun f => f.serial == serial then
    let older := s.stream.window.takeWhile fun f => f.serial != serial
    let through := s.stream.window.take (older.length + 1)
    through.foldl (fun s f => s.segmentDone e f.place.index) s
  else s

/-! ### Faults -/

end State

/-- The hold cause of a fault (R158). -/
def FaultEvent.cause : FaultEvent → Cause
  | .pumpFault => .pumpFault
  | .pressureSag => .pressureSag
  | .pressureTimeout => .pressureTimeout
  | .pumpLinkLost => .pumpLinkLost
  | .linkSilence => .motionLinkFault
  | .linkCheck => .motionLinkFault
  | .motionFault => .motionFault
  | .starved _ => .starved

/-- The later fault seen field of the ACTIVE entry becomes yes (R158, R161). -/
def Entry.seeLaterFault (e : Entry) : Entry := { e with laterFault := some true }

namespace State

/-- The abort of a pump-class fault while the head cuts (R159): jet-off pair, ABORT due, ABORTING; an outstanding request
is dropped (R106). -/
def startAbort (cause : Cause) (ending : Ending) (s : State) : State :=
  let s := s.jetOff.makeStopDue .abort
  let s := s.leavePhase
  (s.setJsq { s.jsq with phase := .aborting, stopCause := some cause, stopEnding := some ending }).dropRequest

/-- A fault taken while the head cuts, by its class (R159). -/
def faultWhileCutting (f : FaultEvent) (ending : Ending) (e : Entry) (s : State) : State :=
  match f with
  | .pumpFault => s.startAbort f.cause ending
  | .pressureSag => s.startAbort f.cause ending
  | .pressureTimeout => s.startAbort f.cause ending
  | .pumpLinkLost => s.startAbort f.cause ending
  | .linkSilence => (s.jetOff.makeStopDue .abort).restAtDone f.cause ending
  | .linkCheck => (s.jetOff.makeStopDue .abort).restAtDone f.cause ending
  | .motionFault => s.jetOff.restAtDone f.cause ending
  | .starved serial => (s.jetOff.confirm serial e).restAtDone f.cause ending

/-- The end of ABORTING (R161): rest at the done position with the stop's cause and ending. -/
def endAbort (s : State) : State :=
  s.restAtDone (s.jsq.stopCause.getD .operator) (s.jsq.stopEnding.getD .held)

/-- A fault taken in ABORTING (R161): later fault seen is set; a controller stop or silence ends the abort. -/
def faultWhileAborting (f : FaultEvent) (e : Entry) (s : State) : State :=
  let s := s.modifyHead Entry.seeLaterFault
  match f with
  | .starved serial => (s.confirm serial e).endAbort
  | .motionFault => s.endAbort
  | .linkSilence => s.endAbort
  | .linkCheck => s
  | .pumpFault => s
  | .pressureSag => s
  | .pressureTimeout => s
  | .pumpLinkLost => s

/-- A fault reaches JSQ and is taken for the ACTIVE entry, by JSQ's phase (R158). -/
def takeFault (f : FaultEvent) (s : State) : State :=
  match s.activeEntry with
  | none => s
  | some e =>
    match s.jsq.phase with
    | .positioning => s.immediateHold f.cause
    | .piercePressure => s.immediateHold f.cause
    | .piercing => s.immediateHold f.cause
    | .cutPressure => s.immediateHold f.cause
    | .bridgeStop => s.immediateHold f.cause
    | .bridgeTravel => s.immediateHold f.cause
    | .cutting => s.faultWhileCutting f .held e
    | .holding =>
      let ending := s.jsq.stopEnding.getD .held
      let s := s.setJsq { s.jsq with stopCause := some f.cause }
      (s.modifyHead Entry.seeLaterFault).faultWhileCutting f ending e
    | .aborting => s.faultWhileAborting f e
    | .idle => s
    | .finishing => s

/-! ### Events of the sequencer -/

/-- JSQ enters PIERCING or, for EDGE_START, CUTTING, with the jet-on pair (R117). -/
def openJet (e : Entry) (s : State) : State :=
  let m := s.materialOf e
  let s := s.jetOn m.abrasiveRate.toNat
  if s.jsq.startMode = some .edgeStart then
    s.setJsq { s.jsq with phase := .cutting, startMode := none, traverseSerial := none, arrived := none }
  else
    s.setJsq
      { s.jsq with
        phase := .piercing
        pierceMs := some (m.pierceTime.toNat * 10)
        traverseSerial := none
        arrived := none }

/-- JSQ's step at the expiry of the pierce timer, by its start mode (R118). -/
def afterPierce (e : Entry) (s : State) : State :=
  match s.jsq.startMode with
  | some .lowStationary =>
    let s := s.pressureStep (s.materialOf e).pCut.toNat
    s.setJsq { s.jsq with phase := .cutPressure }
  | _ => s.setJsq { s.jsq with phase := .cutting, startMode := none }

/-- The expiry of a running pierce timer (R118, R130): a pierce is counted and JSQ steps on, in one change. -/
def pierceExpires (s : State) : State :=
  match s.activeEntry with
  | none => s
  | some e =>
    if s.jsq.phase = .piercing ∧ s.jsq.pierceMs ≠ none then
      (((s.setJsq { s.jsq with pierceMs := none }).countWear Counter.pierce).afterPierce e).settle
    else s

/-- A pierce timer that the change from `old` started with a pierce_time of 0 expires as soon as it is started: its expiry is
taken at once after that change, as a change of its own (R65, R118). -/
def pierceAtOnce (s old : State) : State :=
  if old.jsq.pierceMs = none ∧ s.jsq.pierceMs = some 0 then s.pierceExpires else s

/-- POSITIONING ends when the head has arrived and the pressure wait is closed (R117). -/
def positioningEnd (e : Entry) (s : State) : State :=
  if s.jsq.arrived = some true ∧ s.jsq.wait = none then s.openJet e else s

/-- ARRIVED reaches JSQ (R117, R129). -/
def onArrived (serial : Serial) (s : State) : State :=
  match s.activeEntry with
  | none => s
  | some e =>
    if s.jsq.phase = .positioning ∧ s.jsq.traverseSerial = some serial then
      (s.setJsq { s.jsq with arrived := some true }).positioningEnd e
    else s

/-- Pressure-ready reaches JSQ (R116, R117, R119, R124, R129). -/
def onPressureReady (s : State) : State :=
  match s.jsq.wait with
  | none => s
  | some _ =>
    let s := s.setJsq { s.jsq with wait := none }
    match s.activeEntry with
    | none => s
    | some e =>
      match s.jsq.phase with
      | .positioning => s.positioningEnd e
      | .piercePressure => s.openJet e
      | .cutPressure => s.setJsq { s.jsq with phase := .cutting, startMode := none }
      | _ => s

/-- The re-pierce after a bridge (R123): EDGE_START is taken as LOW_STATIONARY. -/
def startRepierce (e : Entry) (s : State) : State :=
  let mode := if e.pierceMode = .edgeStart then .lowStationary else e.pierceMode
  let s := s.pressureStep (firstTarget (s.materialOf e) mode)
  s.setJsq { s.jsq with phase := .piercePressure, startMode := some mode }

/-- HOLDING ends (R153) when the STOP job has completed, the send cursor stands at the stop place and the window is empty:
the jet is shut and the entry becomes HELD at the stop place or leaves by skip. A stop place of END ends at the SEG_DONE
of the last segment instead. An entry that leaves by skip keeps its done position: a stop place that names a bridge is
moved past it by a hold alone (R155, R157; DEDUCED, notes/assumptions/33.md). -/
def holdingEnd (s : State) : State :=
  match s.stream.stopPlace with
  | some (.seg place) =>
    if s.jsq.phase = .holding ∧ s.stream.cursor = some (.seg place) ∧ s.stream.window = [] then
      match s.jsq.stopEnding.getD .held with
      | .held => s.jetOff.becomeHeld (s.jsq.stopCause.getD .operator) place
      | .skipped => s.jetOff.skipHead
    else s
  | _ => s

/-- A segment reported done reaches JSQ (R121, R123, R153, R161). -/
def sequencerSegDone (e : Entry) (place : Place) (s : State) : State :=
  let segs := s.segments e
  let next := successor segs e.passes place
  match s.jsq.phase with
  | .cutting =>
    match next with
    | .fin => s.jetOff.finish
    | .seg p =>
      if (segs[p.index]?).any isBridge then
        let s := s.jetOff
        s.setJsq { s.jsq with phase := .bridgeStop }
      else s
  | .bridgeTravel => if (segs[place.index]?).any isBridge then s.startRepierce e else s
  | .holding =>
    match next with
    | .fin => s.jetOff.finish
    | .seg _ => s.holdingEnd
  | _ => s

end State

end Sys2Proof.Machine
end

