-- ==== Sys2Proof/Machine/BufferCommands.lean ====
section
/-! DEFINITION. Chapter 2: the staging buffer commands, the commit commands and the store write engine. -/

namespace Sys2Proof.Machine

open Sys2Proof

/-! ### Writing, clearing and reading a buffer -/

/-- BUF_CLEAR (R27). -/
def bufClearCommand (buffer : Byte) (s : State) : Reply :=
  match BufferName.ofByte buffer with
  | none => badArg 0 s
  | some name =>
    if (s.buffer name).state = .free then
      okay .empty (s.setBuffer name { s.buffer name with slots := Vector.replicate 32 none, pointer := 0 })
    else refusePlain .busy s

/-- Records placed one after another from the write pointer on, which wraps from 31 to 0 (R28). -/
def fillSlots (slots : Vector (Option SegRecord) 32) (pointer : Fin 32) :
    List SegRecord → Vector (Option SegRecord) 32 × Fin 32
  | [] => (slots, pointer)
  | r :: rs => fillSlots (slots.set pointer (some r)) (pointer + 1) rs

/-- An accepted BUF_WRITE on the buffer (R28); 255 is an absent start_slot (R184). -/
def Buffer.write (startSlot : Byte) (records : List SegRecord) (b : Buffer) : Buffer :=
  let start : Fin 32 := if startSlot = 255 then b.pointer else Fin.ofNat 32 startSlot.toNat
  let filled := fillSlots b.slots start records
  { b with slots := filled.1, pointer := filled.2 }

/-- BUF_WRITE (R28). A list of none or of more than 32 records is a body of a wrong length. -/
def bufWriteCommand (buffer startSlot : Byte) (records : List SegRecord) (s : State) : Reply :=
  if ¬ (1 ≤ records.length ∧ records.length ≤ 32) then (badCommand, s)
  else
    match BufferName.ofByte buffer with
    | none => badArg 0 s
    | some name =>
      if 31 < startSlot.toNat ∧ startSlot ≠ 255 then badArg 1 s
      else if (s.buffer name).state = .free then
        let b := (s.buffer name).write startSlot records
        okay (.writePointer b.pointer) (s.setBuffer name b)
      else refusePlain .busy s

/-- BUF_READ (R29). -/
def bufReadCommand (buffer slot : Byte) (s : State) : Reply :=
  match BufferName.ofByte buffer with
  | none => badArg 0 s
  | some name =>
    if 31 < slot.toNat then badArg 1 s
    else
      let b := s.buffer name
      okay (.bufferSlot b.state b.pointer (b.slots.toList.getD slot.toNat none)) s

/-- COMMIT_STATUS (R37). -/
def commitStatusCommand (buffer : Byte) (s : State) : Reply :=
  match BufferName.ofByte buffer with
  | none => badArg 0 s
  | some name =>
    let b := s.buffer name
    let pending := (s.engine.find? fun c => c.buffer == name).map fun c => (c.kind, c.contour, c.page)
    okay (.commitStatus ⟨b.state, pending, b.last⟩) s

/-! ### Asking for a commit -/

/-- The records in the slots before the first empty one. -/
def leadingRecords : List (Option SegRecord) → List SegRecord
  | some r :: rest => r :: leadingRecords rest
  | _ => []

/-- The fill k of a buffer: present when its filled slots are exactly slots 0 to k - 1 and k is at least 1 (R30). -/
def Buffer.fill (b : Buffer) : Option Nat :=
  let k := (leadingRecords b.slots.toList).length
  if 1 ≤ k ∧ b.slots.toList.countP Option.isSome = k then some k else none

/-- Append commits accepted for an entry and not yet completed (R30). -/
def pendingAppends (s : State) (id : Nat) : Nat :=
  s.engine.countP fun c => c.kind == .append && c.contour == id && c.bound

/-- A commit is accepted (R30, R31, R32, R6): it joins the write engine's order, its buffer becomes COMMITTING where the
engine takes it at once and COMMIT_WAITING otherwise, and the bound entry's commits pending rises by 1. -/
def acceptCommit (c : Commit) (s : State) : Reply :=
  let state : BufferState := if s.engine.isEmpty then .committing else .commitWaiting
  let s := s.setEngine (s.engine ++ [c])
  let s := s.setBuffer c.buffer { s.buffer c.buffer with state := state }
  okay (.pageAndState c.page state) (s.modifyEntry c.contour fun e => { e with commitsPending := e.commitsPending + 1 })

/-- CONTOUR_APPEND (R30). -/
def contourAppendCommand (buffer : Byte) (contourId : BitVec 16) (s : State) : Reply :=
  match BufferName.ofByte buffer with
  | none => badArg 0 s
  | some name =>
    match s.entry contourId.toNat with
    | none => refusePlain .notFound s
    | some e =>
      if e.state ≠ .loading then refusePlain .wrongState s
      else if (s.buffer name).state ≠ .free then refusePlain .busy s
      else
        match (s.buffer name).fill with
        | none => refusePlain .gap s
        | some k =>
          if 32 ≤ e.pages.length + pendingAppends s contourId.toNat then refusePlain .full s
          else
            match s.freePages with
            | [] => refusePlain .full s
            | page :: rest =>
              acceptCommit ⟨.append, name, contourId.toNat, true, k, page⟩ (s.setFreePages rest)

/-- CONTOUR_REPLACE (R31). -/
def contourReplaceCommand (buffer : Byte) (contourId : BitVec 16) (listPosition : Byte) (s : State) : Reply :=
  match BufferName.ofByte buffer with
  | none => badArg 0 s
  | some name =>
    match s.entry contourId.toNat with
    | none => refusePlain .notFound s
    | some e =>
      if e.state.begun then refusePlain .wrongState s
      else
        match e.pages[listPosition.toNat]? with
        | none => badArg 3 s
        | some page =>
          if (s.buffer name).state ≠ .free then refusePlain .busy s
          else
            match (s.buffer name).fill with
            | none => refusePlain .gap s
            | some k => acceptCommit ⟨.replace, name, contourId.toNat, true, k, page⟩ s

/-! ### The completion of a commit -/

/-- The entry a commit is bound to, while it is in the queue (R6). -/
def boundEntry (c : Commit) (s : State) : Option Entry := if c.bound then s.entry c.contour else none

/-- The records of slots 0 to k - 1 of the commit's buffer (R33). -/
def commitRecords (c : Commit) (s : State) : List SegRecord :=
  leadingRecords ((s.buffer c.buffer).slots.toList.take c.fill)

/-- The result of a commit, decided at its completion (R33, R7). -/
def commitResult (c : Commit) (s : State) : CommitResult :=
  match boundEntry c s with
  | none => .notFound
  | some e =>
    let records := commitRecords c s
    match firstRecordFault s.config 0 records with
    | some (slot, reason) => .invalidRecord slot reason
    | none =>
      if c.kind = .replace ∧ e.state ≠ .loading then
        match structureFault e.closed e.passes (segmentsOf (putPage c.page (freshPage records) s.store) e.pages) with
        | some (reason, segment) => .invalidContour reason segment
        | none => .ok
      else .ok

/-- The store and the free-page list as a completed commit leaves them (R34, R35). -/
def commitToStore (c : Commit) (result : CommitResult) (s : State) : State :=
  if result = .ok then s.setStore (putPage c.page (freshPage (commitRecords c s)) s.store)
  else
    match c.kind with
    | .append => s.setFreePages (s.freePages ++ [c.page])
    | .replace => s

/-- What a completed commit does to its bound entry (R6, R7). -/
def Entry.takeCommit (c : Commit) (result : CommitResult) (e : Entry) : Entry :=
  let e := { e with commitsPending := e.commitsPending - 1 }
  if result = .ok then
    match c.kind with
    | .append => { e with pages := e.pages ++ [c.page] }
    | .replace => if e.state.planned then e.replan else e
  else e

/-- The bound entry after a completed commit; its job is abandoned where a replace returns it to WAITING_PLAN (R6, R7). -/
def commitToEntry (c : Commit) (result : CommitResult) (s : State) : State :=
  if c.bound then
    let s := if result = .ok ∧ c.kind = .replace then s.abandonPlan c.contour else s
    s.modifyEntry c.contour (Entry.takeCommit c result)
  else s

/-- The buffer of a completed commit becomes FREE and keeps its result (R36, R37). -/
def commitToBuffer (c : Commit) (result : CommitResult) (s : State) : State :=
  s.setBuffer c.buffer
    { s.buffer c.buffer with state := .free, last := some ⟨result, c.kind, c.contour, c.page⟩ }

/-- The engine takes the waiting commit, or becomes IDLE (R32). -/
def takeWaitingCommit (rest : List Commit) (s : State) : State :=
  let s := s.setEngine rest
  match rest with
  | [] => s
  | next :: _ => s.setBuffer next.buffer { s.buffer next.buffer with state := .committing }

/-- CQU tries activation where the bound entry is the head and its commits pending has fallen to 0 (R6, R15). -/
def activateAfterCommit (c : Commit) (s : State) : State :=
  match s.queue with
  | e :: _ => if c.bound ∧ e.contourId = c.contour then s.tryActivate else s
  | [] => s

/-- The commit being written completes (R33, R36). -/
def completeCommit (c : Commit) (rest : List Commit) (s : State) : State :=
  let result := commitResult c s
  let s := commitToStore c result s
  let s := commitToEntry c result s
  let s := commitToBuffer c result s
  let s := takeWaitingCommit rest (s.raise .commitDone)
  (activateAfterCommit c s.chooseWork).settle

/-! ### The meanings -/

/-- BUF_CLEAR (R27). -/
def execBufClear (buffer : Byte) (s : State) : Host.Outcome State Fault Refusal :=
  .next (s.onJobPort (bufClearCommand buffer))

/-- BUF_WRITE (R28). -/
def execBufWrite (buffer startSlot : Byte) (records : List SegRecord) (s : State) : Host.Outcome State Fault Refusal :=
  .next (s.onJobPort (bufWriteCommand buffer startSlot records))

/-- BUF_READ (R29). -/
def execBufRead (buffer slot : Byte) (s : State) : Host.Outcome State Fault Refusal :=
  .next (s.onJobPort (bufReadCommand buffer slot))

/-- COMMIT_STATUS (R37). -/
def execCommitStatus (buffer : Byte) (s : State) : Host.Outcome State Fault Refusal :=
  .next (s.onJobPort (commitStatusCommand buffer))

/-- CONTOUR_APPEND (R30). -/
def execContourAppend (buffer : Byte) (contourId : BitVec 16) (s : State) : Host.Outcome State Fault Refusal :=
  .next (s.onJobPort (contourAppendCommand buffer contourId))

/-- CONTOUR_REPLACE (R31). -/
def execContourReplace (buffer : Byte) (contourId : BitVec 16) (listPosition : Byte) (s : State) :
    Host.Outcome State Fault Refusal :=
  .next (s.onJobPort (contourReplaceCommand buffer contourId listPosition))

/-- COMMIT_COMPLETE (R33). With the engine IDLE nothing is being written, and nothing changes. -/
def execCommitComplete (s : State) : Host.Outcome State Fault Refusal :=
  .next
    (match s.engine with
    | [] => s
    | c :: rest => completeCommit c rest s)

end Sys2Proof.Machine
end

