-- ==== Sys2Proof/Machine/HoldCommands.lean ====
section
/-! DEFINITION. Chapter 9: holds, skips and resumes, as the job port and the pendant ask for them. -/

namespace Sys2Proof.Machine

open Sys2Proof

/-- Phases in which a hold or skip is an immediate rest (R151, R156). -/
def Phase.restsAtOnce : Phase → Bool
  | .positioning => true
  | .piercePressure => true
  | .piercing => true
  | .cutPressure => true
  | .bridgeStop => true
  | .bridgeTravel => true
  | _ => false

/-- HOLDING and ABORTING: the entry is being brought to rest (R150). -/
def Phase.stopping : Phase → Bool
  | .holding => true
  | .aborting => true
  | _ => false

/-- A planned stop (R152). -/
def plannedStop (ending : Ending) (s : State) : State :=
  let s := s.takeRequest .stop
  s.setJsq { s.jsq with phase := .holding, stopCause := some .operator, stopEnding := some ending }

/-- A hold of the head (R151): the state it leaves, or `none` where it is refused. -/
def holdHead (s : State) : Option State :=
  match s.activeEntry with
  | none => none
  | some _ =>
    if s.jsq.phase = .cutting then some (plannedStop .held s)
    else if s.jsq.phase.restsAtOnce then some (s.immediateRest .operator .held)
    else if s.jsq.phase.stopping then some s
    else none

/-- A skip of the head (R156): the state it leaves, or `none` where it is refused. -/
def skipRequest (s : State) : Option State :=
  match s.queue with
  | [] => none
  | e :: _ =>
    match e.state with
    | .active =>
      if s.jsq.phase = .cutting then some (plannedStop .skipped s)
      else if s.jsq.phase.restsAtOnce then some (s.immediateRest .operator .skipped)
      else if s.jsq.phase.stopping then some (s.setJsq { s.jsq with stopEnding := some .skipped })
      else none
    | .held => some s.skipHead
    | .failed => some s.skipHead
    | _ => none

/-- The checks of a resume (R162): the first that fails. -/
def resumeFault (s : State) : Option Status :=
  match s.queue with
  | [] => some .wrongState
  | e :: _ =>
    if e.state ≠ .held then some .wrongState
    else if (s.pump.report.any fun r => r.code != 0) then some .notReady
    else if s.motion.link = .silent then some .notReady
    else none

/-- The entry's part of an accepted resume (R163). -/
def Entry.resume (e : Entry) : Entry :=
  { e with
    state := .active
    holdCause := none
    resumePoint := none
    laterFault := some false
    restartMark := true }

/-- The start point in cut order of a place: the end point of its predecessor, or the contour's start (R115, R51). -/
def startPoint (segs : List SegRecord) (e : Entry) (p : Place) : Nat × Nat :=
  match predecessor segs p with
  | none => (e.startX, e.startY)
  | some q =>
    match segs[q.index]? with
    | some r => (r.endX.toNat, r.endY.toNat)
    | none => (e.startX, e.startY)

/-- The pierce mode of a restart (R163). -/
def restartMode (e : Entry) (p : Place) : PierceMode := if p = ⟨0, 1⟩ then e.pierceMode else .lowStationary

/-- An accepted resume (R163), and the fault of a silent pump link (R173). -/
def resumeHead (s : State) : State :=
  match s.queue with
  | [] => s
  | e :: _ =>
    let point := e.resumePoint.getD ⟨0, 1⟩
    let target := startPoint (s.segments e) e point
    let s := s.modifyHead Entry.resume
    let s := s.setPlanner { s.planner with stopTaken := false }
    let s := (s.startStream point).takeRequest .resume
    (s.startSequence e (restartMode e point) target.1 target.2).pumpSilenceAtStart

/-- HOLD (R151). -/
def holdCommand (s : State) : Reply :=
  match holdHead s with
  | some s => okay .empty s.settle
  | none => refusePlain .wrongState s

/-- SKIP (R156). -/
def skipCommand (s : State) : Reply :=
  match skipRequest s with
  | some s => okay .empty s.settle
  | none => refusePlain .wrongState s

/-- RESUME (R162). -/
def resumeCommand (s : State) : Reply :=
  match resumeFault s with
  | some status => refusePlain status s
  | none => okay .empty (resumeHead s).settle

/-! ### The meanings -/

/-- HOLD (R151). -/
def execHold (s : State) : Host.Outcome State Fault Refusal := .next (s.onJobPort holdCommand)

/-- RESUME (R162). -/
def execResume (s : State) : Host.Outcome State Fault Refusal := .next (s.onJobPort resumeCommand)

/-- SKIP (R156). -/
def execSkip (s : State) : Host.Outcome State Fault Refusal := .next (s.onJobPort skipCommand)

end Sys2Proof.Machine
end

