-- ==== Sys2Proof/Machine/MaterialCommands.lean ====
section
/-! DEFINITION. Chapter 4: writing, reading and invalidating material records. -/

namespace Sys2Proof.Machine

open Sys2Proof

/-- The ACTIVE, HELD or FAILED entry that uses record `index`, if any (R57, R60). -/
def headUser (s : State) (index : Nat) : Option Entry :=
  s.queue.find? fun e => e.state.begun && e.material.val == index

/-- Whether an entry returns to WAITING_PLAN at a write of record `index` (R57). -/
def returnsAtWrite (index : Nat) (e : Entry) : Bool := e.state.planned && e.material.val == index

/-- The record written, its revision raised by 1 modulo 65536 (R57). -/
def rewriteRecord (record : Material) (old : MaterialRecord) : MaterialRecord := ⟨old.revision + 1, some record⟩

/-- The contour plan in flight is abandoned where its entry, in PLANNING, uses record `index` (R57, R105). -/
def abandonUser (index : Nat) (s : State) : State :=
  match s.planner.job with
  | some job =>
    if s.queue.any fun e => returnsAtWrite index e && e.state == .planning && e.contourId == job.contour then
      s.abandonPlan job.contour
    else s
  | none => s

/-- An accepted MAT_WRITE (R57): the record, its planned users and the engine's choice. -/
def writeMaterial (index : Fin 24) (record : Material) (s : State) : State :=
  let s := s.setMaterials (s.materials.set index (rewriteRecord record s.materials[index]))
  let s := abandonUser index s
  (s.setQueue (s.queue.map fun e => if returnsAtWrite index e then e.replan else e)).chooseWork

/-- MAT_WRITE (R57). -/
def matWriteCommand (index : Byte) (record : Material) (s : State) : Reply :=
  if 23 < index.toNat then badArg 0 s
  else
    match materialFault record with
    | some offset => badArg offset s
    | none =>
      match headUser s index.toNat with
      | some e => refuse .inUse ⟨none, some e.contourId, none, none⟩ s
      | none =>
        let i : Fin 24 := Fin.ofNat 24 index.toNat
        let returned := s.queue.countP (returnsAtWrite index.toNat)
        okay (.materialWritten (s.materials[i].revision + 1).toNat returned) (writeMaterial i record s)

/-- MAT_READ (R61). -/
def matReadCommand (index : Byte) (s : State) : Reply :=
  if 23 < index.toNat then badArg 0 s
  else
    let i : Fin 24 := Fin.ofNat 24 index.toNat
    let users := s.queue.countP fun e => e.material.val == index.toNat
    okay (.material ⟨s.materials[i].revision.toNat, users, (headUser s index.toNat).map Entry.contourId,
      s.materials[i].fields⟩) s

/-- MAT_INVALIDATE (R60). -/
def matInvalidateCommand (index : Byte) (s : State) : Reply :=
  if 23 < index.toNat then badArg 0 s
  else
    match headUser s index.toNat with
    | some e => refuse .inUse ⟨none, some e.contourId, none, none⟩ s
    | none =>
      match s.queue.find? fun e => e.material.val == index.toNat with
      | some e => refuse .inUse ⟨none, some e.contourId, none, none⟩ s
      | none =>
        let i : Fin 24 := Fin.ofNat 24 index.toNat
        okay (.revision s.materials[i].revision.toNat)
          (s.setMaterials (s.materials.set i ⟨s.materials[i].revision, none⟩))

/-! ### The meanings -/

/-- MAT_WRITE (R57). -/
def execMatWrite (index : Byte) (record : Material) (s : State) : Host.Outcome State Fault Refusal :=
  .next (s.onJobPort (matWriteCommand index record))

/-- MAT_READ (R61). -/
def execMatRead (index : Byte) (s : State) : Host.Outcome State Fault Refusal :=
  .next (s.onJobPort (matReadCommand index))

/-- MAT_INVALIDATE (R60). -/
def execMatInvalidate (index : Byte) (s : State) : Host.Outcome State Fault Refusal :=
  .next (s.onJobPort (matInvalidateCommand index))

end Sys2Proof.Machine
end

