-- ==== Sys2Proof/Machine/PortCommands.lean ====
section
/-! DEFINITION. Chapter 12: the machine configuration, STATUS, and the attention router's commands and pulses. -/

namespace Sys2Proof.Machine

open Sys2Proof

/-- Whether an entry is ACTIVE, HELD or FAILED (R185). -/
def anyBegun (s : State) : Bool := s.queue.any fun e => e.state.begun

/-- CONFIG_SET (R185). -/
def configSetCommand (record : MachineConfig) (s : State) : Reply :=
  match configFault record with
  | some offset => badArg offset s
  | none =>
    if anyBegun s then refusePlain .wrongState s
    else if (record.bedXMax ≠ s.config.bedXMax ∨ record.bedYMax ≠ s.config.bedYMax) ∧ s.queue ≠ [] then
      refusePlain .wrongState s
    else okay .empty (s.setConfig record)

/-- CONFIG_READ (R185). -/
def configReadCommand (s : State) : Reply := okay (.config s.config) s

/-- What STATUS reports (R184). -/
def statusView (s : State) : StatusView where
  phase := s.jsq.phase
  entries := s.queue.length
  head := s.queue.head?.map fun e => (e.contourId, e.state)
  freePages := s.freePages.length
  engine := s.engineState
  bufferA := s.bufA.state
  bufferB := s.bufB.state
  pumpTarget := s.pump.target
  pumpReady := s.pump.ready
  pumpReport := s.pump.report
  pumpLink := s.pump.link
  transmitLength := s.pump.transmit.length
  motionLink := s.motion.link
  override := s.motion.override
  wearLevel := s.wear.level
  jatnPending := s.attention.jatn.pending

/-- STATUS (R184). -/
def statusCommand (s : State) : Reply := okay (.status (statusView s)) s

/-- ROUTE_SET (R188). Where both modes are refused, the JATN mode, which R190 lays out first, is the field named (DEDUCED,
notes/assumptions/34.md). -/
def routeSetCommand (jatnRoute matnRoute : Mask) (jatnMode matnMode : Byte) (s : State) : Reply :=
  match LineMode.ofByte jatnMode, LineMode.ofByte matnMode with
  | none, _ => badArg 4 s
  | some _, none => badArg 5 s
  | some j, some m =>
    okay .empty (s.setAttention ⟨s.attention.jatn.reroute jatnRoute j, s.attention.matn.reroute matnRoute m⟩)

/-- EVENTS_READ (R187). -/
def eventsReadCommand (s : State) : Reply :=
  let a := s.attention
  okay (.events ⟨a.jatn.pending, a.matn.pending, a.jatn.route, a.matn.route, a.jatn.mode, a.matn.mode⟩) s

/-- EVENTS_ACK (R187): JATN's set alone. -/
def eventsAckCommand (mask : Mask) (s : State) : Reply :=
  let j := s.attention.jatn.acknowledge mask
  okay (.jatnSet j.pending) (s.setAttention ⟨j, s.attention.matn⟩)

/-! ### The meanings -/

/-- CONFIG_SET (R185). -/
def execConfigSet (record : MachineConfig) (s : State) : Host.Outcome State Fault Refusal :=
  .next (s.onJobPort (configSetCommand record))

/-- CONFIG_READ (R185). -/
def execConfigRead (s : State) : Host.Outcome State Fault Refusal := .next (s.onJobPort configReadCommand)

/-- STATUS (R184). -/
def execStatus (s : State) : Host.Outcome State Fault Refusal := .next (s.onJobPort statusCommand)

/-- ROUTE_SET (R188). -/
def execRouteSet (jatnRoute matnRoute : Mask) (jatnMode matnMode : Byte) (s : State) :
    Host.Outcome State Fault Refusal :=
  .next (s.onJobPort (routeSetCommand jatnRoute matnRoute jatnMode matnMode))

/-- EVENTS_READ (R187). -/
def execEventsRead (s : State) : Host.Outcome State Fault Refusal := .next (s.onJobPort eventsReadCommand)

/-- EVENTS_ACK (R187). -/
def execEventsAck (mask : Mask) (s : State) : Host.Outcome State Fault Refusal :=
  .next (s.onJobPort (eventsAckCommand mask))

/-- ATTENTION_PULSE_END (R188). -/
def execAttentionPulseEnd (line : LineName) (s : State) : Host.Outcome State Fault Refusal :=
  .next (s.setAttention (s.attention.onLine line Line.pulseEnd))

/-- ATTENTION_PULSE_GAP_END (R188). -/
def execAttentionPulseGapEnd (line : LineName) (s : State) : Host.Outcome State Fault Refusal :=
  .next (s.setAttention (s.attention.onLine line Line.gapEnd))

end Sys2Proof.Machine
end

