-- ==== Sys2Proof/Machine/QueueCommands.lean ====
section
/-! DEFINITION. Chapter 1: the commands that open, close, delete, move, query and filter contours, and the finished list. -/

namespace Sys2Proof.Machine

open Sys2Proof

/-- An optional contour_id: 0 is absent (R184). -/
def optionalId (id : BitVec 16) : Option Nat := if id = 0 then none else some id.toNat

/-- A before_id that is given must name an entry of the queue (R3, R11). -/
def beforeMissing (s : State) (beforeId : BitVec 16) : Bool :=
  match optionalId beforeId with
  | none => false
  | some id => (s.entry id).isNone

/-- A new entry (R3). -/
def newEntry (contourId tag : BitVec 16) (material : Fin 24) (quality passes pierceMode closed : Byte)
    (startX startY : BitVec 32) : Entry where
  contourId := contourId.toNat
  tag := tag.toNat
  material := material
  quality := quality.toNat
  passes := passes.toNat
  pierceMode := (PierceMode.ofByte pierceMode).getD .lowStationary
  closed := (closedOfByte closed).getD false
  startX := startX.toNat
  startY := startY.toNat
  pages := []
  commitsPending := 0
  state := .loading
  stamp := none
  overspeedCount := none
  donePlace := none
  resumePoint := none
  holdCause := none
  lastHoldCause := none
  laterFault := none
  resumeFailures := 0
  holdCount := 0
  restartMark := false

/-- CONTOUR_OPEN (R3, R4). -/
def contourOpenCommand (contourId tag : BitVec 16) (material quality passes pierceMode closed : Byte)
    (startX startY : BitVec 32) (beforeId : BitVec 16) (s : State) : Reply :=
  match firstOutOfRange (headerRanges s.config contourId.toNat material.toNat quality.toNat passes.toNat
      pierceMode.toNat closed.toNat startX.toNat startY.toNat) with
  | some offset => badArg offset s
  | none =>
    if 48 ≤ s.queue.length then refusePlain .full s
    else if (s.entry contourId.toNat).isSome then refusePlain .duplicate s
    else
      let index : Fin 24 := Fin.ofNat 24 material.toNat
      if s.materials[index].fields.isNone then refusePlain .notFound s
      else if beforeMissing s beforeId then refusePlain .notFound s
      else
        let e := newEntry contourId tag index quality passes pierceMode closed startX startY
        let opened := s.setQueue (place e (optionalId beforeId) s.queue)
        let opened := (State.activateNewHead s opened).settle
        okay (.position (positionOf opened.queue e.contourId)) opened

/-- CONTOUR_CLOSE (R5). -/
def contourCloseCommand (contourId : BitVec 16) (s : State) : Reply :=
  match s.entry contourId.toNat with
  | none => refusePlain .notFound s
  | some e =>
    if e.state ≠ .loading then refusePlain .wrongState s
    else if e.commitsPending ≠ 0 then refusePlain .busy s
    else
      match structureFault e.closed e.passes (s.segments e) with
      | some (reason, segment) => refuse .invalidContour ⟨none, none, some reason.code, segment⟩ s
      | none =>
        okay .empty (s.modifyEntry contourId.toNat fun e => { e with state := .waitingPlan }).chooseWork

/-- CONTOUR_DELETE (R10). -/
def contourDeleteCommand (contourId : BitVec 16) (s : State) : Reply :=
  match s.entry contourId.toNat with
  | none => refusePlain .notFound s
  | some e =>
    if e.state.begun then refusePlain .wrongState s
    else
      let left := ((s.abandonPlan e.contourId).removeEntry e none).chooseWork
      okay .empty (State.activateNewHead s left).settle

/-- CONTOUR_MOVE (R11, R4). -/
def contourMoveCommand (contourId beforeId : BitVec 16) (s : State) : Reply :=
  match s.entry contourId.toNat with
  | none => refusePlain .notFound s
  | some e =>
    if e.state.begun then refusePlain .wrongState s
    else if beforeMissing s beforeId then refusePlain .notFound s
    else if beforeId = contourId then okay (.position (positionOf s.queue e.contourId)) s
    else
      let others := s.queue.filter fun x => x.contourId != e.contourId
      let moved := s.setQueue (place e (optionalId beforeId) others)
      let moved := (State.activateNewHead s moved).settle
      okay (.position (positionOf moved.queue e.contourId)) moved

/-- The fields of an entry as CONTOUR_QUERY reports them (R13). -/
def viewEntry (s : State) (e : Entry) : EntryView where
  contourId := e.contourId
  tag := e.tag
  material := e.material
  quality := e.quality
  passes := e.passes
  pierceMode := e.pierceMode
  closed := e.closed
  startX := e.startX
  startY := e.startY
  pages := e.pages
  segmentCount := s.segmentCount e
  commitsPending := e.commitsPending
  state := e.state
  stamp := e.stamp
  overspeedCount := e.overspeedCount
  sendPlace := if e.state.begun then s.stream.cursor.map (State.cursorPlace (s.segments e) e.passes) else none
  donePlace := e.donePlace
  resumePoint := e.resumePoint
  holdCause := e.holdCause
  lastHoldCause := e.lastHoldCause
  laterFault := e.laterFault
  resumeFailures := e.resumeFailures
  holdCount := e.holdCount

/-- CONTOUR_QUERY (R13). -/
def contourQueryCommand (contourId : BitVec 16) (s : State) : Reply :=
  match s.entry contourId.toNat with
  | none => refusePlain .notFound s
  | some e => okay (.entry (viewEntry s e)) s

/-- QUEUE_LIST (R14). -/
def queueListCommand (s : State) : Reply :=
  okay (.queue (s.queue.map fun e => (e.contourId, e.state))) s

/-- Whether FILTER_SKIP takes an entry (R12). -/
def filterMatches (base mask : BitVec 16) (e : Entry) : Bool :=
  !e.state.begun && (BitVec.ofNat 16 e.tag &&& mask) == (base &&& mask)

/-- One removal of FILTER_SKIP (R12). -/
def filterRemove (s : State) (e : Entry) : State := (s.abandonPlan e.contourId).removeEntry e (some .skipped)

/-- FILTER_SKIP (R12). -/
def filterSkipCommand (base mask : BitVec 16) (s : State) : Reply :=
  let taken := s.queue.filter (filterMatches base mask)
  let left := (taken.foldl filterRemove s).chooseWork
  okay (.count taken.length) (State.activateNewHead s left).settle

/-- FINISHED_READ (R21). -/
def finishedReadCommand (n : Byte) (s : State) : Reply :=
  if 1 ≤ n.toNat ∧ n.toNat ≤ 16 then
    okay (.finished (s.finished.take n.toNat)) (s.setFinished (s.finished.drop n.toNat))
  else badArg 0 s

/-! ### The meanings -/

/-- CONTOUR_OPEN (R3). -/
def execContourOpen (contourId tag : BitVec 16) (material quality passes pierceMode closed : Byte)
    (startX startY : BitVec 32) (beforeId : BitVec 16) (s : State) : Host.Outcome State Fault Refusal :=
  .next (s.onJobPort (contourOpenCommand contourId tag material quality passes pierceMode closed startX startY beforeId))

/-- CONTOUR_CLOSE (R5). -/
def execContourClose (contourId : BitVec 16) (s : State) : Host.Outcome State Fault Refusal :=
  .next (s.onJobPort (contourCloseCommand contourId))

/-- CONTOUR_DELETE (R10). -/
def execContourDelete (contourId : BitVec 16) (s : State) : Host.Outcome State Fault Refusal :=
  .next (s.onJobPort (contourDeleteCommand contourId))

/-- CONTOUR_MOVE (R11). -/
def execContourMove (contourId beforeId : BitVec 16) (s : State) : Host.Outcome State Fault Refusal :=
  .next (s.onJobPort (contourMoveCommand contourId beforeId))

/-- CONTOUR_QUERY (R13). -/
def execContourQuery (contourId : BitVec 16) (s : State) : Host.Outcome State Fault Refusal :=
  .next (s.onJobPort (contourQueryCommand contourId))

/-- QUEUE_LIST (R14). -/
def execQueueList (s : State) : Host.Outcome State Fault Refusal := .next (s.onJobPort queueListCommand)

/-- FILTER_SKIP (R12). -/
def execFilterSkip (base mask : BitVec 16) (s : State) : Host.Outcome State Fault Refusal :=
  .next (s.onJobPort (filterSkipCommand base mask))

/-- FINISHED_READ (R21). -/
def execFinishedRead (n : Byte) (s : State) : Host.Outcome State Fault Refusal :=
  .next (s.onJobPort (finishedReadCommand n))

end Sys2Proof.Machine
end

