-- ==== Sys2Proof/Machine/Reset.lean ====
section
/-! DEFINITION. The two resets: POWER_ON_RESET and JOB_RESET (R22, R186). -/

namespace Sys2Proof.Machine

open Sys2Proof

/-- Phases in which JOB_RESET makes ABORT due for an ACTIVE entry (R165). -/
def Phase.mayMove : Phase → Bool
  | .positioning => true
  | .cutting => true
  | .holding => true
  | .bridgeTravel => true
  | .aborting => true
  | _ => false

/-- Whether JOB_RESET makes ABORT due (R165). -/
def abortAtReset (s : State) : Bool :=
  s.activeEntry.isSome && (s.jsq.phase.mayMove || !s.stream.window.isEmpty)

/-- An exchange in progress at a JOB_RESET completes on the wire, and its record is not delivered (R149). -/
def cancelExchange (m : MotionPort) : MotionPort :=
  { m with exchange := m.exchange.map fun x => { x with cancelled := true } }

/-- The part with its work cleared (R186), before the settings JSQ and PLK issue. The oldest message of the transmit list
is the one in transmission, and it stays (R174). -/
def clearWork (s : State) : State where
  pending := s.pending
  port := { s.port with condition := .waitHeader, ovr := false }
  config := s.config
  bufA := State.freshBuffer
  bufB := State.freshBuffer
  engine := []
  store := []
  freePages := State.allPages
  queue := []
  finished := []
  materials := s.materials
  planner := ⟨none, false⟩
  jsq := State.idleSequencer
  stream := { State.freshStream with due := if abortAtReset s then [.abort] else [] }
  motion := cancelExchange s.motion
  pump := { s.pump with transmit := s.pump.transmit.take 1 }
  wear := s.wear
  attention := ⟨s.attention.jatn.clearSet, s.attention.matn.clearSet⟩

/-- JOB_RESET (R186, R132, R165, R174). -/
def jobResetCommand (s : State) : Reply :=
  okay .empty
    ((((clearWork s).issue (.setAbrasive 0)).issue (.setValve .closed)).issueIdlePressure)

/-! ### The meanings -/

/-- POWER_ON_RESET (R22): every block takes its power-on values. The commands still waiting are the sender's, not the
part's, and keep waiting. -/
def execPowerOnReset (s : State) : Host.Outcome State Fault Refusal := .next (State.reset.setPending s.pending)

/-- JOB_RESET (R186). -/
def execJobReset (s : State) : Host.Outcome State Fault Refusal := .next (s.onJobPort jobResetCommand)

end Sys2Proof.Machine
end

