-- ==== Sys2Proof/Config.lean ====
section
/-! DEFINITION. What the spec leaves open: the bytes of the values in response bodies. -/

namespace Sys2Proof

/-- FREE VALUE (notes/assumptions/1.md). The bytes of part `n`, of those the manual gives no bytes, of the response body that
carries a payload: R190 says a body carries the values its command's rule names, in the order named, and that its bytes
are not laid out in the manual. The constant has no body: nothing can prove which bytes, or how many, stand there. -/
opaque Config.responseField : Machine.Payload → Nat → List Byte

end Sys2Proof
end

