-- ==== Sys2Proof/Machine/Responses.lean ====
section
/-! DEFINITION. The bytes of responses (R182, R184, R189, R190): the numbers of the enumerations that only responses carry, and
the bodies, part by part. -/

namespace Sys2Proof.Machine

open Sys2Proof

/-! ### Enumerations: one byte, numbered from 0 in the order of their defining tables (R184) -/

/-- A field whose table lists its values "yes, no" (or "set, clear") is numbered in that order (DEDUCED,
notes/assumptions/3.md). -/
def yesNo (b : Bool) : Byte := if b then 0 else 1

def BufferState.code : BufferState → Byte
  | .free => 0
  | .commitWaiting => 1
  | .committing => 2

def CommitKind.code : CommitKind → Byte
  | .append => 0
  | .replace => 1

/-- Results in the order of R37, which lists NONE first. -/
def CommitResult.code : CommitResult → Byte
  | .ok => 1
  | .invalidRecord _ _ => 2
  | .invalidContour _ _ => 3
  | .notFound => 4

/-- Pierce modes in the order of R2. -/
def PierceMode.code : PierceMode → Byte
  | .lowStationary => 0
  | .fullStationary => 1
  | .edgeStart => 2

/-- States of a queue entry in the order of R2. -/
def EntryState.code : EntryState → Byte
  | .loading => 0
  | .waitingPlan => 1
  | .planning => 2
  | .ready => 3
  | .active => 4
  | .held => 5
  | .failed => 6

/-- Hold causes in the order of R2. -/
def Cause.code : Cause → Byte
  | .operator => 0
  | .pumpFault => 1
  | .pressureTimeout => 2
  | .pressureSag => 3
  | .pumpLinkLost => 4
  | .motionFault => 5
  | .motionLinkFault => 6
  | .starved => 7

/-- Outcomes in the order of R20. -/
def Outcome.code : Outcome → Byte
  | .done => 0
  | .skipped => 1

/-- Phases in the order of R110. -/
def Phase.code : Phase → Byte
  | .idle => 0
  | .positioning => 1
  | .piercePressure => 2
  | .piercing => 3
  | .cutPressure => 4
  | .cutting => 5
  | .bridgeStop => 6
  | .bridgeTravel => 7
  | .finishing => 8
  | .holding => 9
  | .aborting => 10

/-- Engine states in the order of R91. -/
def EngineState.code : EngineState → Byte
  | .idle => 0
  | .contourJob => 1
  | .activeJob => 2

/-- Link states in the order of R135 and R166. -/
def LinkState.code : LinkState → Byte
  | .ok => 0
  | .silent => 1

/-- Flow states in the order of R166. -/
def Flow.code : Flow → Byte
  | .ok => 0
  | .low => 1
  | .noFlow => 2

/-- Wear sources in the order of R175. -/
def WearSource.code : WearSource → Byte
  | .abrasiveTime => 0
  | .valveTime => 1
  | .pierces => 2
  | .cutLength => 3

def LineMode.code : LineMode → Byte
  | .level => 0
  | .pulse => 1

/-! ### The parts of a body -/

/-- One part of a response body: bytes that R184 or R189 gives, or a part the manual gives no bytes (R190): a number, the
length of a list, or the way an optional value is shown to be present or absent. -/
inductive BodyPart where
  | fixed (bytes : List Byte)
  | left
  deriving DecidableEq, Repr

def BodyPart.one (code : Byte) : BodyPart := .fixed [code]

/-- A set of sources or a route: a 16-bit mask (R184), low byte first (R189). -/
def BodyPart.mask (m : Mask) : BodyPart := .fixed (split2 m)

/-- An optional value: what shows whether it is present is left open, and the value follows where it is. -/
def BodyPart.optional {α : Type} (parts : α → List BodyPart) : Option α → List BodyPart
  | none => [.left]
  | some x => .left :: parts x

/-- Several values in order, each a number the manual gives no bytes. -/
def BodyPart.numbers (n : Nat) : List BodyPart := List.replicate n .left

/-- A list of values: its length is left open, and its values follow. -/
def BodyPart.listed {α : Type} (parts : α → List BodyPart) (list : List α) : List BodyPart := .left :: list.flatMap parts

open BodyPart

/-- A refusal carries the details its rule names and no others (R182); reason codes are one byte (R184). -/
def Detail.parts (d : Detail) : List BodyPart :=
  (if d.offset.isSome then [left] else []) ++ (if d.contour.isSome then [left] else [])
    ++ (match d.reason with
      | some code => [one (BitVec.ofNat 8 code)]
      | none => [])
    ++ if d.segment.isSome then [left] else []

/-- What R37 reports of a last result other than NONE: its kind, contour_id and page, and the detail of its result. -/
def LastCommit.parts (c : LastCommit) : List BodyPart :=
  [one c.kind.code, left, left]
    ++ match c.result with
      | .invalidRecord _ reason => [left, one (BitVec.ofNat 8 reason.code)]
      | .invalidContour reason segment => one (BitVec.ofNat 8 reason.code) :: optional (fun _ => [left]) segment
      | _ => []

/-- R37. -/
def CommitView.parts (v : CommitView) : List BodyPart :=
  one v.state.code :: optional (fun p => [one p.1.code, left, left]) v.pending
    ++ one ((v.last.map fun c => c.result.code).getD 0) :: optional LastCommit.parts v.last

/-- R13: the fields of R2 in the order of its table. -/
def EntryView.parts (v : EntryView) : List BodyPart :=
  numbers 5 ++ [one v.pierceMode.code, one (yesNo v.closed), left, left] ++ listed (fun _ => [left]) v.pages
    ++ [left, left, one v.state.code] ++ optional (fun _ => numbers 3) v.stamp ++ optional (fun _ => [left]) v.overspeedCount
    ++ optional (fun _ => numbers 2) v.sendPlace ++ optional (fun _ => numbers 2) v.donePlace
    ++ optional (fun _ => numbers 2) v.resumePoint ++ optional (fun c => [one c.code]) v.holdCause
    ++ optional (fun c => [one c.code]) v.lastHoldCause ++ optional (fun b => [one (yesNo b)]) v.laterFault ++ [left, left]

/-- R20: contour_id and tag, outcome, passes completed, segments done, hold count and last hold cause. -/
def Finished.parts (f : Finished) : List BodyPart :=
  [left, left, one f.outcome.code, left, left, left] ++ optional (fun c => [one c.code]) f.lastHoldCause

/-- R61: the state first, VALID 0 and INVALID 1; the fields are the 29 of R54. -/
def MaterialView.parts (v : MaterialView) : List BodyPart :=
  [one (if v.fields.isSome then 0 else 1), left, left] ++ optional (fun _ => [left]) v.headUser
    ++ optional (fun _ => numbers 29) v.fields

/-- R180: source, value, remainder, limit and due flag of a counter. -/
def Counter.parts (c : Counter) : List BodyPart := [one c.source.code, left, left, left, one (yesNo c.due)]

/-- R184, in the order of its list. -/
def StatusView.parts (v : StatusView) : List BodyPart :=
  [one v.phase.code, left] ++ optional (fun h => [left, one h.2.code]) v.head
    ++ [left, one v.engine.code, one v.bufferA.code, one v.bufferB.code, left, one (yesNo v.pumpReady)]
    ++ optional (fun r => [left, left, one r.flow.code]) v.pumpReport
    ++ [one v.pumpLink.code, left, one v.motionLink.code, left, left, mask v.jatnPending]

/-- The parts of a response body, in the order in which its command's rule names its values (R190). A page and a buffer state
are one byte each, as the worked sequence of section 12.7 shows. -/
def Payload.parts : Payload → List BodyPart
  | .empty => []
  | .refusal detail => detail.parts
  | .writePointer _ => [left]
  | .bufferSlot state _ slot => [one state.code, left] ++ optional (fun r => [fixed r.bytes]) slot
  | .commitStatus view => view.parts
  | .position _ => [left]
  | .pageAndState page state => [one (BitVec.ofNat 8 page), one state.code]
  | .entry view => view.parts
  | .queue entries => listed (fun e => [left, one e.2.code]) entries
  | .count _ => [left]
  | .finished entries => listed Finished.parts entries
  | .materialWritten _ _ => [left, left]
  | .revision _ => [left]
  | .material view => view.parts
  | .config _ => numbers 11
  | .counter _ _ due => [left, left, one (yesNo due)]
  | .level _ => [left]
  | .wear block => [block.c0, block.c1, block.c2, block.c3].flatMap Counter.parts ++ numbers 7
  | .jatnSet pendingSet => [mask pendingSet]
  | .events v =>
    [mask v.jatnPending, mask v.matnPending, mask v.jatnRoute, mask v.matnRoute, one v.jatnMode.code, one v.matnMode.code]
  | .status view => view.parts

/-- The bytes of the parts of a payload from the n-th open part on. An open part is at most 255 bytes long, so that the
longest body stays below what the two length bytes can say. -/
def bodyBytes (payload : Payload) : Nat → List BodyPart → List Byte
  | _, [] => []
  | n, .fixed bytes :: rest => bytes ++ bodyBytes payload n rest
  | n, .left :: rest => (Config.responseField payload n).take 255 ++ bodyBytes payload (n + 1) rest

/-- The bytes of a response body. -/
def Payload.bytes (payload : Payload) : List Byte := bodyBytes payload 0 payload.parts

/-- A response on the wire: the status code, the body length in two bytes and the body (R182, R189). -/
def Response.bytes (r : Response) : List Byte :=
  let body := r.payload.bytes
  r.status.code :: (split2 (BitVec.ofNat 16 body.length) ++ body)

end Sys2Proof.Machine
end

