-- ==== Sys2Proof/Machine/WearCommands.lean ====
section
/-! DEFINITION. Chapter 11: the wear commands, the time counters, and the millisecond of the part's clock. -/

namespace Sys2Proof.Machine

open Sys2Proof

/-- A number as the counter it names (R179). -/
def counterOfByte (b : Byte) : Option (Fin 4) := if h : b.toNat < 4 then some ⟨b.toNat, h⟩ else none

/-- The response of a wear command: the counter's value, remainder and due flag after the change (R179). -/
def counterPayload (s : State) (i : Fin 4) : Payload :=
  let c := s.wear.counter i
  .counter c.value c.remainder c.due

/-- A change of one counter with its due flag cleared, judged afresh (R177, R178, R179). -/
def changeCounter (i : Fin 4) (f : Counter → Counter) (s : State) : State :=
  ((s.setWear (s.wear.setCounter i { f (s.wear.counter i) with due := false })).judgeWear).settle

/-- WEAR_CONFIG on its counter (R179). -/
def Counter.configure (source : WearSource) (limit : Nat) (c : Counter) : Counter :=
  if source = c.source then { c with limit := limit }
  else { c with source := source, value := 0, remainder := 0, limit := limit }

/-- WEAR_CONFIG (R179). -/
def wearConfigCommand (counter source : Byte) (limit : BitVec 32) (s : State) : Reply :=
  match counterOfByte counter with
  | none => badArg 0 s
  | some i =>
    match WearSource.ofByte source with
    | none => badArg 1 s
    | some src =>
      let s := changeCounter i (Counter.configure src limit.toNat) s
      okay (counterPayload s i) s

/-- WEAR_LOAD (R179). -/
def wearLoadCommand (counter : Byte) (value : BitVec 32) (s : State) : Reply :=
  match counterOfByte counter with
  | none => badArg 0 s
  | some i =>
    let s := changeCounter i (fun c => { c with value := value.toNat, remainder := 0 }) s
    okay (counterPayload s i) s

/-- WEAR_RESET (R179). -/
def wearResetCommand (counter : Byte) (s : State) : Reply :=
  match counterOfByte counter with
  | none => badArg 0 s
  | some i =>
    let s := changeCounter i (fun c => { c with value := 0, remainder := 0 }) s
    okay (counterPayload s i) s

/-- WEAR_LEVELS (R180). -/
def wearLevelsCommand (t1 t2 t3 : BitVec 32) (d1 d2 d3 : BitVec 16) (s : State) : Reply :=
  match wearLevelsFault t1.toNat t2.toNat t3.toNat d1.toNat d2.toNat d3.toNat with
  | some offset => badArg offset s
  | none =>
    let w := { s.wear with
      t1 := t1.toNat, t2 := t2.toNat, t3 := t3.toNat, d1 := d1.toNat, d2 := d2.toNat, d3 := d3.toNat }
    let s := ((s.setWear w).judgeLevel).settle
    okay (.level s.wear.level) s

/-- WEAR_READ (R180). -/
def wearReadCommand (s : State) : Reply := okay (.wear s.wear) s

/-! ### Time -/

/-- Whether the time condition of a counter's source holds (R176). -/
def timeCounts (jsq : Sequencer) (c : Counter) : Bool :=
  match c.source with
  | .valveTime => jsq.valve == .opened
  | .abrasiveTime => decide (0 < jsq.abrasive)
  | .pierces => false
  | .cutLength => false

/-- One tick on one counter (R176). -/
def Counter.tick (jsq : Sequencer) (c : Counter) : Counter := if timeCounts jsq c then c.millisecond else c

/-- The timers of JSQ, MPI and PLK lose one millisecond; their expiries are rows of their own. -/
def timersTick (s : State) : State :=
  let s := s.setJsq { s.jsq with
    wait := s.jsq.wait.map fun w => { w with msLeft := w.msLeft - 1 }
    pierceMs := s.jsq.pierceMs.map fun t => t - 1 }
  let s := s.setMotion { s.motion with timer := s.motion.timer.map fun t => t - 1 }
  s.setPump { s.pump with
    timer := s.pump.timer.map fun t => t - 1
    assembly := s.pump.assembly.map fun a => { a with msLeft := a.msLeft - 1 } }

/-! ### The meanings -/

/-- WEAR_CONFIG (R179). -/
def execWearConfig (counter source : Byte) (limit : BitVec 32) (s : State) : Host.Outcome State Fault Refusal :=
  .next (s.onJobPort (wearConfigCommand counter source limit))

/-- WEAR_LEVELS (R180). -/
def execWearLevels (t1 t2 t3 : BitVec 32) (d1 d2 d3 : BitVec 16) (s : State) : Host.Outcome State Fault Refusal :=
  .next (s.onJobPort (wearLevelsCommand t1 t2 t3 d1 d2 d3))

/-- WEAR_LOAD (R179). -/
def execWearLoad (counter : Byte) (value : BitVec 32) (s : State) : Host.Outcome State Fault Refusal :=
  .next (s.onJobPort (wearLoadCommand counter value))

/-- WEAR_RESET (R179). -/
def execWearReset (counter : Byte) (s : State) : Host.Outcome State Fault Refusal :=
  .next (s.onJobPort (wearResetCommand counter))

/-- WEAR_READ (R180). -/
def execWearRead (s : State) : Host.Outcome State Fault Refusal := .next (s.onJobPort wearReadCommand)

/-- WEAR_TIME_UNIT (R176): the millisecond that completes a unit of one counter, taken as a row of its own. It has an
effect exactly where that millisecond is due: the counter counts a time, its condition holds, and its remainder is 99
(notes/assumptions/12.md). -/
def execWearTimeUnit (counter : Fin 4) (s : State) : Host.Outcome State Fault Refusal :=
  let c := s.wear.counter counter
  .next
    (if timeCounts s.jsq c ∧ c.remainder = 99 then
      ((s.setWear (s.wear.setCounter counter c.millisecond)).judgeWear).settle
    else s)

/-- MILLISECOND_TICK (R176): every counter whose time condition holds counts 1 ms, and the part's timers run. -/
def execMillisecondTick (s : State) : Host.Outcome State Fault Refusal :=
  .next ((timersTick s).countWear (Counter.tick s.jsq)).settle

end Sys2Proof.Machine
end

