-- ==== Sys2Proof/Machine/JobPort.lean ====
section
/-! DEFINITION. Sections 12.1 and 12.2: the bus of the job port, byte by byte. -/

namespace Sys2Proof.Machine

open Sys2Proof

/-- A complete command is handed to its block (R182, R183). -/
def runCommand (c : Instr) : State → Reply :=
  match c with
  | .bufClear buffer => bufClearCommand buffer
  | .bufWrite buffer startSlot records => bufWriteCommand buffer startSlot records
  | .bufRead buffer slot => bufReadCommand buffer slot
  | .commitStatus buffer => commitStatusCommand buffer
  | .contourOpen contourId tag material quality passes pierceMode closed startX startY beforeId =>
    contourOpenCommand contourId tag material quality passes pierceMode closed startX startY beforeId
  | .contourAppend buffer contourId => contourAppendCommand buffer contourId
  | .contourReplace buffer contourId listPosition => contourReplaceCommand buffer contourId listPosition
  | .contourClose contourId => contourCloseCommand contourId
  | .contourDelete contourId => contourDeleteCommand contourId
  | .contourMove contourId beforeId => contourMoveCommand contourId beforeId
  | .contourQuery contourId => contourQueryCommand contourId
  | .queueList => queueListCommand
  | .filterSkip base mask => filterSkipCommand base mask
  | .hold => holdCommand
  | .resume => resumeCommand
  | .skip => skipCommand
  | .finishedRead n => finishedReadCommand n
  | .matWrite index record => matWriteCommand index record
  | .matRead index => matReadCommand index
  | .matInvalidate index => matInvalidateCommand index
  | .configSet record => configSetCommand record
  | .configRead => configReadCommand
  | .wearConfig counter source limit => wearConfigCommand counter source limit
  | .wearLevels t1 t2 t3 d1 d2 d3 => wearLevelsCommand t1 t2 t3 d1 d2 d3
  | .wearLoad counter value => wearLoadCommand counter value
  | .wearReset counter => wearResetCommand counter
  | .wearRead => wearReadCommand
  | .routeSet jatnRoute matnRoute jatnMode matnMode => routeSetCommand jatnRoute matnRoute jatnMode matnMode
  | .eventsRead => eventsReadCommand
  | .eventsAck mask => eventsAckCommand mask
  | .status => statusCommand
  | .jobReset => jobResetCommand
  | .powerOnReset | .commandByteWrite _ _ | .responseByteRead | .statusByteRead | .jobPortWriteIgnored _
  | .commandByteGap | .commitComplete | .contourPlanComplete | .activeJobComplete | .motionFrameStart
  | .motionFrameComplete _ | .motionFrameCutShort | .motionLinkTimeout | .pressureWaitExpiry | .pierceTimerExpiry
  | .pumpMessageTransmitted | .pumpStatus _ | .pumpAssemblyTimeout | .pumpReportTimeout | .wearTimeUnit _
  | .attentionPulseEnd _ | .attentionPulseGapEnd _ | .pumpByteReceived _ | .millisecondTick => fun s => (badCommand, s)

/-- The command that the bytes of a complete command spell, carried out; BAD_COMMAND where they spell none (R182). -/
def runBytes (code : Byte) (body : List Byte) (s : State) : Reply :=
  match decodeCommand code body with
  | some c => runCommand c s
  | none => (badCommand, s)

/-- The bytes of a command so far, after one more has been counted (R182): the command is complete, too long, or still
expects bytes. -/
def countBytes (bytes : List Byte) (s : State) : State :=
  match bytes with
  | code :: n0 :: n1 :: body =>
    let length := (join2 n0 n1).toNat
    if 770 < length then s.respond badCommand
    else if length ≤ body.length then s.onJobPort (runBytes code body)
    else s.setPort { s.port with condition := .receiving bytes }
  | _ => s.setPort { s.port with condition := .receiving bytes }

/-- A data write (R181, R182). -/
def dataWrite (byte : Byte) (s : State) : State :=
  match s.port.condition with
  | .waitHeader => countBytes [byte] s
  | .receiving bytes => countBytes (bytes ++ [byte]) s
  | .executing => s.setPort { s.port with ovr := true }
  | .responding _ _ => s.setPort { s.port with ovr := true }

/-- A data read (R181). -/
def dataRead (s : State) : State :=
  match s.port.condition with
  | .responding r k =>
    let bytes := r.bytes
    s.setPort { s.port with
      dataOut := bytes.getD k 0
      condition := if k + 1 < bytes.length then .responding r (k + 1) else .waitHeader }
  | .waitHeader => s.setPort { s.port with dataOut := 0 }
  | .receiving _ => s.setPort { s.port with dataOut := 0 }
  | .executing => s.setPort { s.port with dataOut := 0 }

/-! ### The meanings -/

/-- COMMAND_BYTE_WRITE (R182): a DMA write is taken as a data write. -/
def execCommandByteWrite (_dma : Bool) (byte : Byte) (s : State) : Host.Outcome State Fault Refusal :=
  .next (dataWrite byte s)

/-- RESPONSE_BYTE_READ (R181). -/
def execResponseByteRead (s : State) : Host.Outcome State Fault Refusal := .next (dataRead s)

/-- STATUS_BYTE_READ (R181): the status byte is returned, then OVR is cleared. -/
def execStatusByteRead (s : State) : Host.Outcome State Fault Refusal :=
  .next (s.setPort { s.port with dataOut := s.statusByte, ovr := false })

/-- JOB_PORT_WRITE_IGNORED (R181). -/
def execJobPortWriteIgnored (_byte : Byte) (s : State) : Host.Outcome State Fault Refusal := .next s

/-- COMMAND_BYTE_GAP (R182): in RECEIVING the partial command is answered BAD_COMMAND; in the other conditions no command
has bytes to come, and nothing changes. -/
def execCommandByteGap (s : State) : Host.Outcome State Fault Refusal :=
  .next
    (match s.port.condition with
    | .receiving _ => s.respond badCommand
    | .waitHeader => s
    | .executing => s
    | .responding _ _ => s)

end Sys2Proof.Machine
end

