-- ==== Sys2Proof/Machine/MotionEvents.lean ====
section
/-! DEFINITION. Chapter 8: frame exchanges, the choice and the delivery of records, the controller's reports, and the link
timer. -/

namespace Sys2Proof.Machine

open Sys2Proof

/-! ### Choosing and placing a record (R140, R141) -/

/-- Whether a segment may be sent in JSQ's phase (R140): `stop` says that a stop place is present. -/
def maySend (phase : Phase) (stop bridge : Bool) : Bool :=
  match phase with
  | .cutting => !bridge
  | .holding => stop && !bridge
  | .bridgeTravel => bridge
  | _ => false

/-- Whether the cursor's successor lies in the next pass or past the contour's end (R141). -/
def lastOfPass (pass : Nat) : Cursor → Bool
  | .fin => true
  | .seg p => p.pass != pass

/-- The SEG record of a segment (R141). -/
def buildSeg (s : State) (e : Entry) (place : Place) (r : SegRecord) (w : PlanWord) : SegOut where
  contour := s.jsq.contour.getD e.contourId
  kind := segKind r
  endX := r.endX.toNat
  endY := r.endY.toNat
  radius := if isArc (segKind r) then segRadius r else none
  entry := w.entry
  exit := w.exit
  peak := w.peak
  dwell := w.dwell
  jet := !isBridge r
  overspeed := w.overspeed
  lastOfPass := lastOfPass place.pass (successor (s.segments e) e.passes place)
  place := place

/-- The SEG record at the send cursor, where R140 lets it be placed. The plan word of a segment of the ACTIVE entry is
always written. -/
def segToSend (s : State) : Option SegOut :=
  match s.activeEntry, s.stream.cursor with
  | some e, some (.seg place) =>
    match slotAt s.store e.pages place.index with
    | some ⟨r, some w⟩ =>
      if s.stream.stopPlace ≠ some (.seg place) ∧ s.requestOutstanding = false ∧ s.stream.window.length < 8
          ∧ (s.stream.window = [] ∨ s.stream.lastKind = some .seg)
          ∧ maySend s.jsq.phase s.stream.stopPlace.isSome (isBridge r) then
        some (buildSeg s e place r w)
      else none
    | _ => none
  | _, _ => none

/-- A record is placed in the outgoing frame (R133). -/
def placeRecord (p : Placed) (s : State) : State :=
  s.setMotion { s.motion with exchange := some ⟨p, p.frame, false⟩ }

/-- A record is placed for the first time and takes its serial (R138). -/
def placeWithSerial (kind : SerialKind) (body : RecordBody) (s : State) : State :=
  let serial := s.stream.nextSerial
  placeRecord ⟨some serial, body⟩ (s.setStream { s.stream with nextSerial := serial + 1, lastKind := some kind })

/-- A SEG record is placed (R141): the last exit sent and the send cursor move, and HOLD_AT is made due where the cursor
reaches the stop place (R139). -/
def placeSeg (r : SegOut) (s : State) : State :=
  match s.activeEntry with
  | none => s
  | some e =>
    let next := successor (s.segments e) e.passes r.place
    let s := placeWithSerial .seg (.seg r) s
    (s.setStream { s.stream with lastExit := some r.exit, cursor := some next }).holdAtDue

/-- The repeat record is placed again with the serial it has (R133). -/
def placeAgain (p : Placed) (s : State) : State :=
  placeRecord p (s.setStream { s.stream with again := none })

/-- The head of the due list is placed (R139, R140). -/
def placeControl (c : Control) (rest : List Control) (s : State) : State :=
  placeWithSerial .control (.control c) (s.setStream { s.stream with due := rest })

/-- EMPTY is placed, with MATN's pending set as it stands (R137, R148). -/
def placeEmpty (s : State) : State := placeRecord ⟨none, .empty s.attention.matn.pending⟩ s

/-- PST chooses a record and places it (R133, R140). -/
def chooseRecord (s : State) : State :=
  match s.stream.again with
  | some p => placeAgain p s
  | none =>
    match s.stream.due with
    | c :: rest => placeControl c rest s
    | [] =>
      match segToSend s with
      | some r => placeSeg r s
      | none => placeEmpty s

/-! ### Delivery (R142) -/

/-- A SEG record joins the in-flight window (R142, R143). -/
def deliverSeg (serial : Serial) (r : SegOut) (s : State) : State :=
  s.setStream { s.stream with window := s.stream.window ++ [⟨serial, r.contour, r.place⟩] }

/-- A TRAVERSE hands its serial to JSQ (R142, R110). -/
def deliverTraverse (serial : Serial) (s : State) : State :=
  if s.jsq.phase = .positioning then s.setJsq { s.jsq with traverseSerial := some serial } else s

/-- CONTOUR_END ends FINISHING (R127, R128). -/
def deliverContourEnd (s : State) : State :=
  if s.jsq.phase = .finishing then s.sequencerIdle.runOn else s

/-- A record is delivered (R142). -/
def deliver (p : Placed) (s : State) : State :=
  match p.body with
  | .empty _ => s
  | .seg r => deliverSeg (p.serial.getD 0) r s
  | .control (.traverse _ _ _) => deliverTraverse (p.serial.getD 0) s
  | .control (.contourEnd _) => deliverContourEnd s
  | .control (.contourBegin _) => s
  | .control .holdAt => s
  | .control .halt => s
  | .control .abort => s

/-! ### The override and the reports (R146, R147) -/

/-- Phases in which a change of override offers a REMAINDER (R147). -/
def Phase.takesOverride : Phase → Bool
  | .positioning => true
  | .piercePressure => true
  | .piercing => true
  | .cutPressure => true
  | .cutting => true
  | .bridgeStop => true
  | .bridgeTravel => true
  | _ => false

/-- The override of an accepted frame (R147, R97). -/
def takeOverride (raw : Byte) (s : State) : State :=
  let o := clampOverride raw.toNat
  let changed := o ≠ s.motion.override
  let s := s.setMotion { s.motion with override := o }
  if changed ∧ s.jsq.phase.takesOverride ∧ s.planner.stopTaken = false then s.takeRequest .remainder else s

/-- A SEG_DONE that PST accepts (R144): the oldest entry leaves the window and is handed to CQU, WCT and JSQ. -/
def acceptSegDone (f : Flight) (rest : List Flight) (s : State) : State :=
  let s := s.setStream { s.stream with window := rest }
  match s.activeEntry with
  | some e => (s.segmentDone e f.place.index).sequencerSegDone e f.place
  | none => s

/-- SEG_DONE (R144, R145). -/
def reportSegDone (serial : Serial) (s : State) : State :=
  match s.stream.window with
  | f :: rest => if f.serial = serial then acceptSegDone f rest s else s.raise .motionLinkFault
  | [] => s.raise .motionLinkFault

/-- STOPPED (R146, R161). -/
def reportStopped (serial : Serial) (s : State) : State :=
  match s.activeEntry with
  | some e => if s.jsq.phase = .aborting then (s.confirm serial e).endAbort else s
  | none => s

/-- STARVED_STOP (R146). -/
def reportStarved (serial : Serial) (s : State) : State :=
  if s.activeEntry.isSome then (s.raise .starved).takeFault (.starved serial) else s

/-- EVENT_ACK (R148). -/
def reportEventAck (mask : Mask) (s : State) : State :=
  s.setAttention ⟨s.attention.jatn, s.attention.matn.acknowledge mask⟩

/-- A report is delivered to its block (R146). -/
def takeReport (r : Report) (s : State) : State :=
  match r with
  | .nothing => s
  | .segDone serial => reportSegDone serial s
  | .arrived serial => s.onArrived serial
  | .stopped serial => reportStopped serial s
  | .holdReq => (holdHead s).getD s
  | .resumeReq => if resumeFault s = none then resumeHead s else s
  | .skipReq => (skipRequest s).getD s
  | .motionFault => s.takeFault .motionFault
  | .starvedStop serial => reportStarved serial s
  | .linkError => (s.raise .motionLinkFault).takeFault .linkCheck
  | .eventAck mask => reportEventAck mask s

/-- A frame that fails its check (R134). -/
def failFrame (s : State) : State := (s.raise .motionLinkFault).takeFault .linkCheck

/-- An accepted frame (R135, R146): the link is OK again, then the override, then the report. -/
def acceptFrame (raw : Byte) (r : Report) (s : State) : State :=
  takeReport r (takeOverride raw (s.setMotion { s.motion with link := .ok }))

/-- The incoming frame is judged (R134). -/
def judgeFrame (frame : Vector Byte 28) (s : State) : State :=
  match decodeFrame frame with
  | some (raw, r) => acceptFrame raw r s
  | none => failFrame s

/-- The exchange ends, and the link timer restarts (R133, R135). -/
def endExchange (s : State) : State :=
  s.setMotion { s.motion with exchange := none, timer := some s.config.motionLinkTimeout.toNat }

/-- An exchange completes (R133): the outgoing record is delivered, then the incoming frame is judged. A link that is SILENT
becomes OK at the judgement, so the record of the exchange that ends a silence is delivered with the link still SILENT, and
a head activated by that delivery is handed MOTION_LINK_FAULT (R135; DEDUCED, notes/assumptions/32.md). A pierce timer
started with 0 expires at once afterwards (R118). -/
def completeExchange (x : Exchange) (frame : Vector Byte 28) (old : State) : State :=
  let s := endExchange old
  let s := if x.cancelled then s else deliver x.placed s
  (judgeFrame frame s).settle.pierceAtOnce old

/-! ### The meanings -/

/-- MOTION_FRAME_START (R140). During an exchange frame select is already asserted, and nothing changes. -/
def execMotionFrameStart (s : State) : Host.Outcome State Fault Refusal :=
  .next (if s.motion.exchange = none then chooseRecord s else s)

/-- MOTION_FRAME_COMPLETE (R133). Without an exchange none completes, and nothing changes. -/
def execMotionFrameComplete (frame : Vector Byte 28) (s : State) : Host.Outcome State Fault Refusal :=
  .next
    (match s.motion.exchange with
    | none => s
    | some x => completeExchange x frame s)

/-- MOTION_FRAME_CUT_SHORT (R133): the record placed becomes the repeat record, unless it is no longer to be sent. -/
def execMotionFrameCutShort (s : State) : Host.Outcome State Fault Refusal :=
  .next
    (match s.motion.exchange with
    | none => s
    | some x =>
      let s := s.setMotion { s.motion with exchange := none }
      if x.cancelled then s else s.setStream { s.stream with again := some x.placed })

/-- MOTION_LINK_TIMEOUT (R135). With the timer expired and not restarted it cannot expire again, and nothing changes. -/
def execMotionLinkTimeout (s : State) : Host.Outcome State Fault Refusal :=
  .next
    (match s.motion.timer with
    | none => s
    | some _ =>
      let s := s.setMotion { s.motion with timer := none, link := .silent }
      ((s.raise .motionLinkFault).takeFault .linkSilence).settle)

end Sys2Proof.Machine
end

