-- ==== Sys2Proof/Machine/PlannerEvents.lean ====
section
/-! DEFINITION. Chapter 6: the completion of planning jobs. -/

namespace Sys2Proof.Machine

open Sys2Proof

/-- The stamp a completed job sets (R102, R103, R109). -/
def Job.stamp (job : Job) : Stamp := ⟨job.inputs.revision, job.inputs.override, job.inputs.level⟩

/-- The plan words a job writes at its completion, by segment index (R48, R78). -/
def State.wordsOf (s : State) (job : Job) (e : Entry) : List (Nat × PlanWord) :=
  jobWords (s.planInput e job.inputs) job

/-- A contour plan completes for its entry (R102). -/
def completeContourPlan (job : Job) (e : Entry) (s : State) : State :=
  let s := s.setStore (writeWords e.pages s.store (s.wordsOf job e))
  let s := s.modifyEntry job.contour fun x =>
    { x with state := .ready, stamp := some job.stamp, overspeedCount := some 0 }
  let s := ((s.raise .planDone).setPlanner { s.planner with job := none }).chooseWork
  (match s.queue with
  | h :: _ => if h.contourId = job.contour then s.tryActivate else s
  | [] => s).settle

/-- A completed STOP job hands its stop place to PST (R103, R108), which makes HOLD_AT due where its chain holds no
segment (R139). -/
def handStopPlace (job : Job) (s : State) : State :=
  match job.stop with
  | some plan => (s.setStream { s.stream with stopPlace := some plan.place, holdAtMade := some false }).holdAtDue
  | none => s

/-- An active job completes for the ACTIVE entry (R103). -/
def completeActiveJob (job : Job) (e : Entry) (s : State) : State :=
  let words := s.wordsOf job e
  let s := s.setStore (writeWords e.pages s.store words)
  let s := s.modifyHead fun x =>
    { x with stamp := some job.stamp, overspeedCount := some (overspeedCount s.store x.pages) }
  let s := if words.any (fun w => w.2.overspeed) then s.raise .overspeed else s
  let s := handStopPlace job s
  ((s.setPlanner { s.planner with job := none }).chooseWork).holdingEnd.settle

/-! ### The meanings -/

/-- CONTOUR_PLAN_COMPLETE (R102). Without a contour plan in flight none completes, and nothing changes. -/
def execContourPlanComplete (s : State) : Host.Outcome State Fault Refusal :=
  .next
    (match s.planner.job with
    | none => s
    | some job =>
      if job.kind = .contour then
        match s.entry job.contour with
        | some e => completeContourPlan job e s
        | none => s
      else s)

/-- ACTIVE_JOB_COMPLETE (R103). Without an active job in flight none completes, and nothing changes. -/
def execActiveJobComplete (s : State) : Host.Outcome State Fault Refusal :=
  .next
    (match s.planner.job, s.activeEntry with
    | some job, some e => if job.kind = .contour then s else completeActiveJob job e s
    | _, _ => s)

end Sys2Proof.Machine
end

