-- ==== Sys2Proof/Machine/PumpEvents.lean ====
section
/-! DEFINITION. Chapter 10: messages to the pump, the pump's reports, and its silence. -/

namespace Sys2Proof.Machine

open Sys2Proof

/-! ### The judgements of an accepted STATUS (R168) -/

/-- Step 1 (R173). -/
def pumpHeard (s : State) : State :=
  s.setPump { s.pump with link := .ok, timer := some s.config.pumpReportTimeout.toNat }

/-- Step 2 (R170): the fault code, against the code held before. -/
def judgeFaultCode (r : PumpReport) (s : State) : State :=
  if r.code = 0 then s
  else
    let known := s.pump.report.any fun old => old.code == r.code
    (if known then s else s.raise .pumpFault).takeFault .pumpFault

/-- Whether a reported pressure is within a band of the target (R169). -/
def withinBand (band target pressure : Nat) : Bool := decide (pressure ≤ target + band ∧ target ≤ pressure + band)

/-- Step 3 (R169): readiness. -/
def judgeReady (r : PumpReport) (s : State) : State :=
  if s.pump.ready = false ∧ withinBand s.config.readyBand.toNat s.pump.target r.pressure then
    (s.setPump { s.pump with ready := true }).onPressureReady
  else s

/-- Whether a report qualifies as sagging (R171). -/
def sagging (r : PumpReport) (s : State) : Bool :=
  s.jsq.phase == .cutting && s.jsq.valve == .opened
    && decide (r.pressure + s.config.dropMargin.toNat < s.pump.target)

/-- Step 4 (R171): sag. -/
def judgeSag (r : PumpReport) (s : State) : State :=
  if sagging r s then
    if s.pump.sag = 0 then s.setPump { s.pump with sag := 1 }
    else ((s.setPump { s.pump with sag := 0 }).raise .pumpFault).takeFault .pressureSag
  else s.setPump { s.pump with sag := 0 }

/-- Step 5 (R172): the flow state, against the flow state held before. -/
def judgeFlow (r : PumpReport) (s : State) : State :=
  if r.flow = .low ∧ (s.pump.report.any fun old => old.flow == .ok) then s.raise .abrasiveLow else s

/-- Step 6: the report is held. -/
def holdReport (r : PumpReport) (s : State) : State := s.setPump { s.pump with report := some r }

/-- A STATUS is accepted (R168), in one change; a pierce timer it started with 0 expires at once afterwards (R118). -/
def acceptStatus (r : PumpReport) (s : State) : State :=
  (holdReport r (judgeFlow r (judgeSag r (judgeReady r (judgeFaultCode r (pumpHeard s)))))).settle.pierceAtOnce s

/-- Six bytes have been received: an accepted STATUS, or a discard (R168). -/
def takeMessage (bytes : List Byte) (s : State) : State :=
  let s := s.setPump { s.pump with assembly := none }
  match decodeStatus bytes with
  | some r => acceptStatus r s
  | none => s

/-- One byte reaches the assembly of messages (R168). -/
def assemble (byte : Byte) (s : State) : State :=
  match s.pump.assembly with
  | none => if byte = leadByte then s.setPump { s.pump with assembly := some ⟨[byte], 5⟩ } else s
  | some a =>
    if a.bytes.length < 5 then s.setPump { s.pump with assembly := some { a with bytes := a.bytes ++ [byte] } }
    else takeMessage (a.bytes ++ [byte]) s

/-- The report that the last valve close has left the part takes JSQ from BRIDGE_STOP to BRIDGE_TRAVEL (R122, R167). -/
def closeTransmitted (s : State) : State :=
  if s.jsq.phase = .bridgeStop then s.setJsq { s.jsq with phase := .bridgeTravel } else s

/-! ### The meanings -/

/-- PUMP_MESSAGE_TRANSMITTED (R167). With an empty transmit list nothing is in transmission, and nothing changes. -/
def execPumpMessageTransmitted (s : State) : Host.Outcome State Fault Refusal :=
  .next
    (match s.pump.transmit with
    | [] => s
    | m :: rest =>
      let s := s.setPump { s.pump with transmit := rest, wire := m.bytes }
      if m = .setValve .closed ∧ rest.any PumpMessage.isValve = false then closeTransmitted s else s)

/-- PUMP_STATUS (R168). -/
def execPumpStatus (message : Vector Byte 6) (s : State) : Host.Outcome State Fault Refusal :=
  .next (takeMessage message.toList s)

/-- PUMP_BYTE_RECEIVED (R168). -/
def execPumpByteReceived (byte : Byte) (s : State) : Host.Outcome State Fault Refusal := .next (assemble byte s)

/-- PUMP_ASSEMBLY_TIMEOUT (R168): the message under assembly is discarded whole. -/
def execPumpAssemblyTimeout (s : State) : Host.Outcome State Fault Refusal :=
  .next (s.setPump { s.pump with assembly := none })

/-- PUMP_REPORT_TIMEOUT (R173). With the timer expired and not restarted it cannot expire again, and nothing changes. -/
def execPumpReportTimeout (s : State) : Host.Outcome State Fault Refusal :=
  .next
    (match s.pump.timer with
    | none => s
    | some _ =>
      let s := s.setPump { s.pump with timer := none, link := .silent }
      ((s.raise .pumpLinkLost).takeFault .pumpLinkLost).settle)

end Sys2Proof.Machine
end

