-- ==== Sys2Proof/Machine/SequencerEvents.lean ====
section
/-! DEFINITION. Chapter 7: the expiries of the sequencer's two timers. -/

namespace Sys2Proof.Machine

open Sys2Proof

/-! ### The meanings -/

/-- PRESSURE_WAIT_EXPIRY (R116). With no wait open the timer is stopped, and nothing changes. -/
def execPressureWaitExpiry (s : State) : Host.Outcome State Fault Refusal :=
  .next
    (match s.jsq.wait with
    | none => s
    | some _ =>
      let s := s.setJsq { s.jsq with wait := none }
      ((s.raise .pressureTimeout).takeFault .pressureTimeout).settle)

/-- PIERCE_TIMER_EXPIRY (R118, R130). With the timer stopped it cannot expire (R129), and nothing changes; the expiry of a
pierce_time of 0 is part of the step that starts the timer. -/
def execPierceTimerExpiry (s : State) : Host.Outcome State Fault Refusal :=
  .next s.pierceExpires

end Sys2Proof.Machine
end

