-- ==== Sys2Proof/Machine/Dispatch.lean ====
section
/-! DEFINITION. One arm per command: its meaning. -/

namespace Sys2Proof.Machine

open Sys2Proof

/-- The effect of a command on everything but the queue of waiting commands. -/
def exec (i : Instr) (s : State) : Host.Outcome State Fault Refusal :=
  match i with
  | .powerOnReset => Sys2Proof.Machine.execPowerOnReset s
  | .commandByteWrite dma byte => Sys2Proof.Machine.execCommandByteWrite dma byte s
  | .responseByteRead => Sys2Proof.Machine.execResponseByteRead s
  | .statusByteRead => Sys2Proof.Machine.execStatusByteRead s
  | .jobPortWriteIgnored byte => Sys2Proof.Machine.execJobPortWriteIgnored byte s
  | .commandByteGap => Sys2Proof.Machine.execCommandByteGap s
  | .bufClear buffer => Sys2Proof.Machine.execBufClear buffer s
  | .bufWrite buffer startSlot records => Sys2Proof.Machine.execBufWrite buffer startSlot records s
  | .bufRead buffer slot => Sys2Proof.Machine.execBufRead buffer slot s
  | .commitStatus buffer => Sys2Proof.Machine.execCommitStatus buffer s
  | .contourOpen contourId tag material quality passes pierceMode closed startX startY beforeId => Sys2Proof.Machine.execContourOpen contourId tag material quality passes pierceMode closed startX startY beforeId s
  | .contourAppend buffer contourId => Sys2Proof.Machine.execContourAppend buffer contourId s
  | .contourReplace buffer contourId listPosition => Sys2Proof.Machine.execContourReplace buffer contourId listPosition s
  | .contourClose contourId => Sys2Proof.Machine.execContourClose contourId s
  | .contourDelete contourId => Sys2Proof.Machine.execContourDelete contourId s
  | .contourMove contourId beforeId => Sys2Proof.Machine.execContourMove contourId beforeId s
  | .contourQuery contourId => Sys2Proof.Machine.execContourQuery contourId s
  | .queueList => Sys2Proof.Machine.execQueueList s
  | .filterSkip base mask => Sys2Proof.Machine.execFilterSkip base mask s
  | .hold => Sys2Proof.Machine.execHold s
  | .resume => Sys2Proof.Machine.execResume s
  | .skip => Sys2Proof.Machine.execSkip s
  | .finishedRead n => Sys2Proof.Machine.execFinishedRead n s
  | .matWrite index record => Sys2Proof.Machine.execMatWrite index record s
  | .matRead index => Sys2Proof.Machine.execMatRead index s
  | .matInvalidate index => Sys2Proof.Machine.execMatInvalidate index s
  | .configSet record => Sys2Proof.Machine.execConfigSet record s
  | .configRead => Sys2Proof.Machine.execConfigRead s
  | .wearConfig counter source limit => Sys2Proof.Machine.execWearConfig counter source limit s
  | .wearLevels t1 t2 t3 d1 d2 d3 => Sys2Proof.Machine.execWearLevels t1 t2 t3 d1 d2 d3 s
  | .wearLoad counter value => Sys2Proof.Machine.execWearLoad counter value s
  | .wearReset counter => Sys2Proof.Machine.execWearReset counter s
  | .wearRead => Sys2Proof.Machine.execWearRead s
  | .routeSet jatnRoute matnRoute jatnMode matnMode => Sys2Proof.Machine.execRouteSet jatnRoute matnRoute jatnMode matnMode s
  | .eventsRead => Sys2Proof.Machine.execEventsRead s
  | .eventsAck mask => Sys2Proof.Machine.execEventsAck mask s
  | .status => Sys2Proof.Machine.execStatus s
  | .jobReset => Sys2Proof.Machine.execJobReset s
  | .commitComplete => Sys2Proof.Machine.execCommitComplete s
  | .contourPlanComplete => Sys2Proof.Machine.execContourPlanComplete s
  | .activeJobComplete => Sys2Proof.Machine.execActiveJobComplete s
  | .motionFrameStart => Sys2Proof.Machine.execMotionFrameStart s
  | .motionFrameComplete frame => Sys2Proof.Machine.execMotionFrameComplete frame s
  | .motionFrameCutShort => Sys2Proof.Machine.execMotionFrameCutShort s
  | .motionLinkTimeout => Sys2Proof.Machine.execMotionLinkTimeout s
  | .pressureWaitExpiry => Sys2Proof.Machine.execPressureWaitExpiry s
  | .pierceTimerExpiry => Sys2Proof.Machine.execPierceTimerExpiry s
  | .pumpMessageTransmitted => Sys2Proof.Machine.execPumpMessageTransmitted s
  | .pumpStatus message => Sys2Proof.Machine.execPumpStatus message s
  | .pumpAssemblyTimeout => Sys2Proof.Machine.execPumpAssemblyTimeout s
  | .pumpReportTimeout => Sys2Proof.Machine.execPumpReportTimeout s
  | .wearTimeUnit counter => Sys2Proof.Machine.execWearTimeUnit counter s
  | .attentionPulseEnd line => Sys2Proof.Machine.execAttentionPulseEnd line s
  | .attentionPulseGapEnd line => Sys2Proof.Machine.execAttentionPulseGapEnd line s
  | .pumpByteReceived byte => Sys2Proof.Machine.execPumpByteReceived byte s
  | .millisecondTick => Sys2Proof.Machine.execMillisecondTick s

end Sys2Proof.Machine
end

