-- ==== Sys2Proof/WellFormed.lean ====
section
/-! DEFINITION. Which commands are well formed. Every operand but one has a type that holds exactly what its wire can
carry; the one check is the number of records of a BUF_WRITE body (R28, R190). -/

namespace Sys2Proof

/-- A BUF_WRITE body carries 1 to 32 segment records (R28): a body of none, or of more than 32, is a wrong length. -/
def Instr.wellFormed : Instr → Bool
  | .bufWrite _ _ records => decide (1 ≤ records.length) && decide (records.length ≤ 32)
  | _ => true

end Sys2Proof
end

