-- ==== Sys2Proof/Safety.lean ====
section
/-! DEFINITION. What counts as a sound state of the part, in the terms the statements use: the laws the spec states for
every moment, and the words the statements need to speak of the job port and of cut order. -/

namespace Sys2Proof.Machine

open Sys2Proof

/-! ### The job port -/

/-- JPI takes the bytes of a command (R181): WAIT_HEADER or RECEIVING. -/
def portOpen (s : State) : Prop :=
  s.port.condition = .waitHeader ∨ ∃ bytes, s.port.condition = .receiving bytes

/-- A sequence of data writes on the job port. -/
def feedBytes (dma : Bool) : List Byte → State → Host.Outcome State Fault Refusal
  | [], s => .next s
  | b :: rest, s =>
    match exec (.commandByteWrite dma b) s with
    | .next t => feedBytes dma rest t
    | .fault f => .fault f
    | .refused r => .refused r

/-- A refusal that names no detail. -/
def plainRefusal (status : Status) : Response := ⟨status, .refusal ⟨none, none, none, none⟩⟩

/-- A BAD_ARG that names the field whose first byte has this offset. -/
def badField (offset : Nat) : Response := ⟨.badArg, .refusal ⟨some offset, none, none, none⟩⟩

/-! ### Laws that hold at every moment -/

/-- R1: at most 48 entries, no two with one contour_id, and only the head ACTIVE, HELD or FAILED; R20: at most 16 finished. -/
def QueueLaw (s : State) : Prop :=
  s.queue.length ≤ 48 ∧ (s.queue.map Entry.contourId).Nodup ∧ (∀ e ∈ s.queue.tail, e.state.begun = false)
    ∧ s.finished.length ≤ 16

/-- The pages held by accepted append commits (R42). -/
def heldPages (s : State) : List Nat := (s.engine.filter fun c => c.kind == .append).map Commit.page

/-- R42: each of the 256 pages is in exactly one place. -/
def PagesPlaced (s : State) : Prop :=
  (s.freePages ++ (s.queue.flatMap Entry.pages ++ heldPages s)).Perm (List.range 256)

/-- The store is in its canonical form. -/
def StoreForm (s : State) : Prop := storeWf s.store = true

/-- R53: the record named by every entry in the queue is VALID. -/
def MaterialsValid (s : State) : Prop := ∀ e ∈ s.queue, (s.materials[e.material]).fields.isSome = true

/-- R177, R178: no counter is due without its flag, the level is the one counter 0 gives; R175: values lie in range. -/
def WearLaw (s : State) : Prop :=
  s.wear.anyDue = false ∧ s.wear.level = s.wear.levelNow ∧ ∀ i, (s.wear.counter i).value ≤ 4294967295

/-- No change of a pending set is left without its pulse (R188): the model's mark is clear between changes. -/
def Quiet (s : State) : Prop := s.attention.jatn.fresh = false ∧ s.attention.matn.fresh = false

/-- The SEG records on their way to the window: placed in the frame under exchange and still to be delivered, or held as
the repeat record. -/
def segsUnderWay (s : State) : Nat :=
  (if s.motion.exchange.any (fun x => !x.cancelled && x.placed.body.isSeg) then 1 else 0)
    + (if s.stream.again.any (fun p => p.body.isSeg) then 1 else 0)

/-- R143: the window holds at most 8 SEG records, those on their way counted. -/
def WindowLaw (s : State) : Prop := s.stream.window.length + segsUnderWay s ≤ 8

/-- The serials of the SEG records delivered, in a frame and still to be delivered, and held as the repeat record, oldest
first. -/
def segSerials (s : State) : List Serial :=
  s.stream.window.map Flight.serial
    ++ (match s.motion.exchange with
      | some x => if !x.cancelled && x.placed.body.isSeg then [x.placed.serial.getD 0] else []
      | none => [])
    ++ match s.stream.again with
      | some p => if p.body.isSeg then [p.serial.getD 0] else []
      | none => []

/-- Each serial follows the one before it, modulo 65536. -/
def serialsRun (l : List Serial) : Prop := ∀ i a b, l[i]? = some a → l[i + 1]? = some b → b = a + 1

/-- R143: the serials of the window are consecutive, oldest first; with what keeps them so: those on their way follow on, a
repeat record waits only between exchanges, and outside an abort the next serial follows the last of them for as long as
no control record has taken one. -/
def SerialLaw (s : State) : Prop :=
  (s.motion.exchange = none ∨ s.stream.again = none) ∧ serialsRun (segSerials s)
    ∧ (s.jsq.phase ≠ .aborting → s.stream.lastKind = some .seg →
        ∀ a, (segSerials s).getLast? = some a → s.stream.nextSerial = a + 1)

/-- R112: whenever the last valve setting sent is close, the last abrasive rate sent is 0. -/
def JetLaw (s : State) : Prop := s.jsq.valve = .closed → s.jsq.abrasive = 0

/-- R113: if no entry is ACTIVE, the last valve setting sent is close. -/
def ShutLaw (s : State) : Prop := s.activeEntry = none → s.jsq.valve = .closed

/-- The valve settings among the messages of a transmit list, oldest first. -/
def valveSettings (list : List PumpMessage) : List Valve :=
  list.filterMap fun m => match m with
    | .setValve v => some v
    | _ => none

/-- The abrasive rates among the messages of a transmit list, oldest first. -/
def abrasiveSettings (list : List PumpMessage) : List Nat :=
  list.filterMap fun m => match m with
    | .setAbrasive rate => some rate
    | _ => none

/-- R112: the last valve and abrasive settings that wait to be sent are the ones JSQ holds as last sent. -/
def SettingsLaw (s : State) : Prop :=
  (∀ v, (valveSettings s.pump.transmit).getLast? = some v → v = s.jsq.valve)
    ∧ ∀ rate, (abrasiveSettings s.pump.transmit).getLast? = some rate → rate = s.jsq.abrasive

/-- Phases in which the jet is open (R110). -/
def Phase.jetOpen : Phase → Bool
  | .piercing => true
  | .cutPressure => true
  | .cutting => true
  | .holding => true
  | _ => false

/-- The queue, the sequencer and the engine agree: an entry is ACTIVE exactly in the phases of a contour being cut (R110),
the valve is open only in the phases whose jet is open (R110), and a contour plan is in flight exactly for the one PLANNING
entry (R91). -/
def BlocksAgree (s : State) : Prop :=
  (s.activeEntry.isSome ↔ s.jsq.phase ≠ .idle ∧ s.jsq.phase ≠ .finishing)
    ∧ (s.jsq.valve = .opened → s.jsq.phase.jetOpen = true)
    ∧ (∀ job, s.planner.job = some job → job.kind = .contour →
        ∃ e ∈ s.queue, e.contourId = job.contour ∧ e.state = .planning)
    ∧ (∀ e ∈ s.queue, e.state = .planning →
        ∃ job, s.planner.job = some job ∧ job.kind = .contour ∧ job.contour = e.contourId)

/-- The laws of the jet, with what keeps them. -/
def JetSafe (s : State) : Prop := QueueLaw s ∧ BlocksAgree s ∧ JetLaw s ∧ ShutLaw s

/-! ### Words of the statements -/

/-- A source routed to a line is pending there (R187). -/
def pendingWhereRouted (src : Source) (s t : State) : Prop :=
  (s.attention.jatn.route &&& src.bit ≠ 0 → t.attention.jatn.pending &&& src.bit ≠ 0)
    ∧ (s.attention.matn.route &&& src.bit ≠ 0 → t.attention.matn.pending &&& src.bit ≠ 0)

/-- The checks of a table, in its order, and the first that fails: `none` exactly where none fails. -/
def firstFailure {α : Type} (checks : List (α × Prop)) (answer : Option α) : Prop :=
  (answer = none ↔ ∀ c ∈ checks, ¬ c.2)
    ∧ ∀ l c r, checks = l ++ c :: r → (∀ d ∈ l, ¬ d.2) → c.2 → answer = some c.1

/-- The check of a field's range, named by the offset of its first byte. -/
def FieldCheck.fails (f : FieldCheck) : Nat × Prop := (f.offset, ¬ (f.low ≤ f.value ∧ f.value ≤ f.high))

/-! ### The planning engine -/

/-- The derate factor of the current wear level (R178). -/
def factorOf (w : Wear) : Nat :=
  if w.level = 0 then 256 else if w.level = 1 then w.d1 else if w.level = 2 then w.d2 else w.d3

/-- The inputs that a job for `e` samples in state `u` (R68, R99). -/
def sampledFor (u : State) (e : Entry) : JobInputs :=
  ⟨u.materialOf e, (u.materials[e.material]).revision.toNat,
    if e.quality = 1 then u.motion.override else min u.motion.override 100, u.wear.level, factorOf u.wear,
    u.config.traverseSpeed.toNat⟩

/-- The free engine has chosen its next work (R8, R93, R94): from the state `u` before the choice to `t`, the first
WAITING_PLAN entry, counted from the head, is PLANNING with its contour plan in flight; with none waiting the engine is
IDLE. -/
def ChoosesWork (u t : State) : Prop :=
  ((∀ x ∈ u.queue, x.state ≠ .waitingPlan) → t.queue = u.queue ∧ t.planner = { u.planner with job := none })
    ∧ ∀ l w r, u.queue = l ++ w :: r → w.state = .waitingPlan → (∀ x ∈ l, x.state ≠ .waitingPlan) →
      t.queue = u.queue.map (fun x => if x.contourId = w.contourId then { x with state := .planning } else x)
        ∧ t.planner = { u.planner with job := some ⟨.contour, w.contourId, sampledFor u w, none, none⟩ }

/-! ### How a contour comes to rest and leaves -/

/-- The transmit list once the jet has been shut (R112): where the valve was last sent open, the jet-off pair has joined the
list, abrasive 0 before the valve close; in a phase whose jet is closed nothing has. -/
def jetShut (s : State) (list : List PumpMessage) : Prop :=
  (s.jsq.valve = .opened → list = enqueueMessage (.setValve .closed) (enqueueMessage (.setAbrasive 0) s.pump.transmit))
    ∧ (s.jsq.valve = .closed → s.jsq.phase.jetOpen = false → list = s.pump.transmit)

/-- JSQ in a phase with the jet shut and no item of a start, a pierce or a pressure wait (R110, R131, R150). -/
def shutIn (phase : Phase) (contour : Option Nat) (cause : Option Cause) (ending : Option Ending) : Sequencer :=
  ⟨phase, contour, none, none, none, none, none, .closed, 0, cause, ending⟩

/-- No active request is outstanding (R91). -/
def noRequest (s : State) : Prop := ∀ job, s.planner.job = some job → job.kind = .contour

/-- A cursor as a place; END is the segment count in the last pass (R136). -/
def placeAt (segs : List SegRecord) (passes : Nat) : Cursor → Place
  | .seg p => p
  | .fin => ⟨segs.length, passes⟩

/-- The resume point a rest at a place gives: a bridge is passed over to its successor (R155). -/
def restPlace (segs : List SegRecord) (passes : Nat) (place : Place) : Place :=
  match segs[place.index]? with
  | some r => if isBridge r then placeAt segs passes (successor segs passes place) else place
  | none => place

/-- An entry that has come to rest at a place (R155, R18): HELD, or FAILED where a set restart mark counts its third failed
resume (R164). -/
def heldEntry (segs : List SegRecord) (cause : Cause) (place : Place) (e : Entry) : Entry :=
  { e with
    state := if e.restartMark ∧ 2 ≤ e.resumeFailures then .failed else .held
    resumeFailures := if e.restartMark then e.resumeFailures + 1 else e.resumeFailures
    restartMark := false
    donePlace := some (restPlace segs e.passes place)
    resumePoint := some (restPlace segs e.passes place)
    holdCause := some cause
    lastHoldCause := some cause
    holdCount := min 255 (e.holdCount + 1) }

/-- The ACTIVE head `e` has come to rest HELD or FAILED at a place (R155): JSQ is IDLE, no request is outstanding, the window
is empty and `due` is due; the jet is shut, and HELD is raised. -/
def BecomesHeld (s t : State) (e : Entry) (cause : Cause) (place : Place) (due : List Control) : Prop :=
  t.queue.head? = some (heldEntry (s.segments e) cause place e)
    ∧ t.queue.map Entry.contourId = s.queue.map Entry.contourId
    ∧ t.jsq = shutIn .idle none none none ∧ noRequest t
    ∧ t.stream.window = [] ∧ t.stream.due = due ∧ t.stream.cursor = s.stream.cursor ∧ t.stream.lastExit = none
    ∧ jetShut s t.pump.transmit ∧ pendingWhereRouted .held s t
    ∧ t.store = s.store ∧ t.freePages = s.freePages ∧ t.finished = s.finished ∧ t.config = s.config
    ∧ t.materials = s.materials ∧ t.engine = s.engine

/-- The finished-list entry of a contour cut to its end (R19). -/
def doneRecord (segs : List SegRecord) (e : Entry) : Finished :=
  ⟨e.contourId, e.tag, .done, e.passes, if e.passes = 1 then segs.length else segs.length - firstBody segs, e.holdCount,
    e.lastHoldCause⟩

/-- The finished-list entry of a skipped contour (R19): the passes whose last BODY segment is done, and the segments done since
the start of the done pass. -/
def skippedRecord (segs : List SegRecord) (e : Entry) : Finished :=
  match e.donePlace with
  | none => ⟨e.contourId, e.tag, .skipped, 0, 0, e.holdCount, e.lastHoldCause⟩
  | some p =>
    ⟨e.contourId, e.tag, .skipped, if p.index ≤ lastBody segs then p.pass - 1 else p.pass,
      if p.pass ≤ 1 then p.index else p.index - firstBody segs, e.holdCount, e.lastHoldCause⟩

/-- The head `e` has left the queue for the finished list (R19, R20, R44): its pages are free and CONTOUR_END is raised. -/
def HeadLeft (s t : State) (e : Entry) (rest : List Entry) (f : Finished) : Prop :=
  t.queue.map Entry.contourId = rest.map Entry.contourId ∧ t.freePages = s.freePages ++ e.pages
    ∧ t.store = erasePages e.pages s.store
    ∧ t.finished = (if 16 ≤ s.finished.length then s.finished.drop 1 else s.finished) ++ [f]
    ∧ pendingWhereRouted .contourEnd s t ∧ t.config = s.config ∧ t.materials = s.materials

/-- The new head can be activated with JSQ in IDLE (R15). -/
def headReady (rest : List Entry) : Prop := ∃ h, rest.head? = some h ∧ h.state = .ready ∧ h.commitsPending = 0

/-- The due list behind a skip (R139): a CONTOUR_BEGIN of the entry that is still on it is removed, unsent, with every record
behind it. -/
def dueBehindSkip (id : Nat) (due left : List Control) : Prop :=
  (.contourBegin id ∉ due → left = due)
    ∧ ∀ l r, due = l ++ .contourBegin id :: r → .contourBegin id ∉ l → left = l

/-- The head `e` has left by skip (R157): with outcome SKIPPED and the finished entry `f`, the window empty, the jet shut, and
one pressure behind it, that of the next contour or the idle pressure. With no head that can be activated JSQ is IDLE, the
send cursor and the last exit are absent, the records due are those of `due` but for the untold ones, and QUEUE_IDLE is
raised (R128, R139, R149). -/
def SkippedOut (s t : State) (e : Entry) (rest : List Entry) (f : Finished) (due : List Control) : Prop :=
  HeadLeft s t e rest f ∧ t.stream.window = []
    ∧ (∃ list, jetShut s list ∧ t.pump.transmit = enqueueMessage (.setPressure t.pump.target) list)
    ∧ (¬ headReady rest →
      t.jsq = shutIn .idle none none none ∧ noRequest t ∧ t.stream.cursor = none ∧ t.stream.lastExit = none
        ∧ dueBehindSkip e.contourId due t.stream.due
        ∧ t.pump.target = clampPressure s.config s.config.idlePressure.toNat ∧ pendingWhereRouted .queueIdle s t)

/-- The head `e` has been cut to its end (R126): the jet shut, DONE, CONTOUR_END due behind `due`, FINISHING. -/
def Finishes (s t : State) (e : Entry) (rest : List Entry) (due : List Control) : Prop :=
  HeadLeft s t e rest (doneRecord (s.segments e) e) ∧ t.jsq = shutIn .finishing (some e.contourId) none none ∧ noRequest t
    ∧ jetShut s t.pump.transmit ∧ t.stream.due = due ++ [.contourEnd e.contourId]
    ∧ t.stream.window = [] ∧ t.stream.cursor = none ∧ t.stream.lastExit = none

/-- The ACTIVE head `e` has come to rest at its done position (R159, R160, R161): finished where it has been cut to its end,
else HELD or gone as the stop ending says. -/
def RestsAtDone (s t : State) (e : Entry) (rest : List Entry) (cause : Cause) (ending : Ending) (due : List Control) : Prop :=
  ∀ done, e.donePlace = some done →
    (done = ⟨countOf s.store e.pages, e.passes⟩ → Finishes s t e rest due)
    ∧ (done ≠ ⟨countOf s.store e.pages, e.passes⟩ → ending = .held → BecomesHeld s t e cause done due)
    ∧ (done ≠ ⟨countOf s.store e.pages, e.passes⟩ → ending = .skipped →
        SkippedOut s t e rest (skippedRecord (s.segments e) e) due)

/-- An abort has begun for the head `e` (R159): jet-off pair, ABORT due, ABORTING with its cause and ending, no request
outstanding; the segments in flight stay in the window. -/
def StartsAbort (s t : State) (e : Entry) (cause : Cause) (ending : Ending) : Prop :=
  t.queue.head? = some e ∧ t.queue.map Entry.contourId = s.queue.map Entry.contourId
    ∧ t.jsq = shutIn .aborting s.jsq.contour (some cause) (some ending) ∧ noRequest t
    ∧ t.pump.transmit = enqueueMessage (.setValve .closed) (enqueueMessage (.setAbrasive 0) s.pump.transmit)
    ∧ t.stream.due = s.stream.due.filter (fun c => !c.superseded) ++ [.abort]
    ∧ t.stream.window = s.stream.window ∧ t.stream.cursor = s.stream.cursor ∧ t.stream.lastExit = s.stream.lastExit
    ∧ t.store = s.store ∧ t.freePages = s.freePages ∧ t.finished = s.finished ∧ t.config = s.config

/-- The entry after a serial confirmation (R160, R17): where the serial is in the window, the done position has moved past it
and every older one. -/
def confirmedEntry (segs : List SegRecord) (window : List Flight) (serial : Serial) (e : Entry) : Entry :=
  if window.any (fun f => f.serial == serial) then
    { e with
      donePlace := e.donePlace.map fun p =>
        (window.take ((window.takeWhile fun f => f.serial != serial).length + 1)).foldl
          (fun p f => State.advanceDone segs e.passes f.place.index p) p
      resumeFailures := 0
      restartMark := false }
  else e

/-- A fault taken while the head moves (R159), for the entry `e`: by its class an abort, a rest with ABORT due, or a rest. -/
def TakesFaultMoving (s t : State) (f : FaultEvent) (e : Entry) (rest : List Entry) (ending : Ending) : Prop :=
  match f with
  | .pumpFault | .pressureSag | .pressureTimeout | .pumpLinkLost => StartsAbort s t e f.cause ending
  | .linkSilence | .linkCheck =>
    RestsAtDone s t e rest f.cause ending (s.stream.due.filter (fun c => !c.superseded) ++ [.abort])
  | .motionFault => RestsAtDone s t e rest f.cause ending s.stream.due
  | .starved serial =>
    RestsAtDone s t (confirmedEntry (s.segments e) s.stream.window serial e) rest f.cause ending s.stream.due

/-- What a fault does to the ACTIVE head, by JSQ's phase (R158 to R161). -/
def TakesFault (s : State) (f : FaultEvent) (t : State) : Prop :=
  ∀ e rest, s.queue = e :: rest → e.state = .active →
    (∀ c, s.jsq.phase ∈ [.positioning, .piercePressure, .piercing, .cutPressure, .bridgeStop, .bridgeTravel] →
      s.stream.cursor = some c →
      BecomesHeld s t e f.cause (placeAt (s.segments e) e.passes c)
        (s.stream.due.filter (fun c => !c.superseded) ++ [.halt]))
    ∧ (s.jsq.phase = .cutting → TakesFaultMoving s t f e rest .held)
    ∧ ∀ cause ending, s.jsq.stopCause = some cause → s.jsq.stopEnding = some ending →
      (s.jsq.phase = .holding → TakesFaultMoving s t f { e with laterFault := some true } rest ending)
      ∧ (s.jsq.phase = .aborting →
        match f with
        | .starved serial =>
          RestsAtDone s t
            (confirmedEntry (s.segments e) s.stream.window serial { e with laterFault := some true }) rest cause ending
            s.stream.due
        | .motionFault | .linkSilence =>
          RestsAtDone s t { e with laterFault := some true } rest cause ending s.stream.due
        | _ =>
          t.queue = { e with laterFault := some true } :: rest ∧ t.jsq = s.jsq ∧ t.stream = s.stream
            ∧ t.planner = s.planner ∧ t.store = s.store ∧ t.finished = s.finished)

/-- The jet-on pair has been issued at the end of a wait (R112, R117, R124): EDGE_START goes to CUTTING, the other modes to
PIERCING with the pierce timer running; a pierce_time of 0 has expired at once, its pierce counted, and JSQ has moved on to
the cutting pressure or to CUTTING (R65, R118). -/
def JetOpened (s t : State) (e : Entry) : Prop :=
  ∀ m jsq sent target, m = s.materialOf e →
    jsq = { s.jsq with
      wait := none, traverseSerial := none, arrived := none, valve := .opened, abrasive := m.abrasiveRate.toNat } →
    sent = enqueueMessage (.setAbrasive m.abrasiveRate.toNat) (enqueueMessage (.setValve .opened) s.pump.transmit) →
    target = clampPressure s.config m.pCut.toNat →
    (s.jsq.startMode = some .edgeStart →
      t.jsq = { jsq with phase := .cutting, startMode := none } ∧ t.pump.transmit = sent ∧ t.wear = s.wear)
    ∧ (s.jsq.startMode ≠ some .edgeStart → 0 < m.pierceTime.toNat →
      t.jsq = { jsq with phase := .piercing, pierceMs := some (m.pierceTime.toNat * 10) } ∧ t.pump.transmit = sent
        ∧ t.wear = s.wear)
    ∧ (s.jsq.startMode = some .lowStationary → m.pierceTime.toNat = 0 →
      t.jsq = { jsq with
          phase := .cutPressure, pierceMs := none, wait := some ⟨target, s.config.pressureTimeout.toNat * 1000⟩ }
        ∧ t.pump.transmit = enqueueMessage (.setPressure target) sent
        ∧ ∀ i, (s.wear.counter i).source = .pierces →
          (t.wear.counter i).value = min 4294967295 ((s.wear.counter i).value + 1))
    ∧ (s.jsq.startMode = some .fullStationary → m.pierceTime.toNat = 0 →
      t.jsq = { jsq with phase := .cutting, pierceMs := none, startMode := none } ∧ t.pump.transmit = sent
        ∧ ∀ i, (s.wear.counter i).source = .pierces →
          (t.wear.counter i).value = min 4294967295 ((s.wear.counter i).value + 1))

/-- Only counter `i` has been set, to `c` (R179): the level follows counter 0 (R178), WEAR_SERVICE and WEAR_LEVEL are raised
where a due flag or a new level asks for it, and nothing outside the wear block, the pending sets and the port changes. -/
def CounterSet (s t : State) (i : Fin 4) (c : Counter) : Prop :=
  t.wear.counter i = c ∧ (∀ j, j ≠ i → t.wear.counter j = s.wear.counter j)
    ∧ (t.wear.t1, t.wear.t2, t.wear.t3, t.wear.d1, t.wear.d2, t.wear.d3)
      = (s.wear.t1, s.wear.t2, s.wear.t3, s.wear.d1, s.wear.d2, s.wear.d3)
    ∧ t.wear.level = t.wear.levelNow
    ∧ (c.due = true → (s.wear.counter i).due = false → pendingWhereRouted .wearService s t)
    ∧ (t.wear.level ≠ s.wear.level → pendingWhereRouted .wearLevel s t)
    ∧ t = ((s.setPort t.port).setWear t.wear).setAttention t.attention

/-- The time condition of a counter's source (R176). -/
def timeRuns (s : State) (c : Counter) : Prop :=
  c.source = .valveTime ∧ s.jsq.valve = .opened ∨ c.source = .abrasiveTime ∧ 0 < s.jsq.abrasive

/-- A counter after one millisecond of its time (R176), judged by R177. -/
def afterMillisecond (c : Counter) : Counter :=
  let value := if c.remainder + 1 < 100 then c.value else min 4294967295 (c.value + 1)
  { c with
    value := value
    remainder := if c.remainder + 1 < 100 then c.remainder + 1 else 0
    due := c.due || (decide (c.limit ≠ 0) && decide (c.limit ≤ value)) }

/-- Sum of the increments of the segments between boundaries `k` and `l` of a range. -/
def between (incs : List Nat) (k l : Nat) : Nat := ((incs.drop (min k l)).take (max k l - min k l)).sum

/-- The highest speed at boundary `k` of a range that stays within every limit and changes by no more than the increments
(R79): the least, over the boundaries of the range, of the limit plus the increments between. -/
def highestAt (limits incs : List Nat) (k b : Nat) : Prop :=
  (∀ l u, limits[l]? = some u → b ≤ u + between incs k l) ∧ ∃ l u, limits[l]? = some u ∧ b = u + between incs k l

/-- The speed at boundary `k` of a range whose first boundary is fixed at its limit (R79, R81): the fixed value there, and
elsewhere the highest speed, or the descent from the fixed value where that is above it. -/
def descendsAt (value : Nat) (limits incs : List Nat) (k b : Nat) : Prop :=
  ∃ low, highestAt limits incs k low ∧ b = if k = 0 then value else max low (value - between incs 0 k)

/-- The dwell_req of a record, 0 where it is absent (R24, R72). -/
def dwellReq (r : SegRecord) : Nat := if r.dwellPresence = 0 then 0 else r.dwellField.toNat

/-- Vertex limit and corner dwell of a turn from `p` into `q` (R71, R72), before a dwell brings the limit to 0: the class is the
shorter turn in 256ths of the circle's 4096, at most 7. -/
def cornerOf (m : Material) (vo : Nat) (p q : SegRecord) (limit dwell : Nat) : Prop :=
  ∃ turn cls factor, turn = (q.headingIn.toNat + 4096 - p.headingOut.toNat) % 4096
    ∧ cls = min 7 ((if 2048 < turn then 4096 - turn else turn) / 256)
    ∧ [m.cf0, m.cf1, m.cf2, m.cf3, m.cf4, m.cf5, m.cf6, m.cf7][cls]? = some factor
    ∧ ([m.dw0, m.dw1, m.dw2, m.dw3, m.dw4, m.dw5, m.dw6, m.dw7].map BitVec.toNat)[cls]? = some dwell
    ∧ limit = max m.vFloor.toNat (min (ceiling m vo p) (ceiling m vo q) * factor.toNat / 256)

/-! ### Cut order -/

/-- The cursor after `k` successors (R50). -/
def alongCutOrder (segs : List SegRecord) (passes : Nat) : Nat → Cursor → Cursor
  | 0, place => place
  | _ + 1, .fin => .fin
  | k + 1, .seg place => alongCutOrder segs passes k (successor segs passes place)

end Sys2Proof.Machine
end

