-- ==== Sys2Proof/Certificates/Slice0/Obligations.lean ====
section
/-! DEFINITION. The statements for the provers, in the order of OBLIGATIONS.json. A statement reads the spec's rules over the
model's commands: `exec c s = .next t` gives the state after command `c`. -/

section

open Sys2Proof Sys2Proof.Machine

/-! ### The machine as a whole -/

/-- One step carries out the command at the front of the queue on the state with the queue's rest; with no command waiting the
part idles (the model's own convention: notes/assumptions/6.md). -/
def Obligations.StepRunsFrontCommand : Prop :=
  (∀ c rest (s : State), step (s.setPending (c :: rest)) = exec c (s.setPending rest))
    ∧ ∀ s : State, s.pending = [] → step s = .next s

/-- Every command is carried out in every state, whatever its operands: it answers a next state, the commands still waiting
keep waiting, and no change of a pending set is left without its pulse (R188). The first three are the model's own choices:
an event that cannot occur in a state changes nothing (notes/assumptions/8.md), the waiting commands are the model's own field
(notes/assumptions/6.md), which a reset keeps (notes/assumptions/25.md); the mark of Quiet is the model's own field as
well (notes/assumptions/29.md). -/
def Obligations.EveryCommandAnswers : Prop :=
  ∀ c s, ∃ t, exec c s = .next t ∧ t.pending = s.pending ∧ (Quiet s → Quiet t)

/-- R22. -/
def Obligations.PowerOnEmptiesQueue : Prop :=
  ∀ s, ∃ t, exec .powerOnReset s = .next t ∧ t.queue = [] ∧ t.finished = [] ∧ t.freePages = List.range 256

/-- The power-on values of every block (R26, R32, R37, R53, R91, R111, R135, R138, R149, R166, R175, R181, R185, R188). That no
message from the pump is under assembly is the model's choice (DESIGN CHOICE, notes/assumptions/35.md). -/
def Obligations.PowerOnValues : Prop :=
  ∀ s, ∃ t, exec .powerOnReset s = .next t
    ∧ t.port.condition = .waitHeader ∧ t.port.ovr = false
    ∧ t.config = ⟨3600000, 2100000, 0, 380, 0, 5, 30, 20, 1000, 200, 250000⟩
    ∧ t.bufA = ⟨Vector.replicate 32 none, 0, .free, none⟩ ∧ t.bufB = t.bufA ∧ t.engine = [] ∧ t.store = []
    ∧ (∀ i : Fin 24, t.materials[i] = ⟨0, none⟩)
    ∧ t.planner = ⟨none, false⟩
    ∧ t.jsq = ⟨.idle, none, none, none, none, none, none, .closed, 0, none, none⟩
    ∧ t.stream = ⟨0, [], none, [], none, none, none, none, none⟩
    ∧ t.motion = ⟨none, some 200, .ok, 100⟩
    ∧ t.pump.transmit = [.setAbrasive 0, .setValve .closed] ∧ t.pump.target = 0 ∧ t.pump.ready = false
    ∧ t.pump.report = none ∧ t.pump.sag = 0 ∧ t.pump.link = .ok ∧ t.pump.timer = some 1000 ∧ t.pump.assembly = none
    ∧ t.wear = ⟨⟨.abrasiveTime, 0, 0, 0, false⟩, ⟨.pierces, 0, 0, 0, false⟩, ⟨.valveTime, 0, 0, 0, false⟩,
        ⟨.cutLength, 0, 0, 0, false⟩, 0, 0, 0, 256, 256, 256, 0⟩
    ∧ t.attention.jatn.pending = 0 ∧ t.attention.matn.pending = 0
    ∧ t.attention.jatn.mode = .level ∧ t.attention.matn.mode = .level
    ∧ (∀ src : Source, t.attention.jatn.route &&& src.bit ≠ 0)
    ∧ ∀ src : Source, t.attention.matn.route &&& src.bit ≠ 0 ↔ src.number ∈ [5, 6, 7, 8, 9, 11]

/-- The laws that hold at every moment hold at power-on. Two of them are the model's own: the canonical form of the store
(notes/assumptions/31.md) and Quiet, that the mark of a change without its pulse is clear (notes/assumptions/29.md). -/
def Obligations.ResetMeetsLaws : Prop :=
  QueueLaw State.reset ∧ PagesPlaced State.reset ∧ StoreForm State.reset ∧ MaterialsValid State.reset
    ∧ WearLaw State.reset ∧ Quiet State.reset ∧ WindowLaw State.reset ∧ SerialLaw State.reset ∧ JetSafe State.reset
    ∧ SettingsLaw State.reset
    ∧ configFault State.reset.config = none

/-- JOB_RESET (R186): what it clears, what it keeps, the ABORT of R165, the settings of R132 and R174, and the pulses: one in
progress completes, one owed is not given. That the first message of the transmit list is the one in transmission, and so
the one that stays, is the model's reading (DEDUCED, notes/assumptions/11.md). -/
def Obligations.JobResetClearsWork : Prop :=
  ∀ s p, portOpen s → p = clampPressure s.config s.config.idlePressure.toNat →
    ∃ t, exec .jobReset s = .next t
      ∧ t.port = ⟨.responding ⟨.ok, .empty⟩ 0, false, s.port.dataOut⟩
      ∧ t.pending = s.pending ∧ t.config = s.config ∧ t.materials = s.materials ∧ t.wear = s.wear
      ∧ t.bufA = ⟨Vector.replicate 32 none, 0, .free, none⟩ ∧ t.bufB = t.bufA ∧ t.engine = [] ∧ t.store = []
      ∧ t.freePages = List.range 256 ∧ t.queue = [] ∧ t.finished = [] ∧ t.planner = ⟨none, false⟩
      ∧ t.jsq = ⟨.idle, none, none, none, none, none, none, .closed, 0, none, none⟩
      ∧ t.stream = ⟨0,
          if s.activeEntry.isSome
            ∧ (s.jsq.phase ∈ [.positioning, .cutting, .holding, .bridgeTravel, .aborting] ∨ s.stream.window ≠ [])
          then [.abort] else [], none, [], none, none, none, none, none⟩
      ∧ t.motion = ⟨s.motion.exchange.map fun x => { x with cancelled := true }, s.motion.timer, s.motion.link,
          s.motion.override⟩
      ∧ t.pump = { s.pump with
          transmit := s.pump.transmit.take 1 ++ [.setAbrasive 0, .setValve .closed, .setPressure p]
          target := p, ready := false, sag := 0 }
      ∧ t.attention.jatn.pending = 0 ∧ t.attention.matn.pending = 0
      ∧ t.attention.jatn.route = s.attention.jatn.route ∧ t.attention.matn.route = s.attention.matn.route
      ∧ t.attention.jatn.mode = s.attention.jatn.mode ∧ t.attention.matn.mode = s.attention.matn.mode
      ∧ ∀ line line' : Line,
        line = s.attention.jatn ∧ line' = t.attention.jatn ∨ line = s.attention.matn ∧ line' = t.attention.matn →
        line'.pulse = if line.pulse = .high true ∨ line.pulse = .high false then .high false else .idle

/-! ### The job port -/

/-- Bytes written to the job port (R181, R182): they are counted as header and body bytes; a length above 770, a complete
command that spells none, and a gap in a command are answered BAD_COMMAND; a write while a response waits sets OVR. DRQ is
asserted in RECEIVING, behind the header, while a body byte is still expected. -/
def Obligations.CommandBytesCounted : Prop :=
  ∀ (dma : Bool) (b : Byte) (s : State),
    (s.port.condition = .waitHeader →
      exec (.commandByteWrite dma b) s = .next (s.setPort { s.port with condition := .receiving [b] }))
    ∧ (∀ code, s.port.condition = .receiving [code] →
      exec (.commandByteWrite dma b) s = .next (s.setPort { s.port with condition := .receiving [code, b] }))
    ∧ (∀ code n0, s.port.condition = .receiving [code, n0] → 770 < (join2 n0 b).toNat →
      exec (.commandByteWrite dma b) s = .next (s.respond ⟨.badCommand, .empty⟩))
    ∧ (∀ code n0, s.port.condition = .receiving [code, n0] → 1 ≤ (join2 n0 b).toNat → (join2 n0 b).toNat ≤ 770 →
      exec (.commandByteWrite dma b) s = .next (s.setPort { s.port with condition := .receiving [code, n0, b] }))
    ∧ (∀ code n0, s.port.condition = .receiving [code, n0] → (join2 n0 b).toNat = 0 → decodeCommand code [] = none →
      exec (.commandByteWrite dma b) s = .next (s.respond ⟨.badCommand, .empty⟩))
    ∧ (∀ code n0 n1 body, s.port.condition = .receiving (code :: n0 :: n1 :: body) → (join2 n0 n1).toNat ≤ 770 →
      body.length + 1 < (join2 n0 n1).toNat →
      exec (.commandByteWrite dma b) s
        = .next (s.setPort { s.port with condition := .receiving (code :: n0 :: n1 :: (body ++ [b])) }))
    ∧ (∀ code n0 n1 body, s.port.condition = .receiving (code :: n0 :: n1 :: body) → (join2 n0 n1).toNat ≤ 770 →
      body.length + 1 = (join2 n0 n1).toNat → decodeCommand code (body ++ [b]) = none →
      exec (.commandByteWrite dma b) s = .next (s.respond ⟨.badCommand, .empty⟩))
    ∧ ((s.port.condition = .executing ∨ ∃ r k, s.port.condition = .responding r k) →
      exec (.commandByteWrite dma b) s = .next (s.setPort { s.port with ovr := true }))
    ∧ (∀ bytes, s.port.condition = .receiving bytes →
      exec .commandByteGap s = .next (s.respond ⟨.badCommand, .empty⟩))
    ∧ (s.drq = true ↔
      ∃ code n0 n1 body, s.port.condition = .receiving (code :: n0 :: n1 :: body) ∧ body.length < (join2 n0 n1).toNat)

/-- A command written byte by byte has the effect of its row (R182, R183, R190): code, length and body, in a run of data
writes or DMA writes, leave the part as the command does. That a row stands for the whole command, taken at its last byte, is
the model's choice (DESIGN CHOICE, notes/assumptions/5.md). -/
def Obligations.WholeCommandRunsItsRow : Prop :=
  ∀ dma c code body s, c.wellFormed = true → encodeCommand c = some (code, body) → s.port.condition = .waitHeader →
    feedBytes dma (commandBytes code body) s = exec c s

/-- Every well-formed job port command is what its code and body decode to, with every operand at every value its bytes can
carry, and only the bytes of a command decode to it (R183, R189, R190). -/
def Obligations.CommandCodecRoundTrip : Prop :=
  (∀ c code body, c.wellFormed = true → encodeCommand c = some (code, body) →
      body.length ≤ 770 ∧ decodeCommand code body = some c)
    ∧ ∀ code body c, decodeCommand code body = some c → c.wellFormed = true ∧ encodeCommand c = some (code, body)

/-- Reading the job port (R181): the response bytes one by one, 0 in every other condition, and the status byte, whose read
clears OVR; a write with the address line high is ignored. The bytes of a response (R182, R184, R189): the status code, the
length of the body, the body; a slot's record as its 24 bytes, a set of sources as its mask, enumerations numbered from 0 in
the order of their tables. The bytes of the body's numbers, and what shows a value to be present, are open
(notes/assumptions/1.md). -/
def Obligations.PortReads : Prop :=
  ∀ s : State,
    (∀ r k, s.port.condition = .responding r k → k + 1 < r.bytes.length →
      exec .responseByteRead s
        = .next (s.setPort ⟨.responding r (k + 1), s.port.ovr, r.bytes.getD k 0⟩))
    ∧ (∀ r k, s.port.condition = .responding r k → r.bytes.length ≤ k + 1 →
      exec .responseByteRead s = .next (s.setPort ⟨.waitHeader, s.port.ovr, r.bytes.getD k 0⟩))
    ∧ ((∀ r k, s.port.condition ≠ .responding r k) →
      exec .responseByteRead s = .next (s.setPort ⟨s.port.condition, s.port.ovr, 0⟩))
    ∧ (∃ b : Byte, exec .statusByteRead s = .next (s.setPort ⟨s.port.condition, false, b⟩)
      ∧ (b.getLsbD 0 = true ↔ s.port.condition ≠ .executing)
      ∧ (b.getLsbD 1 = true ↔ ∃ r k, s.port.condition = .responding r k)
      ∧ (b.getLsbD 2 = true ↔ s.port.condition = .executing)
      ∧ b.getLsbD 3 = s.port.ovr ∧ b.getLsbD 4 = s.jatn ∧ b.toNat < 32)
    ∧ (∀ b, exec (.jobPortWriteIgnored b) s = .next s)
    ∧ (∀ r : Response, r.bytes
      = r.status.code :: (split2 (BitVec.ofNat 16 r.payload.bytes.length) ++ r.payload.bytes))
    ∧ (∀ (st : BufferState) (p : Nat) (r : SegRecord),
      ∃ front, (Payload.bufferSlot st p (some r)).bytes = st.code :: (front ++ r.bytes))
    ∧ (∀ m, (Payload.jatnSet m).bytes = split2 m)
    ∧ [Status.ok, .busy, .badArg, .notFound, .duplicate, .wrongState, .full, .inUse, .gap, .invalidRecord, .invalidContour,
        .notReady, .badCommand].map Status.code = [0, 1, 2, 3, 4, 5, 6, 7, 8, 9, 10, 11, 12]
    ∧ [EntryState.loading, .waitingPlan, .planning, .ready, .active, .held, .failed].map EntryState.code
      = [0, 1, 2, 3, 4, 5, 6]
    ∧ [Phase.idle, .positioning, .piercePressure, .piercing, .cutPressure, .cutting, .bridgeStop, .bridgeTravel, .finishing,
        .holding, .aborting].map Phase.code = [0, 1, 2, 3, 4, 5, 6, 7, 8, 9, 10]
    ∧ [Cause.operator, .pumpFault, .pressureTimeout, .pressureSag, .pumpLinkLost, .motionFault, .motionLinkFault,
        .starved].map Cause.code = [0, 1, 2, 3, 4, 5, 6, 7]

/-- R184: a command refused with any code other than OK changes no state of the part; only its response is held. -/
def Obligations.RefusalChangesNothing : Prop :=
  ∀ c s t r n, (encodeCommand c).isSome = true → portOpen s → exec c s = .next t →
    t.port.condition = .responding r n → r.status ≠ .ok → t = s.respond r

/-! ### Staging buffers and commits -/

/-- R27. -/
def Obligations.BufClearEmptiesBuffer : Prop :=
  ∀ (buffer : Byte) (s : State), portOpen s →
    (buffer ≠ 0 → buffer ≠ 1 → exec (.bufClear buffer) s = .next (s.respond (badField 0)))
    ∧ ∀ name, BufferName.ofByte buffer = some name →
      ((s.buffer name).state ≠ .free → exec (.bufClear buffer) s = .next (s.respond (plainRefusal .busy)))
      ∧ ((s.buffer name).state = .free →
        exec (.bufClear buffer) s
          = .next ((s.setBuffer name ⟨Vector.replicate 32 none, 0, (s.buffer name).state, (s.buffer name).last⟩).respond
              ⟨.ok, .empty⟩))

/-- BUF_WRITE (R28): the records go one after another into the slots from the start on, wrapping from 31 to 0; every other
slot, the state and the last result are kept, and the write pointer stands behind the last record. -/
def Obligations.BufWriteFillsSlots : Prop :=
  ∀ (buffer startSlot : Byte) (records : List SegRecord) (s : State) (name : BufferName) (start : Nat), portOpen s →
    1 ≤ records.length → records.length ≤ 32 → BufferName.ofByte buffer = some name → (s.buffer name).state = .free →
    (startSlot.toNat ≤ 31 ∧ start = startSlot.toNat ∨ startSlot = 255 ∧ start = (s.buffer name).pointer.val) →
    ∃ t, exec (.bufWrite buffer startSlot records) s = .next t
      ∧ t = ((s.setBuffer name (t.buffer name)).respond ⟨.ok, .writePointer ((start + records.length) % 32)⟩)
      ∧ (t.buffer name).state = .free ∧ (t.buffer name).last = (s.buffer name).last
      ∧ (t.buffer name).pointer.val = (start + records.length) % 32
      ∧ ∀ k (h : k < 32),
        (t.buffer name).slots[k] =
          if (k + 32 - start) % 32 < records.length then records[(k + 32 - start) % 32]? else (s.buffer name).slots[k]

/-- R29. -/
def Obligations.BufReadReturnsSlot : Prop :=
  ∀ (buffer slot : Byte) (s : State), portOpen s →
    (buffer ≠ 0 → buffer ≠ 1 → exec (.bufRead buffer slot) s = .next (s.respond (badField 0)))
    ∧ ∀ name, BufferName.ofByte buffer = some name →
      (31 < slot.toNat → exec (.bufRead buffer slot) s = .next (s.respond (badField 1)))
      ∧ ∀ h : slot.toNat < 32,
        exec (.bufRead buffer slot) s
          = .next (s.respond ⟨.ok, .bufferSlot (s.buffer name).state (s.buffer name).pointer.val
              (s.buffer name).slots[slot.toNat]⟩)

/-- Check 5 of R30: the fill of a buffer is k exactly where its filled slots are slots 0 to k - 1 and there is at least one.
-/
def Obligations.FillMeansGapless : Prop :=
  ∀ (b : Buffer) (k : Nat), b.fill = some k ↔ 1 ≤ k ∧ k ≤ 32 ∧ ∀ i (h : i < 32), b.slots[i].isSome = true ↔ i < k

/-- CONTOUR_APPEND and CONTOUR_REPLACE accepted (R30, R31, R32, R6): the page, the commit, the buffer's state and the entry's
commits pending; nothing else changes. -/
def Obligations.CommitsAccepted : Prop :=
  ∀ (buffer : Byte) (id : BitVec 16) (s : State) (name : BufferName) (e : Entry) (k : Nat) (st : BufferState), portOpen s →
    BufferName.ofByte buffer = some name → s.entry id.toNat = some e → (s.buffer name).state = .free →
    (s.buffer name).fill = some k → st = (if s.engine = [] then .committing else .commitWaiting) →
    (∀ page rest, e.state = .loading →
      e.pages.length + s.engine.countP (fun c => c.kind == .append && c.contour == id.toNat && c.bound) < 32 →
      s.freePages = page :: rest →
      exec (.contourAppend buffer id) s =
        .next (((((s.setFreePages rest).setEngine (s.engine ++ [⟨.append, name, id.toNat, true, k, page⟩])).setBuffer name
          { s.buffer name with state := st }).setQueue
          (s.queue.map fun x =>
            if x.contourId = id.toNat then { x with commitsPending := x.commitsPending + 1 } else x)).respond
          ⟨.ok, .pageAndState page st⟩))
    ∧ ∀ (pos : Byte) page, e.state ∈ [.loading, .waitingPlan, .planning, .ready] → e.pages[pos.toNat]? = some page →
      exec (.contourReplace buffer id pos) s =
        .next ((((s.setEngine (s.engine ++ [⟨.replace, name, id.toNat, true, k, page⟩])).setBuffer name
          { s.buffer name with state := st }).setQueue
          (s.queue.map fun x =>
            if x.contourId = id.toNat then { x with commitsPending := x.commitsPending + 1 } else x)).respond
          ⟨.ok, .pageAndState page st⟩)

/-- The refusals of BUF_WRITE, CONTOUR_APPEND and CONTOUR_REPLACE, in the order of their checks (R28, R30, R31). -/
def Obligations.CommitRefusals : Prop :=
  ∀ (buffer startSlot pos : Byte) (records : List SegRecord) (id : BitVec 16) (s : State), portOpen s →
    (records.length = 0 ∨ 32 < records.length →
      exec (.bufWrite buffer startSlot records) s = .next (s.respond ⟨.badCommand, .empty⟩))
    ∧ (buffer ≠ 0 → buffer ≠ 1 →
      (1 ≤ records.length → records.length ≤ 32 →
        exec (.bufWrite buffer startSlot records) s = .next (s.respond (badField 0)))
      ∧ exec (.contourAppend buffer id) s = .next (s.respond (badField 0))
      ∧ exec (.contourReplace buffer id pos) s = .next (s.respond (badField 0)))
    ∧ ∀ name, BufferName.ofByte buffer = some name →
      (1 ≤ records.length → records.length ≤ 32 → 31 < startSlot.toNat → startSlot ≠ 255 →
        exec (.bufWrite buffer startSlot records) s = .next (s.respond (badField 1)))
      ∧ (1 ≤ records.length → records.length ≤ 32 → startSlot.toNat ≤ 31 ∨ startSlot = 255 →
        (s.buffer name).state ≠ .free →
        exec (.bufWrite buffer startSlot records) s = .next (s.respond (plainRefusal .busy)))
      ∧ (s.entry id.toNat = none →
        exec (.contourAppend buffer id) s = .next (s.respond (plainRefusal .notFound))
        ∧ exec (.contourReplace buffer id pos) s = .next (s.respond (plainRefusal .notFound)))
      ∧ ∀ e, s.entry id.toNat = some e →
        (e.state ≠ .loading → exec (.contourAppend buffer id) s = .next (s.respond (plainRefusal .wrongState)))
        ∧ (e.state = .loading → (s.buffer name).state ≠ .free →
          exec (.contourAppend buffer id) s = .next (s.respond (plainRefusal .busy)))
        ∧ (e.state = .loading → (s.buffer name).state = .free → (s.buffer name).fill = none →
          exec (.contourAppend buffer id) s = .next (s.respond (plainRefusal .gap)))
        ∧ (e.state = .loading → (s.buffer name).state = .free → (s.buffer name).fill ≠ none →
          32 ≤ e.pages.length + s.engine.countP (fun c => c.kind == .append && c.contour == id.toNat && c.bound)
            ∨ s.freePages = [] →
          exec (.contourAppend buffer id) s = .next (s.respond (plainRefusal .full)))
        ∧ (e.state ∈ [.active, .held, .failed] →
          exec (.contourReplace buffer id pos) s = .next (s.respond (plainRefusal .wrongState)))
        ∧ (e.state ∈ [.loading, .waitingPlan, .planning, .ready] → e.pages.length ≤ pos.toNat →
          exec (.contourReplace buffer id pos) s = .next (s.respond (badField 3)))
        ∧ (e.state ∈ [.loading, .waitingPlan, .planning, .ready] → pos.toNat < e.pages.length →
          (s.buffer name).state ≠ .free →
          exec (.contourReplace buffer id pos) s = .next (s.respond (plainRefusal .busy)))
        ∧ (e.state ∈ [.loading, .waitingPlan, .planning, .ready] → pos.toNat < e.pages.length →
          (s.buffer name).state = .free → (s.buffer name).fill = none →
          exec (.contourReplace buffer id pos) s = .next (s.respond (plainRefusal .gap)))

/-- A commit that completes OK (R33, R34, R35, R36, R6, R7): the page gets the buffer's records with every plan word cleared;
an append's page joins the page list; a replace into a planned entry returns it to be planned again; the buffer is FREE
with its slots, and COMMIT_DONE is raised. A contour plan in flight for the replaced entry is abandoned, and the engine
chooses again (R105, R93); an active request and a plan of another entry go on. Every other entry is kept, but for the one
the engine then takes. Jet, stream, links and wear are as they were. -/
def Obligations.CommitCompletesOk : Prop :=
  ∀ (s : State) (c : Commit) (rest : List Commit) (e : Entry) (records : List SegRecord), QueueLaw s →
    s.engine = c :: rest → (∀ d ∈ rest, d.buffer ≠ c.buffer) → c.bound = true → s.entry c.contour = some e →
    records = leadingRecords ((s.buffer c.buffer).slots.toList.take c.fill) →
    firstRecordFault s.config 0 records = none →
    (c.kind = .append ∧ e.state = .loading
      ∨ c.kind = .replace ∧ e.state = .loading
      ∨ c.kind = .replace ∧ e.state ∈ [.waitingPlan, .planning, .ready]
        ∧ structureFault e.closed e.passes (segmentsOf (putPage c.page (freshPage records) s.store) e.pages) = none) →
    ∃ t e', exec .commitComplete s = .next t
      ∧ t.store = putPage c.page (freshPage records) s.store ∧ t.freePages = s.freePages ∧ t.engine = rest
      ∧ t.buffer c.buffer = { s.buffer c.buffer with state := .free, last := some ⟨.ok, c.kind, c.contour, c.page⟩ }
      ∧ (∀ d ∈ rest.head?, (t.buffer d.buffer).state = .committing)
      ∧ t.entry c.contour = some e'
      ∧ e'.pages = (if c.kind = .append then e.pages ++ [c.page] else e.pages)
      ∧ e'.commitsPending = e.commitsPending - 1
      ∧ (e.state = .loading →
          e' = { e with pages := e'.pages, commitsPending := e'.commitsPending })
      ∧ (e.state ≠ .loading →
          e'.state ∈ [.waitingPlan, .planning] ∧ e'.stamp = none ∧ e'.overspeedCount = none)
      ∧ (∀ x ∈ s.queue, x.contourId ≠ c.contour →
          t.entry x.contourId = some x ∨ x.state = .waitingPlan ∧ t.entry x.contourId = some { x with state := .planning })
      ∧ (∀ u : State, u = s.setQueue (s.queue.map fun x => if x.contourId = c.contour then
            { e' with state := if e.state = .loading then .loading else .waitingPlan } else x) →
          (∀ job, s.planner.job = some job → job.kind ≠ .contour ∨ job.contour ≠ c.contour →
            t.planner = s.planner ∧ t.queue = u.queue)
          ∧ (s.planner.job = none
              ∨ e.state ≠ .loading ∧ ∃ job, s.planner.job = some job ∧ job.kind = .contour ∧ job.contour = c.contour →
            ChoosesWork u t))
      ∧ (s.attention.jatn.route &&& Source.commitDone.bit ≠ 0 → t.attention.jatn.pending &&& Source.commitDone.bit ≠ 0)
      ∧ t.port = s.port ∧ t.config = s.config ∧ t.finished = s.finished ∧ t.materials = s.materials ∧ t.jsq = s.jsq
      ∧ t.stream = s.stream ∧ t.motion = s.motion ∧ t.pump = s.pump ∧ t.wear = s.wear

/-- A commit that fails (R33, R34, R35, R36): NOT_FOUND where its entry has left the queue, INVALID_RECORD at the first slot
that fails R25, INVALID_CONTOUR where a replace would break R5. No page changes; an append's page returns to the tail of
the free-page list, the entry's commits pending falls by 1, and the engine takes the commit that waited, whose buffer becomes
COMMITTING. A record fails the first check of R25's table that it fails,
with that check's number as reason code (R184). -/
def Obligations.FailedCommitChangesNoPage : Prop :=
  (∀ (s : State) (c : Commit) (rest : List Commit) (records : List SegRecord) (result : CommitResult),
    s.engine = c :: rest → (∀ d ∈ rest, d.buffer ≠ c.buffer) →
    records = leadingRecords ((s.buffer c.buffer).slots.toList.take c.fill) →
    ((c.bound = false ∨ s.entry c.contour = none) ∧ result = .notFound
      ∨ (∃ e slot reason, c.bound = true ∧ s.entry c.contour = some e
          ∧ firstRecordFault s.config 0 records = some (slot, reason) ∧ result = .invalidRecord slot reason)
      ∨ ∃ e reason segment, c.bound = true ∧ s.entry c.contour = some e ∧ firstRecordFault s.config 0 records = none
          ∧ c.kind = .replace ∧ e.state ≠ .loading
          ∧ structureFault e.closed e.passes (segmentsOf (putPage c.page (freshPage records) s.store) e.pages)
            = some (reason, segment)
          ∧ result = .invalidContour reason segment) →
    ∃ t, exec .commitComplete s = .next t ∧ t.store = s.store ∧ t.engine = rest
      ∧ (∀ d ∈ rest.head?, (t.buffer d.buffer).state = .committing)
      ∧ t.freePages = (if c.kind = .append then s.freePages ++ [c.page] else s.freePages)
      ∧ t.buffer c.buffer = { s.buffer c.buffer with state := .free, last := some ⟨result, c.kind, c.contour, c.page⟩ }
      ∧ (s.attention.jatn.route &&& Source.commitDone.bit ≠ 0 → t.attention.jatn.pending &&& Source.commitDone.bit ≠ 0)
      ∧ t.queue.map Entry.contourId = s.queue.map Entry.contourId ∧ t.finished = s.finished ∧ t.config = s.config
      ∧ t.materials = s.materials ∧ t.wear = s.wear
      ∧ (∀ e, c.bound = true → s.entry c.contour = some e →
        ∃ e', t.entry c.contour = some e' ∧ e'.commitsPending = e.commitsPending - 1 ∧ e'.pages = e.pages))
    ∧ (∀ (config : MachineConfig) (list : List SegRecord) (slot : Nat) (reason : RecordReason),
      firstRecordFault config 0 list = some (slot, reason) ↔
        (∃ r, list[slot]? = some r ∧ recordFault config r = some reason)
          ∧ ∀ j r, j < slot → list[j]? = some r → recordFault config r = none)
    ∧ ∀ (config : MachineConfig) (r : SegRecord) (arc : Prop) (radius dwell turn : Nat) (checks : List (RecordReason × Prop)),
      (arc ↔ r.kindByte = 1 ∨ r.kindByte = 2) → radius = r.radiusField.toNat → dwell = r.dwellField.toNat →
      turn = (if r.kindByte = 1 then (r.headingIn.toNat + 4096 - r.headingOut.toNat) % 4096
        else (r.headingOut.toNat + 4096 - r.headingIn.toNat) % 4096) →
      checks =
        [(.badKind, 3 < r.kindByte.toNat), (.badRole, 2 < r.roleByte.toNat),
          (.badLength, ¬ (1 ≤ r.lengthField.toNat ∧ r.lengthField.toNat ≤ 4194303)),
          (.radiusAbsent, arc ∧ r.radiusPresence = 0), (.radiusPresent, ¬ arc ∧ r.radiusPresence ≠ 0),
          (.badRadius, r.radiusPresence ≠ 0 ∧ ¬ (500 ≤ radius ∧ radius ≤ 4194303)),
          (.badHeading, 4095 < r.headingIn.toNat ∨ 4095 < r.headingOut.toNat),
          (.headingMismatch, ¬ arc ∧ r.headingIn ≠ r.headingOut), (.badSweep, arc ∧ ¬ (1 ≤ turn ∧ turn ≤ 2047)),
          (.xOutOfBed, config.bedXMax.toNat < r.endX.toNat), (.yOutOfBed, config.bedYMax.toNat < r.endY.toNat),
          (.badDwell, r.dwellPresence ≠ 0 ∧ ¬ (1 ≤ dwell ∧ dwell ≤ 2000)),
          (.dwellOnBridge, r.kindByte = 3 ∧ r.dwellPresence ≠ 0)] →
      firstFailure checks (recordFault config r)
        ∧ checks.map (fun c => c.1.code) = [1, 2, 3, 4, 5, 6, 7, 8, 9, 10, 11, 12, 13]

/-! ### The segment store -/

/-- The store keeps its canonical form at every step, which is the model's own representation of R41 (DESIGN CHOICE,
notes/assumptions/31.md); and a page that is written reads back as written, every other page as before. -/
def Obligations.StoreFormKept : Prop :=
  (∀ c s t, exec c s = .next t → StoreForm s → StoreForm t)
    ∧ ∀ (st : Store) (p q : Nat) (page : Page), storeWf st = true →
      pageAt (putPage p page st) q = if q = p then page else pageAt st q

/-- The walk of R46 finds, for every index, the slot that stands at it when the used slots of the page list are taken page by
page (R45): inside the segment count a segment, beyond it none. The plan words a job writes (R47, R48): each named segment
gets its word beside an unchanged record; every other plan word and every page outside the page list keeps its value. -/
def Obligations.WalkFindsAndWritesWords : Prop :=
  (∀ (store : Store) (pages : List Nat) (i : Nat),
    slotAt store pages i = (pages.flatMap (pageAt store))[i]?
      ∧ ((slotAt store pages i).isSome = true ↔ i < countOf store pages)
      ∧ (slotAt store pages i).map Slot.record = (segmentsOf store pages)[i]?)
    ∧ (∀ (store : Store) (pages : List Nat) (words : List (Nat × PlanWord)), storeWf store = true → pages.Nodup →
    (words.map Prod.fst).Nodup →
    (∀ j, slotAt (writeWords pages store words) pages j
        = (slotAt store pages j).map fun slot =>
            match words.find? (fun w => w.1 == j) with
            | some w => { slot with word := some w.2 }
            | none => slot)
      ∧ ∀ p, p ∉ pages → pageAt (writeWords pages store words) p = pageAt store p)

/-- R50 and R51 agree: where a segment has a successor in cut order, that segment is the successor's predecessor. A lead-in
segment is in pass 1. -/
def Obligations.PredecessorUndoesSuccessor : Prop :=
  ∀ (segs : List SegRecord) (passes : Nat) (place next : Place), place.index < segs.length → 1 ≤ place.pass →
    (place.index < firstBody segs → place.pass = 1) → successor segs passes place = .seg next → predecessor segs next = some place

/-- R42: at every step each of the 256 pages stays in exactly one place: the free-page list, one page list, or an accepted
append. -/
def Obligations.PagesPlacedKept : Prop :=
  ∀ c s t, exec c s = .next t → QueueLaw s → PagesPlaced s → PagesPlaced t

/-! ### The contour queue -/

/-- R1, R20: at every step the queue holds at most 48 entries, no two with one contour_id, and only its head is ACTIVE, HELD
or FAILED; the finished list holds at most 16. -/
def Obligations.QueueLawKept : Prop := ∀ c s t, exec c s = .next t → QueueLaw s → QueueLaw t

/-- CONTOUR_OPEN accepted (R3): the new entry is LOADING, empty, and placed by R4; nothing else changes. R4: without a
before_id an entry goes to the tail; with one, immediately before the entry it names, or immediately after it where that
entry is ACTIVE, HELD or FAILED. That byte 0 of the field closed is yes, and byte 1 no, is the model's reading (DEDUCED,
notes/assumptions/3.md). -/
def Obligations.ContourOpenedAndPlaced : Prop :=
  (∀ (contourId tag beforeId : BitVec 16) (material quality passes pierceMode closed : Byte) (startX startY : BitVec 32)
    (mode : PierceMode) (m : Fin 24) (e : Entry) (s : State), portOpen s → Quiet s →
    1 ≤ contourId.toNat → m.val = material.toNat → 1 ≤ quality.toNat → quality.toNat ≤ 5 → 1 ≤ passes.toNat →
    passes.toNat ≤ 4 → PierceMode.ofByte pierceMode = some mode → closed = 0 ∨ closed = 1 →
    startX.toNat ≤ s.config.bedXMax.toNat → startY.toNat ≤ s.config.bedYMax.toNat →
    s.queue.length < 48 → s.entry contourId.toNat = none → (s.materials[m]).fields ≠ none →
    (beforeId ≠ 0 → s.entry beforeId.toNat ≠ none) →
    e = { contourId := contourId.toNat, tag := tag.toNat, material := m, quality := quality.toNat, passes := passes.toNat,
          pierceMode := mode, closed := decide (closed = 0), startX := startX.toNat, startY := startY.toNat, pages := [],
          commitsPending := 0, state := .loading, stamp := none, overspeedCount := none, donePlace := none,
          resumePoint := none, holdCause := none, lastHoldCause := none, laterFault := none, resumeFailures := 0,
          holdCount := 0, restartMark := false } →
    ∃ queue, queue = place e (if beforeId = 0 then none else some beforeId.toNat) s.queue ∧
      exec (.contourOpen contourId tag material quality passes pierceMode closed startX startY beforeId) s
        = .next ((s.setQueue queue).respond
            ⟨.ok, .position (queue.findIdx (fun x => x.contourId == contourId.toNat) + 1)⟩))
    ∧ (∀ (e x : Entry) (l r : List Entry), place e none (l ++ r) = l ++ r ++ [e]
    ∧ ((∀ y ∈ l, y.contourId ≠ x.contourId) →
      place e (some x.contourId) (l ++ x :: r)
        = if x.state = .active ∨ x.state = .held ∨ x.state = .failed then l ++ x :: e :: r else l ++ e :: x :: r))

/-- CONTOUR_CLOSE (R5): its refusals in order, and on acceptance the entry WAITING_PLAN, or, with the engine free and no other
entry waiting, PLANNING at once with the inputs of R99 (R93, R94), the derate factor that of the wear level (R178). Nothing
else changes. -/
def Obligations.ContourClosed : Prop :=
  ∀ (id : BitVec 16) (s : State), portOpen s →
    (s.entry id.toNat = none → exec (.contourClose id) s = .next (s.respond (plainRefusal .notFound)))
    ∧ ∀ e, s.entry id.toNat = some e →
      (e.state ≠ .loading → exec (.contourClose id) s = .next (s.respond (plainRefusal .wrongState)))
      ∧ (e.state = .loading → e.commitsPending ≠ 0 →
        exec (.contourClose id) s = .next (s.respond (plainRefusal .busy)))
      ∧ (∀ reason segment, e.state = .loading → e.commitsPending = 0 →
        structureFault e.closed e.passes (s.segments e) = some (reason, segment) →
        exec (.contourClose id) s
          = .next (s.respond ⟨.invalidContour, .refusal ⟨none, none, some reason.code, segment⟩⟩))
      ∧ (e.state = .loading → e.commitsPending = 0 → structureFault e.closed e.passes (s.segments e) = none →
        (∀ job, s.planner.job = some job →
          exec (.contourClose id) s
            = .next ((s.setQueue (s.queue.map fun x =>
                if x.contourId = id.toNat then { x with state := .waitingPlan } else x)).respond ⟨.ok, .empty⟩))
        ∧ (s.planner.job = none → (∀ x ∈ s.queue, x.state ≠ .waitingPlan) →
          exec (.contourClose id) s
            = .next (((s.setQueue (s.queue.map fun x =>
                if x.contourId = id.toNat then { x with state := .planning } else x)).setPlanner
                { s.planner with
                  job := some ⟨.contour, id.toNat, sampledFor s e, none, none⟩ }).respond ⟨.ok, .empty⟩)))

/-- R5's table: a contour passes the structure checks exactly where its segments are lead-ins, then one or more body segments,
then lead-outs, each bridge is a body segment that is neither the first nor the last of the body nor next to another
bridge, and a contour of several passes is closed and has a lead-in and a lead-out. The first check that fails answers its
reason code, 1 to 5, with the segment index the table names: the first bridge misplaced, or the first segment whose role
stands before its predecessor's (the model's reading of a role that breaks the order: DEDUCED, notes/assumptions/4.md). -/
def Obligations.StructureChecksMean : Prop :=
  (∀ (closed : Bool) (passes : Nat) (segs : List SegRecord),
    structureFault closed passes segs = none ↔
      ∃ leadIns body leadOuts, segs = leadIns ++ body ++ leadOuts ∧ body ≠ []
        ∧ (∀ r ∈ leadIns, segRole r = .leadIn) ∧ (∀ r ∈ body, segRole r = .body)
        ∧ (∀ r ∈ leadOuts, segRole r = .leadOut)
        ∧ (∀ r ∈ leadIns ++ leadOuts, isBridge r = false)
        ∧ (∀ r, body.head? = some r ∨ body.getLast? = some r → isBridge r = false)
        ∧ (∀ i r q, body[i]? = some r → body[i + 1]? = some q → ¬ (isBridge r = true ∧ isBridge q = true))
        ∧ (1 < passes → closed = true ∧ leadIns ≠ [] ∧ leadOuts ≠ []))
    ∧ (∀ (closed : Bool) (passes : Nat) (segs : List SegRecord) (order : Role → Nat) (body breaks misplaced : Nat → Prop)
      (checks : List ((ContourReason × Option Nat) × Prop)),
      order .leadIn = 0 → order .body = 1 → order .leadOut = 2 →
      (∀ i, body i ↔ ∃ r, segs[i]? = some r ∧ segRole r = .body) →
      (∀ i, breaks i ↔ ∃ p r, 1 ≤ i ∧ segs[i - 1]? = some p ∧ segs[i]? = some r ∧ order (segRole r) < order (segRole p)) →
      (∀ i, misplaced i ↔ ∃ r, segs[i]? = some r ∧ isBridge r = true
        ∧ (segRole r ≠ .body ∨ (∀ j, j < i → ¬ body j) ∨ (∀ j, i < j → ¬ body j) ∨ i = 0 ∨ i + 1 = segs.length
          ∨ (∃ q, (segs[i + 1]? = some q ∨ 1 ≤ i ∧ segs[i - 1]? = some q) ∧ isBridge q = true))) →
      checks = [((.noSegments, none), segs = [])]
        ++ (List.range segs.length).map (fun i => ((.roleOrder, some i), breaks i))
        ++ [((.roleOrder, none), ∀ i, ¬ body i)]
        ++ (List.range segs.length).map (fun i => ((.bridgePlacement, some i), misplaced i))
        ++ [((.multipassOpen, none), 1 < passes ∧ closed = false),
          ((.multipassLeads, none), 1 < passes ∧ ((∀ r ∈ segs, segRole r ≠ .leadIn) ∨ ∀ r ∈ segs, segRole r ≠ .leadOut))] →
      firstFailure checks (structureFault closed passes segs))
    ∧ [ContourReason.noSegments, .roleOrder, .bridgePlacement, .multipassOpen, .multipassLeads].map ContourReason.code
      = [1, 2, 3, 4, 5]

/-- CONTOUR_DELETE accepted (R10, R19, R44): the entry is gone without a finished-list entry, its pages are at the tail of the
free-page list in page-list order, its plan is abandoned, its commits are unbound (R6). Where the head stays, the jet, the
stream and the links are as they were. -/
def Obligations.ContourDeleted : Prop :=
  ∀ (id : BitVec 16) (s : State) (e : Entry), portOpen s → QueueLaw s → s.entry id.toNat = some e →
    e.state ∈ [.loading, .waitingPlan, .planning, .ready] →
    ∃ t, exec (.contourDelete id) s = .next t ∧ t.port.condition = .responding ⟨.ok, .empty⟩ 0
      ∧ t.freePages = s.freePages ++ e.pages ∧ t.store = erasePages e.pages s.store ∧ t.finished = s.finished
      ∧ t.queue.map Entry.contourId = (s.queue.map Entry.contourId).filter (fun x => x ≠ id.toNat)
      ∧ (∀ job, t.planner.job = some job → job.kind = .contour → job.contour ≠ id.toNat)
      ∧ t.engine = s.engine.map (fun c => if c.contour = id.toNat then { c with bound := false } else c)
      ∧ t.bufA = s.bufA ∧ t.bufB = s.bufB ∧ t.config = s.config ∧ t.materials = s.materials ∧ t.wear = s.wear
      ∧ ((s.queue.head?).map Entry.contourId ≠ some id.toNat →
        t.jsq = s.jsq ∧ t.stream = s.stream ∧ t.motion = s.motion ∧ t.pump = s.pump)

/-- CONTOUR_MOVE accepted (R11, R4): the entry is taken out and placed again with every field; a before_id of its own leaves
the queue as it was. Where the head it leaves cannot be activated (R15), nothing else changes. -/
def Obligations.ContourMoved : Prop :=
  ∀ (id beforeId : BitVec 16) (s : State) (e : Entry) (queue : List Entry), portOpen s → QueueLaw s → Quiet s →
    s.entry id.toNat = some e → e.state ∈ [.loading, .waitingPlan, .planning, .ready] →
    (beforeId ≠ 0 → s.entry beforeId.toNat ≠ none) →
    queue = place e (if beforeId = 0 then none else some beforeId.toNat)
      (s.queue.filter fun x => x.contourId != id.toNat) →
    (beforeId = id → id ≠ 0 →
      exec (.contourMove id beforeId) s
        = .next (s.respond ⟨.ok, .position (s.queue.findIdx (fun x => x.contourId == id.toNat) + 1)⟩))
    ∧ (beforeId ≠ id →
      (∃ t n, exec (.contourMove id beforeId) s = .next t
        ∧ t.port.condition = .responding ⟨.ok, .position n⟩ 0
        ∧ t.queue.map Entry.contourId = queue.map Entry.contourId
        ∧ n = queue.findIdx (fun x => x.contourId == id.toNat) + 1)
      ∧ ((∀ h, queue.head? = some h → ¬ (s.jsq.phase = .idle ∧ h.state = .ready ∧ h.commitsPending = 0)) →
        exec (.contourMove id beforeId) s
          = .next ((s.setQueue queue).respond
              ⟨.ok, .position (queue.findIdx (fun x => x.contourId == id.toNat) + 1)⟩)))

/-- FILTER_SKIP (R12, R19, R20, R44): exactly the entries that have not begun and match leave, in queue order, with outcome
SKIPPED and their pages at the tail of the free-page list; their number is answered, CONTOUR_END is raised where it is not 0,
and the commits bound to them are unbound (R6). -/
def Obligations.FilterSkipRemovesMatches : Prop :=
  ∀ (base mask : BitVec 16) (s : State) (takes : Entry → Bool), portOpen s → QueueLaw s →
    (∀ e, takes e = (decide (e.state ∈ [.loading, .waitingPlan, .planning, .ready])
      && decide (BitVec.ofNat 16 e.tag &&& mask = base &&& mask))) →
    ∃ (t : State) (recs : List Finished), exec (.filterSkip base mask) s = .next t
      ∧ t.port.condition = .responding ⟨.ok, .count (s.queue.countP takes)⟩ 0
      ∧ t.queue.map Entry.contourId = (s.queue.filter fun e => !takes e).map Entry.contourId
      ∧ t.freePages = s.freePages ++ (s.queue.filter takes).flatMap Entry.pages
      ∧ t.finished = (s.finished ++ recs).drop ((s.finished ++ recs).length - 16)
      ∧ recs.map (fun f => (f.contourId, f.tag, f.outcome, f.holdCount, f.lastHoldCause))
        = (s.queue.filter takes).map (fun e => (e.contourId, e.tag, .skipped, e.holdCount, e.lastHoldCause))
      ∧ (∀ (k : Nat) (f : Finished) (e : Entry), recs[k]? = some f → (s.queue.filter takes)[k]? = some e → e.donePlace = none →
        f.passesCompleted = 0 ∧ f.segmentsDone = 0)
      ∧ t.config = s.config ∧ t.materials = s.materials ∧ t.wear = s.wear ∧ t.bufA = s.bufA ∧ t.bufB = s.bufB
      ∧ (s.queue.countP takes ≠ 0 → pendingWhereRouted .contourEnd s t)
      ∧ t.engine = s.engine.map fun c =>
        if (s.queue.filter takes).any (fun e => e.contourId == c.contour) then { c with bound := false } else c

/-- The refusals of CONTOUR_OPEN, CONTOUR_DELETE, CONTOUR_MOVE and CONTOUR_QUERY in the order of their checks (R3, R10, R11,
R13). The bytes of the field closed (notes/assumptions/3.md), and that the header fields are checked and named in the order of
the command body (notes/assumptions/20.md), are the model's readings (DEDUCED). -/
def Obligations.QueueRefusals : Prop :=
  ∀ (id tag beforeId : BitVec 16) (material quality passes pierceMode closed : Byte) (startX startY : BitVec 32) (s : State)
    (fields : List FieldCheck) (open_ : Instr), portOpen s →
    open_ = .contourOpen id tag material quality passes pierceMode closed startX startY beforeId →
    fields = [⟨0, id.toNat, 1, 65535⟩, ⟨4, material.toNat, 0, 23⟩, ⟨5, quality.toNat, 1, 5⟩, ⟨6, passes.toNat, 1, 4⟩,
      ⟨7, pierceMode.toNat, 0, 2⟩, ⟨8, closed.toNat, 0, 1⟩, ⟨9, startX.toNat, 0, s.config.bedXMax.toNat⟩,
      ⟨13, startY.toNat, 0, s.config.bedYMax.toNat⟩] →
    (∀ l f r, fields = l ++ f :: r → (∀ g ∈ l, g.low ≤ g.value ∧ g.value ≤ g.high) →
      ¬ (f.low ≤ f.value ∧ f.value ≤ f.high) → exec open_ s = .next (s.respond (badField f.offset)))
    ∧ ((∀ f ∈ fields, f.low ≤ f.value ∧ f.value ≤ f.high) →
      (48 ≤ s.queue.length → exec open_ s = .next (s.respond (plainRefusal .full)))
      ∧ (s.queue.length < 48 → s.entry id.toNat ≠ none → exec open_ s = .next (s.respond (plainRefusal .duplicate)))
      ∧ (s.queue.length < 48 → s.entry id.toNat = none →
        (∀ m : Fin 24, m.val = material.toNat → (s.materials[m]).fields = none)
          ∨ beforeId ≠ 0 ∧ s.entry beforeId.toNat = none →
        exec open_ s = .next (s.respond (plainRefusal .notFound))))
    ∧ (s.entry id.toNat = none →
      exec (.contourDelete id) s = .next (s.respond (plainRefusal .notFound))
      ∧ exec (.contourMove id beforeId) s = .next (s.respond (plainRefusal .notFound))
      ∧ exec (.contourQuery id) s = .next (s.respond (plainRefusal .notFound)))
    ∧ ∀ e, s.entry id.toNat = some e →
      (e.state ∈ [.active, .held, .failed] →
        exec (.contourDelete id) s = .next (s.respond (plainRefusal .wrongState))
        ∧ exec (.contourMove id beforeId) s = .next (s.respond (plainRefusal .wrongState)))
      ∧ (e.state ∈ [.loading, .waitingPlan, .planning, .ready] → beforeId ≠ 0 → s.entry beforeId.toNat = none →
        exec (.contourMove id beforeId) s = .next (s.respond (plainRefusal .notFound)))

/-- The commands that only read (R13, R14, R37, R61, R180, R184, R185, R187): each answers OK with what the part holds and
changes nothing. -/
def Obligations.ReadsChangeNothing : Prop :=
  ∀ (s : State), portOpen s →
    (∀ (buffer : Byte) name, BufferName.ofByte buffer = some name →
      exec (.commitStatus buffer) s = .next (s.respond ⟨.ok, .commitStatus
        ⟨(s.buffer name).state,
          (s.engine.find? fun c => c.buffer == name).map fun c => (c.kind, c.contour, c.page), (s.buffer name).last⟩⟩))
    ∧ (∀ (id : BitVec 16) e, s.entry id.toNat = some e →
      exec (.contourQuery id) s = .next (s.respond ⟨.ok, .entry
        { contourId := e.contourId, tag := e.tag, material := e.material, quality := e.quality, passes := e.passes,
          pierceMode := e.pierceMode, closed := e.closed, startX := e.startX, startY := e.startY, pages := e.pages,
          segmentCount := countOf s.store e.pages, commitsPending := e.commitsPending, state := e.state, stamp := e.stamp,
          overspeedCount := e.overspeedCount,
          sendPlace := if e.state.begun then s.stream.cursor.map (fun
            | .seg p => p
            | .fin => ⟨(segmentsOf s.store e.pages).length, e.passes⟩) else none,
          donePlace := e.donePlace, resumePoint := e.resumePoint, holdCause := e.holdCause,
          lastHoldCause := e.lastHoldCause, laterFault := e.laterFault, resumeFailures := e.resumeFailures,
          holdCount := e.holdCount }⟩))
    ∧ exec .queueList s = .next (s.respond ⟨.ok, .queue (s.queue.map fun e => (e.contourId, e.state))⟩)
    ∧ (∀ (index : Byte) (m : Fin 24), m.val = index.toNat →
      exec (.matRead index) s = .next (s.respond ⟨.ok, .material
        ⟨(s.materials[m]).revision.toNat, s.queue.countP (fun e => e.material == m),
          (s.queue.find? fun e => e.state.begun && e.material == m).map Entry.contourId, (s.materials[m]).fields⟩⟩))
    ∧ exec .configRead s = .next (s.respond ⟨.ok, .config s.config⟩)
    ∧ exec .wearRead s = .next (s.respond ⟨.ok, .wear s.wear⟩)
    ∧ exec .eventsRead s = .next (s.respond ⟨.ok, .events
        ⟨s.attention.jatn.pending, s.attention.matn.pending, s.attention.jatn.route, s.attention.matn.route,
          s.attention.jatn.mode, s.attention.matn.mode⟩⟩)
    ∧ exec .status s = .next (s.respond ⟨.ok, .status
        { phase := s.jsq.phase, entries := s.queue.length, head := s.queue.head?.map fun e => (e.contourId, e.state),
          freePages := s.freePages.length,
          engine := match s.planner.job with
            | none => .idle
            | some job => if job.kind = .contour then .contourJob else .activeJob,
          bufferA := s.bufA.state, bufferB := s.bufB.state, pumpTarget := s.pump.target, pumpReady := s.pump.ready,
          pumpReport := s.pump.report, pumpLink := s.pump.link, transmitLength := s.pump.transmit.length,
          motionLink := s.motion.link, override := s.motion.override, wearLevel := s.wear.level,
          jatnPending := s.attention.jatn.pending }⟩)
    ∧ (∀ buffer : Byte, buffer ≠ 0 → buffer ≠ 1 →
      exec (.commitStatus buffer) s = .next (s.respond (badField 0)))
    ∧ ∀ index : Byte, 23 < index.toNat → exec (.matRead index) s = .next (s.respond (badField 0))

/-- R21. -/
def Obligations.FinishedReadTakesOldest : Prop :=
  ∀ (n : Byte) (s : State), portOpen s →
    (n.toNat = 0 ∨ 16 < n.toNat → exec (.finishedRead n) s = .next (s.respond (badField 0)))
    ∧ (1 ≤ n.toNat → n.toNat ≤ 16 →
      exec (.finishedRead n) s
        = .next ((s.setFinished (s.finished.drop n.toNat)).respond ⟨.ok, .finished (s.finished.take n.toNat)⟩)
      ∧ ∀ f, s.finished.length ≤ 16 → ∃ t, t = (s.setFinished (s.finished.drop n.toNat)).addFinished f
        ∧ t.finished = s.finished.drop n.toNat ++ [f]
        ∧ (s.attention.jatn.route &&& Source.contourEnd.bit ≠ 0 →
          t.attention.jatn.pending &&& Source.contourEnd.bit ≠ 0))

/-! ### The material table and the configuration -/

/-- MAT_WRITE accepted (R57): the record VALID with the written fields and a revision one higher, every planned user sent back
to be planned again, all others kept. A contour plan in flight for a PLANNING user is abandoned, and the free engine chooses
again (R105, R93), the plan it starts sampling the records as they now stand; an active request or a plan of another entry
goes on. Nothing else changes. MAT_INVALIDATE (R60) and the refusals it shares with MAT_WRITE (R57, R58): an index out of
range, a field that breaks R54 or R55, an ACTIVE, HELD or FAILED user, and for an invalidation any user; an accepted one
removes the fields and keeps the revision. The ranges of R54 come first, then the ordering rules of R55, each by the offset of
its field in the body (R190). -/
def Obligations.MaterialCommands : Prop :=
  (∀ (index : Byte) (record : Material) (s : State) (m : Fin 24) (uses : Entry → Bool), portOpen s →
    m.val = index.toNat → materialFault record = none → (∀ e ∈ s.queue, e.state.begun = true → e.material ≠ m) →
    (∀ e, uses e = (decide (e.state ∈ [.waitingPlan, .planning, .ready]) && decide (e.material = m))) →
    ∀ (w u : State), w = s.setMaterials (s.materials.set m ⟨(s.materials[m]).revision + 1, some record⟩) →
      u = w.setQueue (s.queue.map fun e =>
        if uses e then { e with state := .waitingPlan, stamp := none, overspeedCount := none } else e) →
      ∃ t r : State, exec (.matWrite index record) s = .next t ∧ t = r.respond
          ⟨.ok, .materialWritten ((s.materials[m]).revision + 1).toNat (s.queue.countP uses)⟩
        ∧ r = (u.setQueue r.queue).setPlanner r.planner
        ∧ (∀ job, s.planner.job = some job →
            job.kind ≠ .contour ∨ (∀ e ∈ s.queue, uses e = true → e.state = .planning → e.contourId ≠ job.contour) →
            r = u)
        ∧ (s.planner.job = none ∨ (∃ job e, s.planner.job = some job ∧ job.kind = .contour ∧ e ∈ s.queue ∧ uses e = true
              ∧ e.state = .planning ∧ e.contourId = job.contour) → ChoosesWork u r)
        ∧ r.queue.map Entry.contourId = s.queue.map Entry.contourId
        ∧ (QueueLaw s → ∀ (k : Nat) (e e' : Entry), s.queue[k]? = some e → r.queue[k]? = some e' →
          (uses e = true → e' = { e with state := e'.state, stamp := none, overspeedCount := none }
            ∧ e'.state ∈ [.waitingPlan, .planning])
          ∧ (uses e = false → e' = e ∨ e.state = .waitingPlan ∧ e' = { e with state := .planning })))
    ∧ (∀ (index : Byte) (record : Material) (s : State), portOpen s →
    (23 < index.toNat → exec (.matInvalidate index) s = .next (s.respond (badField 0))
      ∧ exec (.matWrite index record) s = .next (s.respond (badField 0)))
    ∧ ∀ m : Fin 24, m.val = index.toNat →
      (∀ offset, materialFault record = some offset →
        exec (.matWrite index record) s = .next (s.respond (badField offset)))
      ∧ (∀ l e r, s.queue = l ++ e :: r → e.state.begun = true → e.material = m →
        (∀ x ∈ l, ¬ (x.state.begun = true ∧ x.material = m)) →
        exec (.matInvalidate index) s = .next (s.respond ⟨.inUse, .refusal ⟨none, some e.contourId, none, none⟩⟩)
        ∧ (materialFault record = none →
          exec (.matWrite index record) s = .next (s.respond ⟨.inUse, .refusal ⟨none, some e.contourId, none, none⟩⟩)))
      ∧ (∀ l e r, s.queue = l ++ e :: r → e.material = m → (∀ x ∈ l, x.material ≠ m) →
        (∀ x ∈ s.queue, x.state.begun = true → x.material ≠ m) →
        exec (.matInvalidate index) s = .next (s.respond ⟨.inUse, .refusal ⟨none, some e.contourId, none, none⟩⟩))
      ∧ ((∀ x ∈ s.queue, x.material ≠ m) →
        exec (.matInvalidate index) s
          = .next ((s.setMaterials (s.materials.set m ⟨(s.materials[m]).revision, none⟩)).respond
              ⟨.ok, .revision (s.materials[m]).revision.toNat⟩)))
    ∧ ∀ (m : Material) (ranges : List FieldCheck) (order : List (Nat × Prop)),
      ranges =
        [⟨1, m.vSep.toNat, 100, 65535⟩, ⟨3, m.qf2.toNat, 1, 256⟩, ⟨5, m.qf3.toNat, 1, 256⟩, ⟨7, m.qf4.toNat, 1, 256⟩,
          ⟨9, m.qf5.toNat, 1, 256⟩, ⟨11, m.cf0.toNat, 1, 256⟩, ⟨13, m.cf1.toNat, 1, 256⟩, ⟨15, m.cf2.toNat, 1, 256⟩,
          ⟨17, m.cf3.toNat, 1, 256⟩, ⟨19, m.cf4.toNat, 1, 256⟩, ⟨21, m.cf5.toNat, 1, 256⟩, ⟨23, m.cf6.toNat, 1, 256⟩,
          ⟨25, m.cf7.toNat, 1, 256⟩, ⟨27, m.dw0.toNat, 0, 2000⟩, ⟨29, m.dw1.toNat, 0, 2000⟩, ⟨31, m.dw2.toNat, 0, 2000⟩,
          ⟨33, m.dw3.toNat, 0, 2000⟩, ⟨35, m.dw4.toNat, 0, 2000⟩, ⟨37, m.dw5.toNat, 0, 2000⟩, ⟨39, m.dw6.toNat, 0, 2000⟩,
          ⟨41, m.dw7.toNat, 0, 2000⟩, ⟨43, m.rCrit.toNat, 500, 4194303⟩, ⟨46, m.vFloor.toNat, 1, 65535⟩,
          ⟨48, m.slope.toNat, 1, 4095⟩, ⟨50, m.lif.toNat, 1, 256⟩, ⟨52, m.pCut.toNat, 0, 420⟩, ⟨54, m.pPierce.toNat, 0, 420⟩,
          ⟨56, m.pierceTime.toNat, 0, 6000⟩, ⟨58, m.abrasiveRate.toNat, 0, 1200⟩] →
      order =
        [(5, m.qf2.toNat < m.qf3.toNat), (7, m.qf3.toNat < m.qf4.toNat), (9, m.qf4.toNat < m.qf5.toNat),
          (13, m.cf0.toNat < m.cf1.toNat), (15, m.cf1.toNat < m.cf2.toNat), (17, m.cf2.toNat < m.cf3.toNat),
          (19, m.cf3.toNat < m.cf4.toNat), (21, m.cf4.toNat < m.cf5.toNat), (23, m.cf5.toNat < m.cf6.toNat),
          (25, m.cf6.toNat < m.cf7.toNat), (29, m.dw1.toNat < m.dw0.toNat), (31, m.dw2.toNat < m.dw1.toNat),
          (33, m.dw3.toNat < m.dw2.toNat), (35, m.dw4.toNat < m.dw3.toNat), (37, m.dw5.toNat < m.dw4.toNat),
          (39, m.dw6.toNat < m.dw5.toNat), (41, m.dw7.toNat < m.dw6.toNat), (46, m.vSep.toNat < m.vFloor.toNat)] →
      firstFailure (ranges.map FieldCheck.fails ++ order) (materialFault m)

/-- CONFIG_SET (R185): its four checks in order, each field's range at its offset in the body (R190) and then the order of the
pump limits, and on acceptance all eleven fields replaced and nothing else. -/
def Obligations.ConfigReplaced : Prop :=
  ∀ (record : MachineConfig) (s : State), portOpen s →
    (∀ offset, configFault record = some offset →
      exec (.configSet record) s = .next (s.respond (badField offset)))
    ∧ (configFault record = none →
      ((∃ e ∈ s.queue, e.state ∈ [.active, .held, .failed])
          ∨ s.queue ≠ [] ∧ (record.bedXMax ≠ s.config.bedXMax ∨ record.bedYMax ≠ s.config.bedYMax) →
        exec (.configSet record) s = .next (s.respond (plainRefusal .wrongState)))
      ∧ ((∀ e ∈ s.queue, e.state ∈ [.loading, .waitingPlan, .planning, .ready]) →
        s.queue = [] ∨ record.bedXMax = s.config.bedXMax ∧ record.bedYMax = s.config.bedYMax →
        exec (.configSet record) s = .next ((s.setConfig record).respond ⟨.ok, .empty⟩)))
    ∧ firstFailure
      (([⟨0, record.bedXMax.toNat, 1000000, 6000000⟩, ⟨4, record.bedYMax.toNat, 500000, 3000000⟩,
          ⟨8, record.pumpPMin.toNat, 0, 200⟩, ⟨10, record.pumpPMax.toNat, 100, 420⟩, ⟨12, record.idlePressure.toNat, 0, 420⟩,
          ⟨14, record.readyBand.toNat, 1, 20⟩, ⟨15, record.dropMargin.toNat, 10, 100⟩,
          ⟨16, record.pressureTimeout.toNat, 2, 60⟩, ⟨17, record.pumpReportTimeout.toNat, 200, 2000⟩,
          ⟨19, record.motionLinkTimeout.toNat, 20, 1000⟩, ⟨21, record.traverseSpeed.toNat, 1000, 500000⟩]
        : List FieldCheck).map FieldCheck.fails ++ [(8, record.pumpPMax.toNat < record.pumpPMin.toNat)])
      (configFault record)

/-- The configuration in force (R185, R63, R64): it keeps the checks of CONFIG_SET at every step; only CONFIG_SET, or the byte
that completes one, and power-on reset change it; and it always leaves the pressure clamp a range to clamp into. R53: at
every step the record named by every entry in the queue stays VALID. -/
def Obligations.TablesInForceKept : Prop :=
  ((∀ c s t, exec c s = .next t → (configFault s.config = none → configFault t.config = none)
      ∧ (t.config ≠ s.config →
        c = .powerOnReset ∨ (∃ record, c = .configSet record) ∨ ∃ dma b, c = .commandByteWrite dma b))
    ∧ ∀ (config : MachineConfig) (p : Nat), configFault config = none →
      config.pumpPMin.toNat ≤ clampPressure config p ∧ clampPressure config p ≤ config.pumpPMax.toNat
      ∧ (config.pumpPMin.toNat ≤ p → p ≤ config.pumpPMax.toNat → clampPressure config p = p)
      ∧ (p < config.pumpPMin.toNat → clampPressure config p = config.pumpPMin.toNat)
      ∧ (config.pumpPMax.toNat < p → clampPressure config p = config.pumpPMax.toNat))
    ∧ (∀ c s t, exec c s = .next t → MaterialsValid s → MaterialsValid t)

/-! ### Wear counters -/

/-- WEAR_CONFIG, WEAR_LOAD, WEAR_RESET and WEAR_LEVELS (R177, R178, R179, R180): their refusals, those of WEAR_LEVELS in the
order of its checks, each by the offset of the field named; the counter or the settings they replace, the judgement that
follows, and nothing else. That the ordering of thresholds and factors names the later field, and a field by its offset, is
the model's reading (DEDUCED, notes/assumptions/20.md). -/
def Obligations.WearCommandsSet : Prop :=
  ∀ (counter source : Byte) (limit value t1 t2 t3 : BitVec 32) (d1 d2 d3 : BitVec 16) (s : State), portOpen s → WearLaw s →
    (3 < counter.toNat →
      exec (.wearConfig counter source limit) s = .next (s.respond (badField 0))
      ∧ exec (.wearLoad counter value) s = .next (s.respond (badField 0))
      ∧ exec (.wearReset counter) s = .next (s.respond (badField 0)))
    ∧ (∀ (i : Fin 4) (c : Counter), i.val = counter.toNat → c = s.wear.counter i →
      (3 < source.toNat → exec (.wearConfig counter source limit) s = .next (s.respond (badField 1)))
      ∧ (∀ src c', WearSource.ofByte source = some src →
        c' = (if src = c.source
          then { c with limit := limit.toNat, due := decide (limit.toNat ≠ 0) && decide (limit.toNat ≤ c.value) }
          else ⟨src, 0, 0, limit.toNat, false⟩) →
        ∃ t, exec (.wearConfig counter source limit) s = .next t ∧ CounterSet s t i c'
          ∧ (c'.due = true → pendingWhereRouted .wearService s t)
          ∧ t.port.condition = .responding ⟨.ok, .counter c'.value c'.remainder c'.due⟩ 0)
      ∧ (∀ c', c' = { c with
          value := value.toNat, remainder := 0, due := decide (c.limit ≠ 0) && decide (c.limit ≤ value.toNat) } →
        ∃ t, exec (.wearLoad counter value) s = .next t ∧ CounterSet s t i c'
          ∧ (c'.due = true → pendingWhereRouted .wearService s t)
          ∧ t.port.condition = .responding ⟨.ok, .counter c'.value c'.remainder c'.due⟩ 0)
      ∧ ∃ t, exec (.wearReset counter) s = .next t ∧ CounterSet s t i { c with value := 0, remainder := 0, due := false }
          ∧ t.port.condition = .responding ⟨.ok, .counter 0 0 false⟩ 0)
    ∧ (∀ checks : List (Nat × Prop),
      checks = [(12, ¬ (1 ≤ d1.toNat ∧ d1.toNat ≤ 256)), (14, ¬ (1 ≤ d2.toNat ∧ d2.toNat ≤ 256)),
        (16, ¬ (1 ≤ d3.toNat ∧ d3.toNat ≤ 256)), (4, t1 = 0 ∧ t2 ≠ 0), (8, (t1 = 0 ∨ t2 = 0) ∧ t3 ≠ 0),
        (4, t2 ≠ 0 ∧ t2.toNat < t1.toNat), (8, t3 ≠ 0 ∧ t3.toNat < t2.toNat), (14, d1.toNat < d2.toNat),
        (16, d2.toNat < d3.toNat)] →
      ∀ l c r, checks = l ++ c :: r → (∀ d ∈ l, ¬ d.2) → c.2 →
        exec (.wearLevels t1 t2 t3 d1 d2 d3) s = .next (s.respond (badField c.1)))
    ∧ ((∀ d ∈ [d1, d2, d3], 1 ≤ d.toNat ∧ d.toNat ≤ 256) → (t1 = 0 → t2 = 0) → (t2 = 0 → t3 = 0) →
      (t2 ≠ 0 → t1.toNat ≤ t2.toNat) → (t3 ≠ 0 → t2.toNat ≤ t3.toNat) → d2.toNat ≤ d1.toNat → d3.toNat ≤ d2.toNat →
      ∃ t, exec (.wearLevels t1 t2 t3 d1 d2 d3) s = .next t
        ∧ t.wear = { s.wear with
            t1 := t1.toNat, t2 := t2.toNat, t3 := t3.toNat, d1 := d1.toNat, d2 := d2.toNat, d3 := d3.toNat
            level := ([t1, t2, t3].filter fun x => x ≠ 0 ∧ x.toNat ≤ s.wear.c0.value).length }
        ∧ t.port.condition = .responding ⟨.ok, .level t.wear.level⟩ 0
        ∧ (t.wear.level ≠ s.wear.level → pendingWhereRouted .wearLevel s t)
        ∧ t = ((s.setPort t.port).setWear t.wear).setAttention t.attention)

/-- The part's millisecond (R176, R177, R178): every counter whose time condition holds counts it, the running timers lose it,
and nothing else changes; the tick that brings a counter to its limit raises WEAR_SERVICE, a new level WEAR_LEVEL, and with
neither the attention lines stay as they are. WEAR_TIME_UNIT is the millisecond that completes one counter's unit (the
row's reading and the timers' loss at the tick are the model's choice: notes/assumptions/12.md and 13.md). -/
def Obligations.TimeCounts : Prop :=
  ∀ s : State, WearLaw s →
    (∃ t, exec .millisecondTick s = .next t
      ∧ (∀ i, (timeRuns s (s.wear.counter i) → t.wear.counter i = afterMillisecond (s.wear.counter i))
        ∧ (¬ timeRuns s (s.wear.counter i) → t.wear.counter i = s.wear.counter i))
      ∧ t.wear.level = t.wear.levelNow
      ∧ (∀ i, (t.wear.counter i).due = true → (s.wear.counter i).due = false → pendingWhereRouted .wearService s t)
      ∧ (t.wear.level ≠ s.wear.level → pendingWhereRouted .wearLevel s t)
      ∧ (Quiet s → (∀ i, (t.wear.counter i).due = (s.wear.counter i).due) → t.wear.level = s.wear.level →
        t.attention = s.attention)
      ∧ t.jsq = { s.jsq with
          wait := s.jsq.wait.map fun w => ⟨w.target, w.msLeft - 1⟩, pierceMs := s.jsq.pierceMs.map fun n => n - 1 }
      ∧ t.motion = { s.motion with timer := s.motion.timer.map fun n => n - 1 }
      ∧ t.pump = { s.pump with
          timer := s.pump.timer.map fun n => n - 1
          assembly := s.pump.assembly.map fun a => ⟨a.bytes, a.msLeft - 1⟩ }
      ∧ t = (((((s.setJsq t.jsq).setMotion t.motion).setPump t.pump).setWear t.wear).setAttention t.attention))
    ∧ ∀ i : Fin 4,
      (timeRuns s (s.wear.counter i) → (s.wear.counter i).remainder = 99 →
        ∃ t, exec (.wearTimeUnit i) s = .next t ∧ CounterSet s t i (afterMillisecond (s.wear.counter i)))
      ∧ (¬ (timeRuns s (s.wear.counter i) ∧ (s.wear.counter i).remainder = 99) → exec (.wearTimeUnit i) s = .next s)

/-- R177, R178: at every step no counter is left at its limit without its flag, and the level is the one counter 0 gives.
R175: a counter's value falls only by the wear commands that set it, a byte that completes one, and power-on reset. -/
def Obligations.WearLawKept : Prop :=
  ∀ c s t, exec c s = .next t → WearLaw s →
    WearLaw t ∧ ∀ i, (t.wear.counter i).value < (s.wear.counter i).value →
      c = .powerOnReset ∨ (∃ n, c = .wearReset n) ∨ (∃ n v, c = .wearLoad n v) ∨ (∃ n src l, c = .wearConfig n src l)
        ∨ ∃ dma b, c = .commandByteWrite dma b

/-! ### The attention router -/

/-- ROUTE_SET, EVENTS_ACK and the ends of a pulse and of its gap (R187, R188): each acts on its own lines and sets alone.
Raising a source in a change of its own (R187, R188): a line it is not routed to, or where it is pending, keeps
everything; a line it is routed to has it pending, and in PULSE mode gives a pulse, or owes one further pulse during a
pulse, and none more in the gap before it. Nothing else in the part changes. A line is asserted in LEVEL mode while its set
is not empty, in PULSE mode during a pulse. That the routes are held with bit 15 cleared (notes/assumptions/24.md), that
JATN's mode is named where both modes are out of range (notes/assumptions/34.md), and that the end of a pulse or of a gap on
a line that has none changes nothing (DESIGN CHOICE, notes/assumptions/8.md), are the model's. -/
def Obligations.AttentionRouterActs : Prop :=
  (∀ (jatnRoute matnRoute mask : Mask) (jatnMode matnMode : Byte) (s : State),
    (portOpen s →
      (1 < jatnMode.toNat → exec (.routeSet jatnRoute matnRoute jatnMode matnMode) s = .next (s.respond (badField 4)))
      ∧ (jatnMode.toNat ≤ 1 → 1 < matnMode.toNat →
        exec (.routeSet jatnRoute matnRoute jatnMode matnMode) s = .next (s.respond (badField 5)))
      ∧ (∀ j m, LineMode.ofByte jatnMode = some j → LineMode.ofByte matnMode = some m →
        ∃ a, exec (.routeSet jatnRoute matnRoute jatnMode matnMode) s = .next ((s.setAttention a).respond ⟨.ok, .empty⟩)
          ∧ a.jatn = { s.attention.jatn with
              route := jatnRoute &&& 0x7FFF, mode := j
              pulse := if j = s.attention.jatn.mode then s.attention.jatn.pulse else .idle }
          ∧ a.matn = { s.attention.matn with
              route := matnRoute &&& 0x7FFF, mode := m
              pulse := if m = s.attention.matn.mode then s.attention.matn.pulse else .idle })
      ∧ exec (.eventsAck mask) s
        = .next ((s.setAttention
            ⟨{ s.attention.jatn with pending := s.attention.jatn.pending &&& ~~~mask }, s.attention.matn⟩).respond
            ⟨.ok, .jatnSet (s.attention.jatn.pending &&& ~~~mask)⟩))
    ∧ ∃ done started : Pulse → Pulse,
      done (.high true) = .gap ∧ done (.high false) = .idle ∧ done .gap = .gap ∧ done .idle = .idle
      ∧ started .gap = .high false ∧ (∀ p, p ≠ .gap → started p = p)
      ∧ (∀ a : Attention, a = s.attention →
        exec (.attentionPulseEnd .jatn) s
            = .next (s.setAttention ⟨{ a.jatn with pulse := done a.jatn.pulse }, a.matn⟩)
          ∧ exec (.attentionPulseEnd .matn) s
            = .next (s.setAttention ⟨a.jatn, { a.matn with pulse := done a.matn.pulse }⟩)
          ∧ exec (.attentionPulseGapEnd .jatn) s
            = .next (s.setAttention ⟨{ a.jatn with pulse := started a.jatn.pulse }, a.matn⟩)
          ∧ exec (.attentionPulseGapEnd .matn) s
            = .next (s.setAttention ⟨a.jatn, { a.matn with pulse := started a.matn.pulse }⟩)))
    ∧ (∀ (src : Source) (s : State) (line : LineName) (l l' : Line), Quiet s →
    l = (match line with | .jatn => s.attention.jatn | .matn => s.attention.matn) →
    l' = (match line with
      | .jatn => ((s.raise src).settle).attention.jatn
      | .matn => ((s.raise src).settle).attention.matn) →
    (l.route &&& src.bit = 0 ∨ l.pending &&& src.bit ≠ 0 → l' = l)
    ∧ (l.route &&& src.bit ≠ 0 → l.pending &&& src.bit = 0 →
      l' = { l with
        pending := l.pending ||| src.bit
        pulse := if l.mode = .level then l.pulse else
          match l.pulse with
          | .idle => .high false
          | .high _ => .high true
          | .gap => .gap })
    ∧ (s.raise src).settle = s.setAttention ((s.raise src).settle).attention)
    ∧ ∀ (s : State) (l : Line),
      (l.mode = .level → (l.asserted = true ↔ l.pending ≠ 0))
      ∧ (l.mode = .pulse → (l.asserted = true ↔ ∃ owed, l.pulse = .high owed))
      ∧ s.jatn = s.attention.jatn.asserted ∧ s.matn = s.attention.matn.asserted

/-! ### Speed planning -/

/-- R79: after both passes each boundary's speed is the smallest, over every boundary l of the range, of l's limit plus the
sum of the increments between the two. The limits a plan starts from: the contour speed (R69), the ceiling of a cutting
segment (R70), the vertex limit and the dwell of every boundary by its class (R71, R72), and at the junction of a body of
several passes the least of the three terms and the half-body cap, with the largest dwell (R74, R75). -/
def Obligations.ProfileIsHighest : Prop :=
  (∀ (limits incs : List Nat), limits.length = incs.length + 1 →
    (profile limits incs).length = limits.length
      ∧ ∀ k b, (profile limits incs)[k]? = some b → highestAt limits incs k b)
    ∧ ∀ (c : PlanInput) (m : Material) (vo : Nat), m = c.inputs.material → vo = contourSpeed c →
      (∀ f, (c.quality, f) ∈ [(1, 256), (2, m.qf2.toNat), (3, m.qf3.toNat), (4, m.qf4.toNat), (5, m.qf5.toNat)] →
        vo = min 65535 (m.vSep.toNat * f / 256 * c.inputs.factor / 256 * c.inputs.override / 100))
      ∧ (∀ (r : SegRecord) (bent led : Nat), r.kindByte.toNat ≤ 2 →
        bent = (if r.kindByte ≠ 0 ∧ r.radiusPresence ≠ 0 ∧ r.radiusField.toNat < m.rCrit.toNat
          then vo * r.radiusField.toNat / m.rCrit.toNat else vo) →
        led = (if r.roleByte = 1 then bent else bent * m.lif.toNat / 256) →
        ceiling m vo r = max led m.vFloor.toNat)
      ∧ boundary c 0 = ⟨0, 0⟩
      ∧ (∀ p, c.segs.getLast? = some p → boundary c c.segs.length = ⟨0, dwellReq p⟩)
      ∧ (∀ (j : Nat) (p q : SegRecord), c.segs[j]? = some p → c.segs[j + 1]? = some q →
        (isBridge p = true → boundary c (j + 1) = ⟨0, 0⟩)
        ∧ (isBridge p = false → isBridge q = true → boundary c (j + 1) = ⟨0, dwellReq p⟩)
        ∧ (∀ limit dwell, isBridge p = false → isBridge q = false →
          c.passes ≤ 1 ∨ structureFault true c.passes c.segs = none ∧ segRole p = segRole q →
          cornerOf m vo p q limit dwell →
          boundary c (j + 1) = ⟨if 0 < max dwell (dwellReq p) then 0 else limit, max dwell (dwellReq p)⟩))
      ∧ ∀ (leadIns body leadOuts : List SegRecord) (before first last behind : SegRecord) (u1 d1 u2 d2 u3 d3 dwell cap : Nat),
        c.segs = leadIns ++ body ++ leadOuts → structureFault true c.passes c.segs = none → 1 < c.passes →
        (∀ r ∈ leadIns, segRole r = .leadIn) → (∀ r ∈ body, segRole r = .body) → (∀ r ∈ leadOuts, segRole r = .leadOut) →
        leadIns.getLast? = some before → body.head? = some first → body.getLast? = some last →
        leadOuts.head? = some behind → cornerOf m vo before first u1 d1 → cornerOf m vo last first u2 d2 →
        cornerOf m vo last behind u3 d3 →
        dwell = max (max d1 (max d2 d3)) (max (dwellReq before) (dwellReq last)) →
        cap = ((body.map fun r => m.slope.toNat * segLength r / 1000).sum - 1) / 2 →
        boundary c leadIns.length = ⟨if 0 < dwell then 0 else min (min u1 (min u2 u3)) cap, dwell⟩
          ∧ boundary c (leadIns.length + body.length) = boundary c leadIns.length

/-- R82 to R86, for the plan words of every job of every kind, from any fixed value. Of a cutting segment: the end speeds
differ by at most its increment; its peak is the larger of its end speeds and of the smaller of its ceiling and the speed at
which the ramps meet; its exit dwell is that of its end boundary; where it is not flagged, its end speeds lie within the
limits of its boundaries, 0 at the stop boundary of a STOP, and its peak within its ceiling. A job fixed at 0 (R90) flags
none. Of a bridge: at rest at both ends, the traverse speed up to 65,535 as peak, no flag, its own dwell. -/
def Obligations.RampLaw : Prop :=
  (∀ (c : PlanInput) (job : Job) (i : Nat) (w : PlanWord) (r : SegRecord) (inc : Nat), (i, w) ∈ jobWords c job →
    r = c.segs.getD i blankRecord → inc = c.inputs.material.slope.toNat * segLength r / 1000 →
    (isBridge r = true → w = ⟨0, 0, min 65535 c.inputs.traverse, false, dwellReq r⟩)
    ∧ (isBridge r = false → w.entry ≤ w.exit + inc ∧ w.exit ≤ w.entry + inc
      ∧ w.peak = max (max w.entry w.exit) (min (ceiling c.inputs.material (contourSpeed c) r) ((w.entry + w.exit + inc) / 2))
      ∧ w.dwell = (boundary c (i + 1)).dwell
      ∧ (w.overspeed = false → w.exit ≤ (boundary c (i + 1)).limit
        ∧ w.peak ≤ ceiling c.inputs.material (contourSpeed c) r
        ∧ (job.kind ≠ .stop → w.entry ≤ (boundary c i).limit))))
    ∧ (∀ (c : PlanInput) (job : Job) (k i : Nat) (w : PlanWord), job.kind = .stop → (jobWords c job)[k]? = some (i, w) →
      isBridge (c.segs.getD i blankRecord) = false → w.overspeed = false →
      (k = 0 → w.entry ≤ (boundary c i).limit) ∧ ((jobWords c job).length = k + 1 → w.exit = 0)
        ∧ ∀ j v, 1 ≤ k → (jobWords c job)[k - 1]? = some (j, v) → w.entry ≤ (boundary c (j + 1)).limit)
    ∧ ∀ (c : PlanInput) (job : Job) (fixed : FixedPoint) (i : Nat) (w : PlanWord), job.kind ≠ .stop → job.fixed = some fixed →
      fixed.value = 0 → materialFault c.inputs.material = none → (i, w) ∈ jobWords c job → w.overspeed = false

/-- R84 and R85 for a contour plan or an ACTIVATION, with a VALID material: a word for every segment, no flag, no peak above
its ceiling, a start and an end at rest, and each segment's exit speed the entry speed of the next in cut order, the wrap
of the body included; the end speeds are the highest of R79, with the junction of a body of several passes at the lower of
its two sides (R80). For a job of any kind (R89, R90): consecutive cutting segments of its range join, the segment at the
fixed boundary starts at the fixed value, and a range in a pass before the last joins at the wrap of the body. From a fixed
point in the last pass, and over the chain of a STOP, the speeds are the highest of R79 or the descent of R81; that the
fixed boundary is then the boundary before the segment alone is the model's reading (DEDUCED, notes/assumptions/18.md). -/
def Obligations.WholePlanJoinsWithinLimits : Prop :=
  (∀ (c : PlanInput) (job : Job) (words : List (Nat × PlanWord)), job.kind = .contour ∨ job.kind = .activation →
    job.fixed = none → materialFault c.inputs.material = none → words = jobWords c job →
    words.map Prod.fst = List.range c.segs.length
      ∧ (∀ i w r, (i, w) ∈ words → c.segs[i]? = some r → w.overspeed = false
        ∧ (isBridge r = false → w.peak ≤ ceiling c.inputs.material (contourSpeed c) r))
      ∧ (∀ i w w', words[i]? = some w → words[i + 1]? = some w' → w.2.exit = w'.2.entry)
      ∧ (∀ w, words.head? = some w → w.2.entry = 0) ∧ (∀ w, words.getLast? = some w → w.2.exit = 0)
      ∧ (1 < c.passes → 0 < bodyCount c.segs → ∀ w w', words[lastBody c.segs]? = some w →
        words[firstBody c.segs]? = some w' → w.2.exit = w'.2.entry)
      ∧ ∀ (limits incs : List Nat) (a z x y : Nat),
        limits = (List.range (c.segs.length + 1)).map (fun j => (boundary c j).limit) →
        incs = c.segs.map (fun r => c.inputs.material.slope.toNat * segLength r / 1000) →
        a = firstBody c.segs → z = a + bodyCount c.segs → highestAt limits incs a x → highestAt limits incs z y →
        ∀ i w, (i, w) ∈ words → isBridge (c.segs.getD i blankRecord) = false →
          ∃ joined, joined = (if 1 < c.passes then (limits.set a (min x y)).set z (min x y) else limits)
            ∧ highestAt joined incs i w.entry ∧ highestAt joined incs (i + 1) w.exit)
    ∧ (∀ (c : PlanInput) (job : Job) (cuts : Nat → Prop), (∀ i, cuts i ↔ isBridge (c.segs.getD i blankRecord) = false) →
      (∀ (k : Nat) w w', (jobWords c job)[k]? = some w → (jobWords c job)[k + 1]? = some w' → cuts w.1 → cuts w'.1 →
        w.2.exit = w'.2.entry)
      ∧ ∀ (fixed : FixedPoint) (p : Place), job.fixed = some fixed → fixed.cursor = .seg p →
        (job.kind = .stop → ∀ w, (jobWords c job).head? = some w → cuts w.1 → w.2.entry = fixed.value)
        ∧ (job.kind ≠ .stop → ∀ w, (p.index, w) ∈ jobWords c job → cuts p.index → w.entry = fixed.value)
        ∧ (job.kind ≠ .stop → 1 < c.passes → p.pass < c.passes → 0 < bodyCount c.segs → p.index ≤ lastBody c.segs →
          ∀ w w', (lastBody c.segs, w) ∈ jobWords c job → (firstBody c.segs, w') ∈ jobWords c job →
            cuts (lastBody c.segs) → cuts (firstBody c.segs) → w.exit = w'.entry))
    ∧ ∀ (c : PlanInput) (job : Job) (fixed : FixedPoint) (chain ends : List Nat), job.fixed = some fixed →
      (job.kind = .stop ∧ (∃ place, job.stop = some ⟨chain, place⟩)
          ∧ ends = (chain.dropLast.map fun i => (boundary c (i + 1)).limit) ++ [0]
        ∨ job.kind ≠ .stop ∧ (∃ p, fixed.cursor = .seg p ∧ c.passes ≤ p.pass
            ∧ chain = (List.range c.segs.length).drop p.index)
          ∧ ends = chain.map fun i => (boundary c (i + 1)).limit) →
      (jobWords c job).map Prod.fst = chain
        ∧ ∀ (limits incs : List Nat), limits = fixed.value :: ends →
          incs = chain.map (fun i => c.inputs.material.slope.toNat * segLength (c.segs.getD i blankRecord) / 1000) →
          ∀ k i w, (jobWords c job)[k]? = some (i, w) → isBridge (c.segs.getD i blankRecord) = false →
            descendsAt fixed.value limits incs k w.entry ∧ descendsAt fixed.value limits incs (k + 1) w.exit

/-- R107: the stop-boundary search stops at its fixed boundary where the fixed value is 0; else it crosses segments in cut
order and stops at the first boundary whose planned speed is 0 or at which the sum of increments has reached the fixed
value, or at the contour's end. -/
def Obligations.StopSearchFindsFirst : Prop :=
  ∀ (c : PlanInput) (planned : Nat → Option Nat) (fixed : FixedPoint) (inc : Nat → Nat) (found : StopPlan),
    (∀ i, inc i = c.inputs.material.slope.toNat * segLength (c.segs.getD i blankRecord) / 1000) →
    found = stopSearch c planned fixed →
    (fixed.value = 0 → found = ⟨[], fixed.cursor⟩)
    ∧ ∀ place, fixed.cursor = .seg place → place.index < c.segs.length → 1 ≤ place.pass → place.pass ≤ c.passes →
      0 < fixed.value →
      1 ≤ found.chain.length
      ∧ found.place = alongCutOrder c.segs c.passes found.chain.length fixed.cursor
      ∧ (∀ k i, found.chain[k]? = some i →
        ∃ p, alongCutOrder c.segs c.passes k fixed.cursor = .seg p ∧ p.index = i)
      ∧ (∀ k i, found.chain[k]? = some i → k + 1 < found.chain.length →
        planned i ≠ some 0 ∧ ((found.chain.take (k + 1)).map inc).sum < fixed.value)
      ∧ (∀ i, found.chain.getLast? = some i →
        planned i = some 0 ∨ fixed.value ≤ (found.chain.map inc).sum ∨ found.place = .fin)

/-! ### The planner and activation -/

/-- A contour plan completes (R102, R9, R15): every plan word is written, the entry is READY with the stamp of the sampled
inputs, PLAN_DONE is raised. Where the entry is the head and JSQ is IDLE with both links heard, it is activated (R16,
R114, R149): the TRAVERSE to its start, the first target, POSITIONING, and an ACTIVATION job where the stamp is not
current. Over a silent link (R135, R173) it is activated and comes to rest at once (R154, R155): HELD with MOTION_LINK_FAULT,
which comes first where both links are silent (R158), or else with PUMP_LINK_LOST; the window is empty, and HALT is due behind
CONTOUR_BEGIN in place of the TRAVERSE (R139). -/
def Obligations.ContourPlanCompletes : Prop :=
  ∀ (s : State) (job : Job) (e e' : Entry), QueueLaw s → s.planner.job = some job → job.kind = .contour →
    s.entry job.contour = some e →
    e' = { e with
      state := .ready, stamp := some ⟨job.inputs.revision, job.inputs.override, job.inputs.level⟩
      overspeedCount := some 0 } →
    ∃ t, exec .contourPlanComplete s = .next t
      ∧ t.store = writeWords e.pages s.store (jobWords ⟨s.segments e, e.passes, e.quality, job.inputs⟩ job)
      ∧ pendingWhereRouted .planDone s t
      ∧ t.queue.map Entry.contourId = s.queue.map Entry.contourId ∧ t.port = s.port ∧ t.config = s.config
      ∧ t.bufA = s.bufA ∧ t.bufB = s.bufB ∧ t.engine = s.engine ∧ t.freePages = s.freePages ∧ t.finished = s.finished
      ∧ t.materials = s.materials ∧ t.wear = s.wear
      ∧ ((s.queue.head?).map Entry.contourId ≠ some job.contour ∨ s.jsq.phase ≠ .idle ∨ e.commitsPending ≠ 0 →
        t.entry job.contour = some e' ∧ t.jsq = s.jsq ∧ t.stream = s.stream ∧ t.motion = s.motion ∧ t.pump = s.pump)
      ∧ ∀ rest target, s.queue = e :: rest → s.jsq.phase = .idle → e.commitsPending = 0 → s.motion.link = .ok →
        s.pump.link = .ok →
        target = clampPressure s.config
          (if e.pierceMode = .lowStationary then (s.materialOf e).pPierce.toNat else (s.materialOf e).pCut.toNat) →
        t.queue.head? = some { e' with
            state := .active, donePlace := some ⟨0, 1⟩, laterFault := some false, resumeFailures := 0, restartMark := false }
          ∧ t.jsq = { s.jsq with
              phase := .positioning, contour := some e.contourId, startMode := some e.pierceMode, traverseSerial := none
              arrived := some false, wait := some ⟨target, s.config.pressureTimeout.toNat * 1000⟩ }
          ∧ t.stream = { s.stream with
              due := s.stream.due ++ [.contourBegin e.contourId, .traverse e.startX e.startY s.config.traverseSpeed.toNat]
              cursor := some (.seg ⟨0, 1⟩), lastExit := some 0, stopPlace := none, holdAtMade := none }
          ∧ t.pump = { s.pump with
              transmit := enqueueMessage (.setPressure target) s.pump.transmit, target := target, ready := false, sag := 0 }
          ∧ pendingWhereRouted .contourStart s t ∧ t.planner.stopTaken = false
          ∧ (e'.stamp ≠ some ⟨(s.materials[e.material]).revision.toNat,
              if e.quality = 1 then s.motion.override else min s.motion.override 100, s.wear.level⟩ →
            ∃ active, t.planner.job = some active ∧ active.kind = .activation ∧ active.contour = e.contourId)
      ∧ ∀ rest cause, s.queue = e :: rest → s.jsq.phase = .idle → e.commitsPending = 0 → JetLaw s →
        s.motion.link = .silent ∧ cause = .motionLinkFault
          ∨ s.motion.link = .ok ∧ s.pump.link = .silent ∧ cause = .pumpLinkLost →
        t.queue.head? = some (heldEntry (s.segments e) cause ⟨0, 1⟩ { e' with
            state := .active, donePlace := some ⟨0, 1⟩, laterFault := some false, resumeFailures := 0, restartMark := false })
          ∧ t.jsq = shutIn .idle none none none ∧ noRequest t
          ∧ t.stream.due = s.stream.due.filter (fun c => !c.superseded) ++ [.contourBegin e.contourId, .halt]
          ∧ t.stream.window = [] ∧ t.stream.cursor = some (.seg ⟨0, 1⟩) ∧ t.stream.lastExit = none
          ∧ pendingWhereRouted .contourStart s t ∧ pendingWhereRouted .held s t

/-- An active job completes (R103, R9, R108, R153): the words of its range are written and no others, the stamp and the count
of flagged words are replaced, OVERSPEED is raised where it wrote a flagged word, the request is no longer outstanding. A
STOP hands its stop place to the stream; where the cursor stands there and the window is empty, the stop ends at once, HOLD_AT
due and the jet shut (R139, R153): the entry is HELD, or FAILED where that was its third failed resume (R164), past a bridge
(R155), or leaves by skip with its done position kept (notes/assumptions/33.md). -/
def Obligations.ActiveJobCompletes : Prop :=
  ∀ (s : State) (job : Job) (e : Entry) (rest : List Entry) (words : List (Nat × PlanWord)) (store : Store), QueueLaw s →
    s.planner.job = some job → job.kind ≠ .contour → s.queue = e :: rest → e.state = .active →
    words = jobWords ⟨s.segments e, e.passes, e.quality, job.inputs⟩ job → store = writeWords e.pages s.store words →
    ∃ t, exec .activeJobComplete s = .next t ∧ (t.queue.length = s.queue.length → t.store = store)
      ∧ ((∃ w ∈ words, w.2.overspeed = true) → pendingWhereRouted .overspeed s t)
      ∧ t.port = s.port ∧ t.config = s.config ∧ t.bufA = s.bufA ∧ t.bufB = s.bufB ∧ t.materials = s.materials
      ∧ t.wear = s.wear
      ∧ (∀ active, t.planner.job = some active → active.kind = .contour ∨ t.jsq.phase = .positioning)
      ∧ (s.jsq.phase ≠ .holding →
        t.queue.head? = some { e with
          stamp := some ⟨job.inputs.revision, job.inputs.override, job.inputs.level⟩
          overspeedCount := some (overspeedCount store e.pages) }
        ∧ t.jsq = s.jsq ∧ t.pump = s.pump ∧ t.motion = s.motion ∧ t.freePages = s.freePages
        ∧ (job.stop = none → t.stream = s.stream))
      ∧ ∀ plan, job.kind = .stop → job.stop = some plan → s.jsq.phase = .holding →
        (s.stream.cursor ≠ some plan.place →
          t.stream = { s.stream with stopPlace := some plan.place, holdAtMade := some false } ∧ t.jsq = s.jsq)
        ∧ ∀ place, plan.place = .seg place → s.stream.cursor = some plan.place → s.stream.window = [] →
          (∀ cause, s.jsq.stopEnding = some .held → s.jsq.stopCause = some cause →
            t.queue.head? = some (heldEntry (s.segments e) cause place { e with
                stamp := some ⟨job.inputs.revision, job.inputs.override, job.inputs.level⟩
                overspeedCount := some (overspeedCount store e.pages) })
              ∧ t.jsq = shutIn .idle none none none ∧ jetShut s t.pump.transmit ∧ t.stream.due = s.stream.due ++ [.holdAt]
              ∧ pendingWhereRouted .held s t)
          ∧ (s.jsq.stopEnding = some .skipped →
            SkippedOut (s.setStore store) t e rest (skippedRecord (s.segments e) e) (s.stream.due ++ [.holdAt]))

/-! ### Holds, skips and resumes -/

/-- HOLD (R151, R152, R154, R155, R164): in CUTTING a planned stop; in a phase at rest or positioning an immediate rest that
leaves the head HELD at the send cursor, past a bridge, or FAILED at its third failed resume; in HOLDING and ABORTING no
effect; without an ACTIVE head WRONG_STATE. -/
def Obligations.HoldBringsToRest : Prop :=
  ∀ (s : State), portOpen s → Quiet s → JetSafe s →
    (s.activeEntry = none → exec .hold s = .next (s.respond (plainRefusal .wrongState)))
    ∧ ∀ e rest, s.queue = e :: rest → e.state = .active →
      (s.jsq.phase = .holding ∨ s.jsq.phase = .aborting → exec .hold s = .next (s.respond ⟨.ok, .empty⟩))
      ∧ (s.jsq.phase = .cutting →
        ∃ t, exec .hold s = .next t ∧ t.port.condition = .responding ⟨.ok, .empty⟩ 0
          ∧ t.jsq = { s.jsq with phase := .holding, stopCause := some .operator, stopEnding := some .held }
          ∧ t.planner.stopTaken = true ∧ (∃ job, t.planner.job = some job ∧ job.kind = .stop)
          ∧ t.queue.head? = some e
          ∧ t = ((((s.setPort t.port).setJsq t.jsq).setPlanner t.planner).setQueue t.queue))
      ∧ ∀ c, s.jsq.phase ∈ [.positioning, .piercePressure, .piercing, .cutPressure, .bridgeStop, .bridgeTravel] →
        s.stream.cursor = some c →
        ∃ t, exec .hold s = .next t ∧ t.port.condition = .responding ⟨.ok, .empty⟩ 0
          ∧ BecomesHeld s t e .operator (placeAt (s.segments e) e.passes c)
            (s.stream.due.filter (fun c => !c.superseded) ++ [.halt])
          ∧ t.wear = s.wear ∧ t.bufA = s.bufA ∧ t.bufB = s.bufB

/-- SKIP (R156, R157, R19, R128): a HELD or FAILED head leaves at once with outcome SKIPPED, its pages free, CONTOUR_END
raised, and with no head that can be activated the idle pressure is issued and QUEUE_IDLE raised; in CUTTING a planned
stop that ends SKIPPED; in HOLDING and ABORTING the ending becomes SKIPPED; in the other phases of a contour an immediate
rest, then the removal, with HALT due and the jet shut (R154); else WRONG_STATE. An untold CONTOUR_BEGIN is dropped with what
stands behind it (R139); window, cursor and last exit are absent afterwards (R149). The finished-list entry counts passes and
segments by the done position, set at an immediate rest to the place of rest (DEDUCED, notes/assumptions/19.md). -/
def Obligations.SkipTakesHeadOut : Prop :=
  ∀ (s : State), portOpen s → Quiet s → JetSafe s →
    (∀ e, s.queue = [] ∨ s.queue.head? = some e ∧ e.state.begun = false →
      exec .skip s = .next (s.respond (plainRefusal .wrongState)))
    ∧ ∀ e rest, s.queue = e :: rest →
      (e.state = .active → s.jsq.phase = .holding ∨ s.jsq.phase = .aborting →
        exec .skip s = .next ((s.setJsq { s.jsq with stopEnding := some .skipped }).respond ⟨.ok, .empty⟩))
      ∧ (e.state = .active → s.jsq.phase = .cutting →
        ∃ t, exec .skip s = .next t
          ∧ t.jsq = { s.jsq with phase := .holding, stopCause := some .operator, stopEnding := some .skipped }
          ∧ (∃ job, t.planner.job = some job ∧ job.kind = .stop)
          ∧ t = ((((s.setPort t.port).setJsq t.jsq).setPlanner t.planner).setQueue t.queue))
      ∧ (e.state = .held ∨ e.state = .failed ∨ e.state = .active
          ∧ s.jsq.phase ∈ [.positioning, .piercePressure, .piercing, .cutPressure, .bridgeStop, .bridgeTravel] →
        ∃ t f, exec .skip s = .next t ∧ t.port.condition = .responding ⟨.ok, .empty⟩ 0
          ∧ (s.stream.window = [] ∨ e.state = .active →
            SkippedOut s t e rest f
              (if e.state = .active then s.stream.due.filter (fun c => !c.superseded) ++ [.halt] else s.stream.due))
          ∧ t.queue.map Entry.contourId = rest.map Entry.contourId ∧ t.freePages = s.freePages ++ e.pages
          ∧ t.finished = (if s.finished.length = 16 then s.finished.tail else s.finished) ++ [f]
          ∧ f.contourId = e.contourId ∧ f.tag = e.tag ∧ f.outcome = .skipped ∧ f.holdCount = e.holdCount
          ∧ f.lastHoldCause = e.lastHoldCause ∧ pendingWhereRouted .contourEnd s t
          ∧ (e.state ≠ .active → f = skippedRecord (s.segments e) e)
          ∧ (∀ c, e.state = .active → s.stream.cursor = some c →
            f = skippedRecord (s.segments e)
              { e with donePlace := some (restPlace (s.segments e) e.passes (placeAt (s.segments e) e.passes c)) })
          ∧ t.store = erasePages e.pages s.store
          ∧ t.config = s.config ∧ t.materials = s.materials ∧ t.wear = s.wear ∧ t.bufA = s.bufA ∧ t.bufB = s.bufB)

/-- RESUME (R162, R163, R115): its checks in order, and on acceptance with both links heard the head ACTIVE with its restart
mark set, a TRAVERSE to the start point of its resume point, the first target of the restart's mode, a RESUME request with
the cursor at the resume point. Over a silent pump link (R173, R164) the accepted resume fails at once: HELD again with
PUMP_LINK_LOST and one resume failure more, or FAILED at the third. -/
def Obligations.ResumeRestartsHead : Prop :=
  ∀ (s : State), portOpen s → Quiet s → JetSafe s →
    ((∀ e rest, s.queue = e :: rest → e.state ≠ .held) →
      exec .resume s = .next (s.respond (plainRefusal .wrongState)))
    ∧ ∀ e rest, s.queue = e :: rest → e.state = .held →
      ((∃ r, s.pump.report = some r ∧ r.code ≠ 0) ∨ s.motion.link = .silent →
        exec .resume s = .next (s.respond (plainRefusal .notReady)))
      ∧ (∀ p x y mode target, (∀ r, s.pump.report = some r → r.code = 0) → s.motion.link = .ok → s.pump.link = .ok →
        e.resumePoint = some p → (∀ job, s.planner.job = some job → job.kind = .contour) →
        (match predecessor (s.segments e) p with
          | none => (x, y) = (e.startX, e.startY)
          | some q => ∃ r, (s.segments e)[q.index]? = some r ∧ (x, y) = (r.endX.toNat, r.endY.toNat)) →
        mode = (if p = ⟨0, 1⟩ then e.pierceMode else .lowStationary) →
        target = clampPressure s.config
          (if mode = .lowStationary then (s.materialOf e).pPierce.toNat else (s.materialOf e).pCut.toNat) →
        ∃ t job, exec .resume s = .next t ∧ t.port.condition = .responding ⟨.ok, .empty⟩ 0
          ∧ t.queue.head? = some { e with
              state := .active, holdCause := none, resumePoint := none, laterFault := some false, restartMark := true }
          ∧ t.jsq = { s.jsq with
              phase := .positioning, contour := some e.contourId, startMode := some mode, traverseSerial := none
              arrived := some false, wait := some ⟨target, s.config.pressureTimeout.toNat * 1000⟩ }
          ∧ t.stream = { s.stream with
              due := s.stream.due ++ [.traverse x y s.config.traverseSpeed.toNat]
              cursor := some (.seg p), lastExit := some 0, stopPlace := none, holdAtMade := none }
          ∧ t.pump = { s.pump with
              transmit := enqueueMessage (.setPressure target) s.pump.transmit, target := target, ready := false, sag := 0 }
          ∧ t.planner = ⟨some job, false⟩ ∧ job.kind = .resume ∧ job.contour = e.contourId
          ∧ job.fixed = some ⟨.seg p, 0⟩ ∧ job.inputs.level = s.wear.level
          ∧ t = (((((s.setPort t.port).setQueue t.queue).setJsq t.jsq).setStream t.stream).setPump t.pump).setPlanner
              t.planner)
      ∧ ∀ p, (∀ r, s.pump.report = some r → r.code = 0) → s.motion.link = .ok → s.pump.link = .silent →
        e.resumePoint = some p →
        ∃ t, exec .resume s = .next t ∧ t.port.condition = .responding ⟨.ok, .empty⟩ 0
          ∧ t.queue.head? = some (heldEntry (s.segments e) .pumpLinkLost p { e with
              state := .active, holdCause := none, resumePoint := none, laterFault := some false, restartMark := true })
          ∧ t.jsq = shutIn .idle none none none ∧ noRequest t
          ∧ t.stream.due = s.stream.due.filter (fun c => !c.superseded) ++ [.halt]
          ∧ t.stream.window = [] ∧ t.stream.cursor = some (.seg p) ∧ t.stream.lastExit = none
          ∧ pendingWhereRouted .held s t

/-! ### The plan stream and the motion port -/

/-- The start of an exchange (R133, R138, R139, R140, R141): the repeat record with the serial it has; else the head of the
due list; else the SEG of the segment at the cursor where every condition of R140 holds; else EMPTY with MATN's set. A
record placed for the first time takes the next serial; a SEG moves the cursor and the last exit sent. Nothing else
changes. -/
def Obligations.FrameStartPlacesRecord : Prop :=
  ∀ (s : State), s.motion.exchange = none →
    (∀ p, s.stream.again = some p →
      exec .motionFrameStart s
        = .next ((s.setStream { s.stream with again := none }).setMotion
            { s.motion with exchange := some ⟨p, p.frame, false⟩ }))
    ∧ (∀ c rest p, s.stream.again = none → s.stream.due = c :: rest → p = ⟨some s.stream.nextSerial, .control c⟩ →
      exec .motionFrameStart s
        = .next ((s.setStream { s.stream with
            due := rest, nextSerial := s.stream.nextSerial + 1, lastKind := some .control }).setMotion
            { s.motion with exchange := some ⟨p, p.frame, false⟩ }))
    ∧ ∀ mayBeSent : SegRecord → Place → Prop,
      (∀ r place, mayBeSent r place ↔
        s.stream.stopPlace ≠ some (.seg place)
        ∧ (∀ job, s.planner.job = some job → job.kind = .contour) ∧ s.stream.window.length < 8
        ∧ (s.stream.window = [] ∨ s.stream.lastKind = some .seg)
        ∧ (s.jsq.phase = .cutting ∧ isBridge r = false
          ∨ s.jsq.phase = .holding ∧ s.stream.stopPlace ≠ none ∧ isBridge r = false
          ∨ s.jsq.phase = .bridgeTravel ∧ isBridge r = true)) →
      (∀ e rest place r w next seg p, s.stream.again = none → s.stream.due = [] → s.queue = e :: rest → e.state = .active →
        s.stream.cursor = some (.seg place) → slotAt s.store e.pages place.index = some ⟨r, some w⟩ → mayBeSent r place →
        next = successor (s.segments e) e.passes place →
        seg = { contour := s.jsq.contour.getD e.contourId, kind := segKind r, endX := r.endX.toNat, endY := r.endY.toNat,
                radius := if segKind r = .arcCw ∨ segKind r = .arcCcw then segRadius r else none,
                entry := w.entry, exit := w.exit, peak := w.peak, dwell := w.dwell, jet := !isBridge r,
                overspeed := w.overspeed,
                lastOfPass := match next with
                  | .fin => true
                  | .seg q => decide (q.pass ≠ place.pass),
                place := place : SegOut } →
        p = ⟨some s.stream.nextSerial, .seg seg⟩ →
        ∃ reached : Bool, (reached = true ↔ s.stream.stopPlace = some next ∧ next ≠ .fin ∧ s.stream.holdAtMade = some false)
          ∧ exec .motionFrameStart s
            = .next ((s.setStream { s.stream with
                nextSerial := s.stream.nextSerial + 1, lastKind := some .seg, lastExit := some w.exit, cursor := some next
                due := if reached then [.holdAt] else []
                holdAtMade := if reached then some true else s.stream.holdAtMade }).setMotion
                { s.motion with exchange := some ⟨p, p.frame, false⟩ }))
      ∧ ∀ p, s.stream.again = none → s.stream.due = [] → p = ⟨none, .empty s.attention.matn.pending⟩ →
        (s.activeEntry = none ∨ s.stream.cursor = none ∨ s.stream.cursor = some .fin
          ∨ ∃ e place r w, s.activeEntry = some e ∧ s.stream.cursor = some (.seg place)
            ∧ slotAt s.store e.pages place.index = some ⟨r, w⟩ ∧ ¬ mayBeSent r place) →
        exec .motionFrameStart s = .next (s.setMotion { s.motion with exchange := some ⟨p, p.frame, false⟩ })

/-- Every frame the part shifts out has 28 bytes that sum to 0 modulo 256: its kind 0 to 7 in the order of R137, the serial, the
fields of its record in their bytes, 0 in every other byte, and the check. Every message to the pump has six bytes that sum
to 0 modulo 256: the lead byte, its kind 1 to 3, its payload, 0 in every other byte, and the check (R134, R137, R191). And what
the part receives: a controller frame is accepted where its 28 bytes sum to 0 and its report kind is 0 to 10, with the
override in byte 1 and the report's field in bytes 2 and 3 (R134, R146); a STATUS where its six bytes sum to 0, its kind is
16, its pressure at most 600, its fault code at most 4 and its flow value below 3 (R168). -/
def Obligations.FramesSumToZero : Prop :=
  (∀ p : Placed, p.frame.length = 28 ∧ byteSum p.frame = 0)
    ∧ (∀ mask, (Placed.mk none (.empty mask)).frame.take 27 = [0, 0, 0] ++ split2 mask ++ List.replicate 22 0)
    ∧ (∀ (serial : Serial) (c : Control) (kind : Byte) (fields : List Byte),
      ((∃ n, c = .contourBegin n ∧ kind = 1 ∧ fields = split2 (BitVec.ofNat 16 n))
        ∨ (∃ x y v, c = .traverse x y v ∧ kind = 2
          ∧ fields = split4 (BitVec.ofNat 32 x) ++ split4 (BitVec.ofNat 32 y) ++ split3 (BitVec.ofNat 24 v))
        ∨ c = .holdAt ∧ kind = 4 ∧ fields = [] ∨ c = .halt ∧ kind = 5 ∧ fields = [] ∨ c = .abort ∧ kind = 6 ∧ fields = []
        ∨ ∃ n, c = .contourEnd n ∧ kind = 7 ∧ fields = split2 (BitVec.ofNat 16 n)) →
      (Placed.mk (some serial) (.control c)).frame.take 27
        = kind :: (split2 serial ++ fields ++ List.replicate (24 - fields.length) 0))
    ∧ (∀ (serial : Serial) (r : SegOut) (kind : Byte),
      (r.kind, kind) ∈ [(Kind.line, (0 : Byte)), (.arcCw, 1), (.arcCcw, 2), (.bridge, 3)] →
      ∃ flags : Byte, (flags.getLsbD 0 = r.jet ∧ flags.getLsbD 1 = r.overspeed ∧ flags.getLsbD 2 = r.lastOfPass
          ∧ flags.getLsbD 3 = r.radius.isSome ∧ flags.toNat < 16)
        ∧ (Placed.mk (some serial) (.seg r)).frame.take 27
          = 3 :: (split2 serial ++ split2 (BitVec.ofNat 16 r.contour) ++ [kind, flags] ++ split4 (BitVec.ofNat 32 r.endX)
            ++ split4 (BitVec.ofNat 32 r.endY) ++ split3 (BitVec.ofNat 24 (r.radius.getD 0))
            ++ split2 (BitVec.ofNat 16 r.entry) ++ split2 (BitVec.ofNat 16 r.exit) ++ split2 (BitVec.ofNat 16 r.peak)
            ++ split2 (BitVec.ofNat 16 r.dwell) ++ [0]))
    ∧ (∀ m : PumpMessage, m.bytes.length = 6 ∧ byteSum m.bytes = 0)
    ∧ (∀ p, (PumpMessage.setPressure p).bytes.take 5 = [0xA5, 1] ++ split2 (BitVec.ofNat 16 p) ++ [0])
    ∧ (PumpMessage.setValve .opened).bytes.take 5 = [0xA5, 2, 1, 0, 0]
    ∧ (PumpMessage.setValve .closed).bytes.take 5 = [0xA5, 2, 0, 0, 0]
    ∧ (∀ rate, (PumpMessage.setAbrasive rate).bytes.take 5 = [0xA5, 3] ++ split2 (BitVec.ofNat 16 rate) ++ [0])
    ∧ (∀ (frame : Vector Byte 28) (raw : Byte) (r : Report) (field : BitVec 16),
      field.toNat = frame[2].toNat + 256 * frame[3].toNat →
      (decodeFrame frame = some (raw, r) ↔ byteSum frame.toList = 0 ∧ raw = frame[1]
        ∧ (frame[0], r) ∈ [((0 : Byte), Report.nothing), (1, .segDone field), (2, .arrived field), (3, .stopped field),
          (4, .holdReq), (5, .resumeReq), (6, .skipReq), (7, .motionFault), (8, .starvedStop field), (9, .linkError),
          (10, .eventAck field)]))
    ∧ ∀ (message : Vector Byte 6) (r : PumpReport),
      decodeStatus message.toList = some r ↔
        message[0] = 0xA5 ∧ message[1] = 16 ∧ byteSum message.toList = 0
          ∧ r.pressure = message[2].toNat + 256 * message[3].toNat ∧ r.pressure ≤ 600
          ∧ r.code = message[4].toNat % 8 ∧ r.code ≤ 4
          ∧ (message[4].toNat / 16 % 4, r.flow) ∈ [(0, Flow.ok), (1, .low), (2, .noFlow)]

/-- The end of an exchange whose frame is accepted with report NONE and an unchanged override (R133, R135, R142, R147): the
link is OK and its timer restarts; a SEG joins the window, a TRAVERSE hands its serial to JSQ in POSITIONING, other
records and records no longer to be delivered act on nothing. With CONTOUR_END in FINISHING and no head to activate, JSQ
is IDLE and the idle pressure is issued (R127, R128). The reports (R146), with EMPTY delivered: ARRIVED of the TRAVERSE's
serial ends POSITIONING (R117); STOPPED ends ABORTING (R161); STARVED_STOP, MOTION_FAULT and LINK_ERROR are faults (R158 to
R161); EVENT_ACK acknowledges on MATN (R148); HOLD_REQ, RESUME_REQ and SKIP_REQ do what the commands do. A changed override is
clamped, held, and offers a REMAINDER, which merges with the request outstanding (R147, R96, R97). -/
def Obligations.FrameCompleteDelivers : Prop :=
  (∀ (s u : State) (x : Exchange) (frame : Vector Byte 28) (raw : Byte) (serial : Serial), s.motion.exchange = some x →
    Quiet s → decodeFrame frame = some (raw, .nothing) →
    (if raw.toNat < 10 then 10 else if 150 < raw.toNat then 150 else raw.toNat) = s.motion.override →
    u = s.setMotion ⟨none, some s.config.motionLinkTimeout.toNat, .ok, s.motion.override⟩ →
    (x.cancelled = true → exec (.motionFrameComplete frame) s = .next u)
    ∧ (∀ mask, x.placed.body = .empty mask → exec (.motionFrameComplete frame) s = .next u)
    ∧ (∀ c, x.placed.body = .control c → (c ∈ [.holdAt, .halt, .abort] ∨ ∃ n, c = .contourBegin n) →
      exec (.motionFrameComplete frame) s = .next u)
    ∧ (∀ seg, x.placed = ⟨some serial, .seg seg⟩ → x.cancelled = false →
      exec (.motionFrameComplete frame) s
        = .next (u.setStream { s.stream with window := s.stream.window ++ [⟨serial, seg.contour, seg.place⟩] }))
    ∧ (∀ a b v, x.placed = ⟨some serial, .control (.traverse a b v)⟩ → x.cancelled = false →
      exec (.motionFrameComplete frame) s
        = .next (if s.jsq.phase = .positioning then u.setJsq { s.jsq with traverseSerial := some serial } else u))
    ∧ ∀ n, x.placed.body = .control (.contourEnd n) → x.cancelled = false → s.jsq.phase = .finishing → s.queue = [] →
      ∃ t, exec (.motionFrameComplete frame) s = .next t
        ∧ t.jsq = { s.jsq with
            phase := .idle, contour := none, startMode := none, traverseSerial := none, arrived := none, wait := none
            pierceMs := none, stopCause := none, stopEnding := none }
        ∧ t.pump.target = clampPressure s.config s.config.idlePressure.toNat ∧ pendingWhereRouted .queueIdle s t
        ∧ t = (((u.setJsq t.jsq).setPump t.pump).setAttention t.attention))
    ∧ ∀ (s u : State) (x : Exchange) (frame : Vector Byte 28) (raw : Byte) (r : Report) (o : Nat),
      s.motion.exchange = some x → (∃ mask, x.placed.body = .empty mask) → Quiet s → JetSafe s →
      decodeFrame frame = some (raw, r) → o = (if raw.toNat < 10 then 10 else if 150 < raw.toNat then 150 else raw.toNat) →
      u = s.setMotion ⟨none, some s.config.motionLinkTimeout.toNat, .ok, o⟩ →
      ∃ t, exec (.motionFrameComplete frame) s = .next t
        ∧ (o = s.motion.override →
          (s.activeEntry = none → (∃ n, r = .arrived n ∨ r = .stopped n ∨ r = .starvedStop n) ∨ r = .motionFault → t = u)
          ∧ (∀ n, r = .arrived n →
            (s.jsq.phase ≠ .positioning ∨ s.jsq.traverseSerial ≠ some n → t = u)
            ∧ ∀ e, s.activeEntry = some e → s.jsq.phase = .positioning → s.jsq.traverseSerial = some n →
              (s.jsq.wait ≠ none → t = u.setJsq { s.jsq with arrived := some true })
              ∧ (s.jsq.wait = none → s.jsq.pierceMs = none →
                JetOpened s t e ∧ t.queue = s.queue ∧ t.stream = s.stream ∧ t.motion = u.motion ∧ t.planner = s.planner))
          ∧ (∀ n, r = .stopped n →
            (s.jsq.phase ≠ .aborting → t = u)
            ∧ ∀ e rest cause ending, s.queue = e :: rest → e.state = .active → s.jsq.phase = .aborting →
              s.jsq.stopCause = some cause → s.jsq.stopEnding = some ending →
              RestsAtDone s t (confirmedEntry (s.segments e) s.stream.window n e) rest cause ending s.stream.due)
          ∧ (∀ n, r = .starvedStop n → s.activeEntry ≠ none →
            TakesFault s (.starved n) t ∧ pendingWhereRouted .starved s t)
          ∧ (r = .motionFault → TakesFault s .motionFault t)
          ∧ (r = .linkError → TakesFault s .linkCheck t ∧ pendingWhereRouted .motionLinkFault s t)
          ∧ (∀ mask, r = .eventAck mask → t = u.setAttention ⟨s.attention.jatn,
            { s.attention.matn with pending := s.attention.matn.pending &&& ~~~mask }⟩)
          ∧ ∀ c, (r, c) ∈ [(Report.holdReq, Instr.hold), (.resumeReq, .resume), (.skipReq, .skip)] →
            ∃ v, exec c (u.setPort { s.port with condition := .waitHeader }) = .next v ∧ t = v.setPort s.port)
        ∧ (o ≠ s.motion.override → r = .nothing → ∀ offered : Prop,
          (offered ↔ s.activeEntry ≠ none ∧ s.planner.stopTaken = false
            ∧ s.jsq.phase ∈ [.positioning, .piercePressure, .piercing, .cutPressure, .cutting, .bridgeStop, .bridgeTravel]
            ∧ ∀ job, s.planner.job = some job → job.kind ≠ .stop) →
          (¬ offered → t = u)
          ∧ (offered → ∀ e, s.activeEntry = some e →
            ∃ job, t.planner = ⟨some job, false⟩ ∧ job.contour = e.contourId ∧ job.inputs.level = s.wear.level
              ∧ job.inputs.override = (if e.quality = 1 then o else min o 100)
              ∧ (∀ old, s.planner.job = some old → old.kind ≠ .contour → job.kind = old.kind ∧ t.queue = s.queue)
              ∧ ((∀ old, s.planner.job = some old → old.kind = .contour) →
                job.kind = .remainder ∧ job.fixed = s.stream.cursor.map (fun c => ⟨c, s.stream.lastExit.getD 0⟩)
                ∧ ∀ (k : Nat) y y', s.queue[k]? = some y → t.queue[k]? = some y' →
                  y' = if y.state = .planning then { y with state := .waitingPlan } else y)
              ∧ t = (u.setPlanner t.planner).setQueue t.queue))

/-- R144, R17: a SEG_DONE for the oldest entry of the window, in CUTTING before a further cutting segment: the entry leaves
the window, the done position moves to the next segment in cut order, the restart mark and the resume failures are
cleared, and JSQ stays as it is (R121). Before a bridge the jet is shut and JSQ waits in BRIDGE_STOP (R122); a bridge done in
BRIDGE_TRAVEL starts the re-pierce (R123); the last segment done in CUTTING or HOLDING finishes the contour (R126, R153), in HOLDING
also before the STOP job has completed (DEDUCED, notes/assumptions/17.md); in HOLDING the last flight before the stop place
ends the stop, and a skip that ends there keeps its done position, also at a bridge (DEDUCED, notes/assumptions/33.md); in the
other phases JSQ stays as it is. -/
def Obligations.SegDoneAdvances : Prop :=
  (∀ (s : State) (x : Exchange) (frame : Vector Byte 28) (raw : Byte) (f : Flight) (window : List Flight) (e : Entry)
    (rest : List Entry) (r q : SegRecord) (done next : Place), s.motion.exchange = some x → (∃ mask, x.placed.body = .empty mask) →
    decodeFrame frame = some (raw, .segDone f.serial) → raw.toNat = s.motion.override → 10 ≤ raw.toNat → raw.toNat ≤ 150 →
    s.stream.window = f :: window → s.queue = e :: rest → e.state = .active → s.jsq.phase = .cutting →
    e.donePlace = some done → done = f.place → 1 ≤ done.pass → (s.segments e)[f.place.index]? = some r →
    successor (s.segments e) e.passes f.place = .seg next → (s.segments e)[next.index]? = some q → isBridge q = false →
    (∃ t, exec (.motionFrameComplete frame) s = .next t
      ∧ t.queue = { e with donePlace := some next, resumeFailures := 0, restartMark := false } :: rest
      ∧ t.stream = { s.stream with window := window } ∧ t.jsq = s.jsq
      ∧ t = (((((s.setQueue t.queue).setStream t.stream).setMotion t.motion).setWear t.wear).setAttention t.attention)
      ∧ (isBridge r = true → t.wear = s.wear)
      ∧ (isBridge r = false → ∀ i, (s.wear.counter i).source = .cutLength →
        (t.wear.counter i).value
            = min 4294967295 ((s.wear.counter i).value + ((s.wear.counter i).remainder + segLength r) / 1000)
          ∧ (t.wear.counter i).remainder = ((s.wear.counter i).remainder + segLength r) % 1000)))
    ∧ ∀ (s : State) (x : Exchange) (frame : Vector Byte 28) (raw : Byte) (f : Flight) (window : List Flight) (e e' : Entry)
      (rest : List Entry) (done : Place), s.motion.exchange = some x → (∃ mask, x.placed.body = .empty mask) → JetSafe s →
      decodeFrame frame = some (raw, .segDone f.serial) → raw.toNat = s.motion.override → 10 ≤ raw.toNat → raw.toNat ≤ 150 →
      s.stream.window = f :: window → s.queue = e :: rest → e.state = .active → e.donePlace = some done →
      e' = { e with
        donePlace := some (State.advanceDone (s.segments e) e.passes f.place.index done), resumeFailures := 0
        restartMark := false } →
      ∃ t, exec (.motionFrameComplete frame) s = .next t
        ∧ (∀ next q, s.jsq.phase = .cutting → successor (s.segments e) e.passes f.place = .seg next →
          (s.segments e)[next.index]? = some q → isBridge q = true →
          t.queue = e' :: rest ∧ t.stream = { s.stream with window := window }
            ∧ t.jsq = { s.jsq with phase := .bridgeStop, valve := .closed, abrasive := 0 }
            ∧ t.pump.transmit = enqueueMessage (.setValve .closed) (enqueueMessage (.setAbrasive 0) s.pump.transmit))
        ∧ (∀ r mode target, s.jsq.phase = .bridgeTravel → (s.segments e)[f.place.index]? = some r → isBridge r = true →
          mode = (if e.pierceMode = .edgeStart then .lowStationary else e.pierceMode) →
          target = clampPressure s.config
            (if mode = .lowStationary then (s.materialOf e).pPierce.toNat else (s.materialOf e).pCut.toNat) →
          t.queue = e' :: rest ∧ t.stream = { s.stream with window := window } ∧ t.wear = s.wear
            ∧ t.jsq = { s.jsq with
                phase := .piercePressure, startMode := some mode
                wait := some ⟨target, s.config.pressureTimeout.toNat * 1000⟩ }
            ∧ t.pump = { s.pump with
                transmit := enqueueMessage (.setPressure target) s.pump.transmit, target := target, ready := false, sag := 0 })
        ∧ (s.jsq.phase = .cutting ∨ s.jsq.phase = .holding → successor (s.segments e) e.passes f.place = .fin →
          Finishes s t e' rest s.stream.due)
        ∧ (∀ next p, s.jsq.phase = .holding → successor (s.segments e) e.passes f.place = .seg next → window = [] →
          s.stream.stopPlace = some (.seg p) → s.stream.cursor = some (.seg p) →
          (∀ cause, s.jsq.stopEnding = some .held → s.jsq.stopCause = some cause →
            BecomesHeld s t e' cause p s.stream.due)
          ∧ (s.jsq.stopEnding = some .skipped → SkippedOut s t e' rest (skippedRecord (s.segments e) e') s.stream.due))
        ∧ (s.jsq.phase ∉ [.cutting, .holding, .bridgeTravel]
            ∨ s.jsq.phase = .holding ∧ successor (s.segments e) e.passes f.place ≠ .fin
              ∧ (window ≠ [] ∨ s.stream.stopPlace = none ∨ s.stream.stopPlace ≠ s.stream.cursor) →
          t.queue = e' :: rest ∧ t.stream = { s.stream with window := window } ∧ t.jsq = s.jsq)

/-- R145: a SEG_DONE with no window entry, or with a serial that is not the head's, raises MOTION_LINK_FAULT and has no other
effect; the frame that carries it counts as a valid frame. -/
def Obligations.WrongSegDoneIgnored : Prop :=
  ∀ (serial : Serial) (s : State), s.stream.window = [] ∨ (∃ f rest, s.stream.window = f :: rest ∧ f.serial ≠ serial) →
    takeReport (.segDone serial) s = s.raise .motionLinkFault
      ∧ ∀ (x : Exchange) (frame : Vector Byte 28) (raw : Byte), s.motion.exchange = some x →
        (∃ mask, x.placed.body = .empty mask) → decodeFrame frame = some (raw, .segDone serial) →
        raw.toNat = s.motion.override → 10 ≤ raw.toNat → raw.toNat ≤ 150 → s.motion.link = .ok →
        ∃ t, exec (.motionFrameComplete frame) s = .next t ∧ pendingWhereRouted .motionLinkFault s t
          ∧ t.motion.link = s.motion.link
          ∧ t = ((s.setMotion ⟨none, some s.config.motionLinkTimeout.toNat, .ok, s.motion.override⟩).setAttention t.attention)

/-- A cut exchange, a damaged frame and a silent link (R133, R134, R135): a cut leaves the record as the repeat record, unless
it is no longer to be sent; a frame that fails its check raises MOTION_LINK_FAULT and changes no override; the link
timer's expiry makes the link SILENT and raises MOTION_LINK_FAULT. Where no entry is ACTIVE nothing else changes; an ACTIVE
entry takes the fault by JSQ's phase (R158 to R161): an immediate rest, a rest with the jet shut and ABORT due, or no more
than the later fault seen. That an EMPTY cut short is the repeat record too (notes/assumptions/14.md), and that a record in a
frame stays to be repeated when a HALT or ABORT is made due during its exchange (notes/assumptions/15.md), are the model's
readings (DEDUCED). -/
def Obligations.LinkFailures : Prop :=
  ∀ (s : State) (x : Exchange) (frame : Vector Byte 28) (n : Nat),
    (s.motion.exchange = some x →
      exec .motionFrameCutShort s
        = .next (if x.cancelled then s.setMotion { s.motion with exchange := none }
            else (s.setMotion { s.motion with exchange := none }).setStream { s.stream with again := some x.placed }))
    ∧ (s.activeEntry = none → s.motion.exchange = some x → (∃ mask, x.placed.body = .empty mask) →
      decodeFrame frame = none →
      ∃ t, exec (.motionFrameComplete frame) s = .next t ∧ pendingWhereRouted .motionLinkFault s t
        ∧ t = (s.setMotion { s.motion with
            exchange := none, timer := some s.config.motionLinkTimeout.toNat }).setAttention t.attention)
    ∧ (s.activeEntry = none → s.motion.timer = some n →
      ∃ t, exec .motionLinkTimeout s = .next t ∧ pendingWhereRouted .motionLinkFault s t
        ∧ t = (s.setMotion { s.motion with timer := none, link := .silent }).setAttention t.attention)
    ∧ (JetSafe s → s.motion.exchange = some x → (∃ mask, x.placed.body = .empty mask) → decodeFrame frame = none →
      ∃ t, exec (.motionFrameComplete frame) s = .next t ∧ pendingWhereRouted .motionLinkFault s t
        ∧ TakesFault s .linkCheck t ∧ t.motion.link = s.motion.link ∧ t.motion.override = s.motion.override)
    ∧ (JetSafe s → s.motion.timer = some n →
      ∃ t, exec .motionLinkTimeout s = .next t ∧ pendingWhereRouted .motionLinkFault s t
        ∧ TakesFault s .linkSilence t ∧ t.motion.link = .silent ∧ t.motion.timer = none)
    ∧ (∀ frame : Vector Byte 28, decodeFrame frame ≠ none ↔ byteSum frame.toList = 0 ∧ frame[0].toNat ≤ 10)

/-! ### The jet sequencer and the pump link -/

/-- The sequencer's timers (R116, R118, R130, R154, R155): the pierce timer counts a pierce and steps to the cutting pressure
or to CUTTING by the start mode; the expiry of a pressure wait raises PRESSURE_TIMEOUT and brings the entry to rest with
that cause at the send cursor, past a bridge, HELD or at its third failed resume FAILED (R164), the jet shut if it was open
(R154). -/
def Obligations.SequencerTimers : Prop :=
  ∀ (s : State) (e : Entry) (rest : List Entry), QueueLaw s → s.queue = e :: rest → e.state = .active →
    (∀ n target, s.jsq.phase = .piercing → s.jsq.pierceMs = some n →
      target = clampPressure s.config (s.materialOf e).pCut.toNat →
      ∃ t, exec .pierceTimerExpiry s = .next t
        ∧ (∀ i, (s.wear.counter i).source = .pierces →
          (t.wear.counter i).value = min 4294967295 ((s.wear.counter i).value + 1))
        ∧ (s.jsq.startMode = some .lowStationary →
          t.jsq = { s.jsq with
            phase := .cutPressure, pierceMs := none, wait := some ⟨target, s.config.pressureTimeout.toNat * 1000⟩ }
          ∧ t.pump = { s.pump with
              transmit := enqueueMessage (.setPressure target) s.pump.transmit, target := target, ready := false, sag := 0 })
        ∧ (s.jsq.startMode = some .fullStationary →
          t.jsq = { s.jsq with phase := .cutting, pierceMs := none, startMode := none } ∧ t.pump = s.pump)
        ∧ t = ((((s.setJsq t.jsq).setPump t.pump).setWear t.wear).setAttention t.attention))
    ∧ ∀ w c, s.jsq.wait = some w → s.jsq.phase ∈ [.positioning, .piercePressure, .cutPressure] →
      s.stream.cursor = some c →
      ∃ t, exec .pressureWaitExpiry s = .next t ∧ pendingWhereRouted .pressureTimeout s t ∧ pendingWhereRouted .held s t
        ∧ t.queue.head?
          = some (heldEntry (s.segments e) .pressureTimeout (placeAt (s.segments e) e.passes c) e)
        ∧ t.jsq.phase = .idle ∧ t.jsq.wait = none ∧ t.jsq.valve = .closed ∧ jetShut s t.pump.transmit ∧ t.stream.window = []
        ∧ t.stream.due = s.stream.due.filter (fun c => !c.superseded) ++ [.halt]
        ∧ t.store = s.store ∧ t.wear = s.wear ∧ t.config = s.config ∧ t.finished = s.finished

/-- The transmit side of the pump link (R167, R122): the oldest message leaves the list and is the last one on the wire; where
it is the valve close with no later SET_VALVE, it takes JSQ from BRIDGE_STOP to BRIDGE_TRAVEL. A message joins the tail;
in a list of 16 the oldest SET_PRESSURE behind the one in transmission that a later one replaces makes room. That the head of
the list is the message in transmission is the model's reading (DEDUCED, notes/assumptions/11.md), and the bytes on the wire
are the model's own field (notes/assumptions/2.md). -/
def Obligations.PumpMessagesLeaveInOrder : Prop :=
  (∀ (s : State) (m : PumpMessage) (rest : List PumpMessage), s.pump.transmit = m :: rest →
    ∃ t, exec .pumpMessageTransmitted s = .next t
      ∧ t.pump = { s.pump with transmit := rest, wire := m.bytes }
      ∧ (m = .setValve .closed → (∀ v, .setValve v ∉ rest) → s.jsq.phase = .bridgeStop →
        t.jsq = { s.jsq with phase := .bridgeTravel })
      ∧ (m ≠ .setValve .closed ∨ (∃ v, .setValve v ∈ rest) ∨ s.jsq.phase ≠ .bridgeStop → t.jsq = s.jsq)
      ∧ t = (s.setPump t.pump).setJsq t.jsq)
    ∧ (∀ m list, list.length < 16 → enqueueMessage m list = list ++ [m])
    ∧ ∀ (m first : PumpMessage) l p r, (∀ q ∈ l, ∀ v, q ≠ .setPressure v) → (∃ v, .setPressure v ∈ r) →
      (first :: (l ++ .setPressure p :: r)).length = 16 →
      enqueueMessage m (first :: (l ++ .setPressure p :: r)) = first :: (l ++ r) ++ [m]

/-- The receive side of the pump link (R168, R169, R171, R172, R173): bytes are assembled from the lead byte on and judged at
the sixth; a malformed message changes nothing; an accepted STATUS makes the link OK, restarts the timer, judges readiness
and the flow, and is held. Its readiness closes an open wait (R117, R119, R124): with the head arrived, or before a re-pierce,
the jet is opened, and in CUT_PRESSURE cutting starts. A fault code other than 0 is a PUMP_FAULT (R170); the second sag in a
row while cutting is a PRESSURE_SAG (R171). The 5 ms limit discards the assembly; the report timer's expiry makes the link
SILENT, raises PUMP_LINK_LOST and hands it to an ACTIVE entry. That the sixth byte takes the message in the same step, and
that PUMP_STATUS ends an assembly under way, is the model's reading (DEDUCED, notes/assumptions/10.md). -/
def Obligations.PumpReportsTaken : Prop :=
  ∀ (s : State) (b : Byte) (message : Vector Byte 6),
    (s.pump.assembly = none →
      exec (.pumpByteReceived b) s
        = .next (if b = 0xA5 then s.setPump { s.pump with assembly := some ⟨[0xA5], 5⟩ } else s))
    ∧ (∀ a, s.pump.assembly = some a → a.bytes.length < 5 →
      exec (.pumpByteReceived b) s = .next (s.setPump { s.pump with assembly := some ⟨a.bytes ++ [b], a.msLeft⟩ }))
    ∧ (∀ a, s.pump.assembly = some a → a.bytes.length = 5 → message.toList = a.bytes ++ [b] →
      exec (.pumpByteReceived b) s = exec (.pumpStatus message) s)
    ∧ exec .pumpAssemblyTimeout s = .next (s.setPump { s.pump with assembly := none })
    ∧ (decodeStatus message.toList = none →
      exec (.pumpStatus message) s = .next (s.setPump { s.pump with assembly := none }))
    ∧ (∀ r, decodeStatus message.toList = some r → r.code = 0 → s.activeEntry = none → s.jsq.wait = none →
      s.jsq.phase ≠ .cutting →
      ∃ t, exec (.pumpStatus message) s = .next t
        ∧ t.pump = { s.pump with
            ready := s.pump.ready || decide (r.pressure ≤ s.pump.target + s.config.readyBand.toNat
              ∧ s.pump.target ≤ r.pressure + s.config.readyBand.toNat)
            report := some r, sag := 0, link := .ok, timer := some s.config.pumpReportTimeout.toNat, assembly := none }
        ∧ (∀ old, s.pump.report = some old → old.flow = .ok → r.flow = .low → pendingWhereRouted .abrasiveLow s t)
        ∧ ((∀ old, s.pump.report = some old → old.flow ≠ .ok) ∨ r.flow ≠ .low → Quiet s → t.attention = s.attention)
        ∧ t = (s.setPump t.pump).setAttention t.attention)
    ∧ (∀ r, decodeStatus message.toList = some r → JetSafe s →
      ∃ t, exec (.pumpStatus message) s = .next t ∧ t.pump.report = some r
        ∧ (r.code ≠ 0 → (s.jsq.phase = .aborting → s.jsq.wait = none) →
          TakesFault s .pumpFault t
            ∧ ((∀ old, s.pump.report = some old → old.code ≠ r.code) → pendingWhereRouted .pumpFault s t))
        ∧ (∀ e, r.code = 0 → s.activeEntry = some e → s.jsq.wait ≠ none → s.jsq.pierceMs = none → s.pump.ready = false →
          s.pump.sag = 0 → r.pressure ≤ s.pump.target + s.config.readyBand.toNat →
          s.pump.target ≤ r.pressure + s.config.readyBand.toNat →
          t.queue = s.queue ∧ t.stream = s.stream ∧ t.planner = s.planner
            ∧ (s.jsq.phase = .positioning → s.jsq.arrived ≠ some true → t.jsq = { s.jsq with wait := none })
            ∧ (s.jsq.phase = .positioning ∧ s.jsq.arrived = some true ∨ s.jsq.phase = .piercePressure → JetOpened s t e)
            ∧ (s.jsq.phase = .cutPressure →
              t.jsq = { s.jsq with wait := none, phase := .cutting, startMode := none }))
        ∧ (r.code = 0 → s.activeEntry ≠ none → s.jsq.phase = .cutting → s.jsq.valve = .opened →
          (s.pump.target ≤ r.pressure + s.config.dropMargin.toNat →
            t.pump.sag = 0 ∧ t.jsq.phase = .cutting ∧ t.queue = s.queue)
          ∧ (r.pressure + s.config.dropMargin.toNat < s.pump.target → s.pump.sag = 0 →
            t.pump.sag = 1 ∧ t.jsq.phase = .cutting ∧ t.queue = s.queue)
          ∧ (r.pressure + s.config.dropMargin.toNat < s.pump.target → s.pump.sag ≠ 0 →
            t.pump.sag = 0 ∧ TakesFault s .pressureSag t ∧ pendingWhereRouted .pumpFault s t)))
    ∧ ∀ n, s.pump.timer = some n →
      ∃ t, exec .pumpReportTimeout s = .next t ∧ pendingWhereRouted .pumpLinkLost s t
        ∧ t.pump.timer = none ∧ t.pump.link = .silent
        ∧ (s.activeEntry = none →
          t = (s.setPump { s.pump with timer := none, link := .silent }).setAttention t.attention)
        ∧ (JetSafe s → TakesFault s .pumpLinkLost t)

/-- R143: at every step the in-flight window holds at most 8 SEG records, those placed and still to be delivered counted, and
its serials are consecutive, oldest first. -/
def Obligations.WindowLawKept : Prop :=
  ∀ c s t, exec c s = .next t → (WindowLaw s → WindowLaw t) ∧ (JetSafe s → SerialLaw s → SerialLaw t)

/-- R112 and R113 at every step: whenever the last valve setting sent is close, the last abrasive rate sent is 0, and if no
entry is ACTIVE, the last valve setting sent is close. And what JSQ holds as last sent is what the messages say: the last
valve and abrasive settings on the transmit list are JSQ's. -/
def Obligations.JetSafeKept : Prop :=
  ∀ c s t, exec c s = .next t → (JetSafe s → JetSafe t) ∧ (SettingsLaw s → SettingsLaw t)

end
end

