-- ==== Sys2Proof/Laws/State.lean ====
section
/-! SUPPORT. One lemma per field per update of State, so that no proof unfolds a record update. -/

namespace Sys2Proof.Machine.State

@[simp] theorem setPending_pending (s : State) (x : List Sys2Proof.Instr) : (s.setPending x).pending = x := rfl
@[simp] theorem setPending_port (s : State) (x : List Sys2Proof.Instr) : (s.setPending x).port = s.port := rfl
@[simp] theorem setPending_config (s : State) (x : List Sys2Proof.Instr) : (s.setPending x).config = s.config := rfl
@[simp] theorem setPending_bufA (s : State) (x : List Sys2Proof.Instr) : (s.setPending x).bufA = s.bufA := rfl
@[simp] theorem setPending_bufB (s : State) (x : List Sys2Proof.Instr) : (s.setPending x).bufB = s.bufB := rfl
@[simp] theorem setPending_engine (s : State) (x : List Sys2Proof.Instr) : (s.setPending x).engine = s.engine := rfl
@[simp] theorem setPending_store (s : State) (x : List Sys2Proof.Instr) : (s.setPending x).store = s.store := rfl
@[simp] theorem setPending_freePages (s : State) (x : List Sys2Proof.Instr) : (s.setPending x).freePages = s.freePages := rfl
@[simp] theorem setPending_queue (s : State) (x : List Sys2Proof.Instr) : (s.setPending x).queue = s.queue := rfl
@[simp] theorem setPending_finished (s : State) (x : List Sys2Proof.Instr) : (s.setPending x).finished = s.finished := rfl
@[simp] theorem setPending_materials (s : State) (x : List Sys2Proof.Instr) : (s.setPending x).materials = s.materials := rfl
@[simp] theorem setPending_planner (s : State) (x : List Sys2Proof.Instr) : (s.setPending x).planner = s.planner := rfl
@[simp] theorem setPending_jsq (s : State) (x : List Sys2Proof.Instr) : (s.setPending x).jsq = s.jsq := rfl
@[simp] theorem setPending_stream (s : State) (x : List Sys2Proof.Instr) : (s.setPending x).stream = s.stream := rfl
@[simp] theorem setPending_motion (s : State) (x : List Sys2Proof.Instr) : (s.setPending x).motion = s.motion := rfl
@[simp] theorem setPending_pump (s : State) (x : List Sys2Proof.Instr) : (s.setPending x).pump = s.pump := rfl
@[simp] theorem setPending_wear (s : State) (x : List Sys2Proof.Instr) : (s.setPending x).wear = s.wear := rfl
@[simp] theorem setPending_attention (s : State) (x : List Sys2Proof.Instr) : (s.setPending x).attention = s.attention := rfl

@[simp] theorem setPort_pending (s : State) (x : JobPort) : (s.setPort x).pending = s.pending := rfl
@[simp] theorem setPort_port (s : State) (x : JobPort) : (s.setPort x).port = x := rfl
@[simp] theorem setPort_config (s : State) (x : JobPort) : (s.setPort x).config = s.config := rfl
@[simp] theorem setPort_bufA (s : State) (x : JobPort) : (s.setPort x).bufA = s.bufA := rfl
@[simp] theorem setPort_bufB (s : State) (x : JobPort) : (s.setPort x).bufB = s.bufB := rfl
@[simp] theorem setPort_engine (s : State) (x : JobPort) : (s.setPort x).engine = s.engine := rfl
@[simp] theorem setPort_store (s : State) (x : JobPort) : (s.setPort x).store = s.store := rfl
@[simp] theorem setPort_freePages (s : State) (x : JobPort) : (s.setPort x).freePages = s.freePages := rfl
@[simp] theorem setPort_queue (s : State) (x : JobPort) : (s.setPort x).queue = s.queue := rfl
@[simp] theorem setPort_finished (s : State) (x : JobPort) : (s.setPort x).finished = s.finished := rfl
@[simp] theorem setPort_materials (s : State) (x : JobPort) : (s.setPort x).materials = s.materials := rfl
@[simp] theorem setPort_planner (s : State) (x : JobPort) : (s.setPort x).planner = s.planner := rfl
@[simp] theorem setPort_jsq (s : State) (x : JobPort) : (s.setPort x).jsq = s.jsq := rfl
@[simp] theorem setPort_stream (s : State) (x : JobPort) : (s.setPort x).stream = s.stream := rfl
@[simp] theorem setPort_motion (s : State) (x : JobPort) : (s.setPort x).motion = s.motion := rfl
@[simp] theorem setPort_pump (s : State) (x : JobPort) : (s.setPort x).pump = s.pump := rfl
@[simp] theorem setPort_wear (s : State) (x : JobPort) : (s.setPort x).wear = s.wear := rfl
@[simp] theorem setPort_attention (s : State) (x : JobPort) : (s.setPort x).attention = s.attention := rfl

@[simp] theorem setConfig_pending (s : State) (x : Sys2Proof.MachineConfig) : (s.setConfig x).pending = s.pending := rfl
@[simp] theorem setConfig_port (s : State) (x : Sys2Proof.MachineConfig) : (s.setConfig x).port = s.port := rfl
@[simp] theorem setConfig_config (s : State) (x : Sys2Proof.MachineConfig) : (s.setConfig x).config = x := rfl
@[simp] theorem setConfig_bufA (s : State) (x : Sys2Proof.MachineConfig) : (s.setConfig x).bufA = s.bufA := rfl
@[simp] theorem setConfig_bufB (s : State) (x : Sys2Proof.MachineConfig) : (s.setConfig x).bufB = s.bufB := rfl
@[simp] theorem setConfig_engine (s : State) (x : Sys2Proof.MachineConfig) : (s.setConfig x).engine = s.engine := rfl
@[simp] theorem setConfig_store (s : State) (x : Sys2Proof.MachineConfig) : (s.setConfig x).store = s.store := rfl
@[simp] theorem setConfig_freePages (s : State) (x : Sys2Proof.MachineConfig) : (s.setConfig x).freePages = s.freePages := rfl
@[simp] theorem setConfig_queue (s : State) (x : Sys2Proof.MachineConfig) : (s.setConfig x).queue = s.queue := rfl
@[simp] theorem setConfig_finished (s : State) (x : Sys2Proof.MachineConfig) : (s.setConfig x).finished = s.finished := rfl
@[simp] theorem setConfig_materials (s : State) (x : Sys2Proof.MachineConfig) : (s.setConfig x).materials = s.materials := rfl
@[simp] theorem setConfig_planner (s : State) (x : Sys2Proof.MachineConfig) : (s.setConfig x).planner = s.planner := rfl
@[simp] theorem setConfig_jsq (s : State) (x : Sys2Proof.MachineConfig) : (s.setConfig x).jsq = s.jsq := rfl
@[simp] theorem setConfig_stream (s : State) (x : Sys2Proof.MachineConfig) : (s.setConfig x).stream = s.stream := rfl
@[simp] theorem setConfig_motion (s : State) (x : Sys2Proof.MachineConfig) : (s.setConfig x).motion = s.motion := rfl
@[simp] theorem setConfig_pump (s : State) (x : Sys2Proof.MachineConfig) : (s.setConfig x).pump = s.pump := rfl
@[simp] theorem setConfig_wear (s : State) (x : Sys2Proof.MachineConfig) : (s.setConfig x).wear = s.wear := rfl
@[simp] theorem setConfig_attention (s : State) (x : Sys2Proof.MachineConfig) : (s.setConfig x).attention = s.attention := rfl

@[simp] theorem setBufA_pending (s : State) (x : Buffer) : (s.setBufA x).pending = s.pending := rfl
@[simp] theorem setBufA_port (s : State) (x : Buffer) : (s.setBufA x).port = s.port := rfl
@[simp] theorem setBufA_config (s : State) (x : Buffer) : (s.setBufA x).config = s.config := rfl
@[simp] theorem setBufA_bufA (s : State) (x : Buffer) : (s.setBufA x).bufA = x := rfl
@[simp] theorem setBufA_bufB (s : State) (x : Buffer) : (s.setBufA x).bufB = s.bufB := rfl
@[simp] theorem setBufA_engine (s : State) (x : Buffer) : (s.setBufA x).engine = s.engine := rfl
@[simp] theorem setBufA_store (s : State) (x : Buffer) : (s.setBufA x).store = s.store := rfl
@[simp] theorem setBufA_freePages (s : State) (x : Buffer) : (s.setBufA x).freePages = s.freePages := rfl
@[simp] theorem setBufA_queue (s : State) (x : Buffer) : (s.setBufA x).queue = s.queue := rfl
@[simp] theorem setBufA_finished (s : State) (x : Buffer) : (s.setBufA x).finished = s.finished := rfl
@[simp] theorem setBufA_materials (s : State) (x : Buffer) : (s.setBufA x).materials = s.materials := rfl
@[simp] theorem setBufA_planner (s : State) (x : Buffer) : (s.setBufA x).planner = s.planner := rfl
@[simp] theorem setBufA_jsq (s : State) (x : Buffer) : (s.setBufA x).jsq = s.jsq := rfl
@[simp] theorem setBufA_stream (s : State) (x : Buffer) : (s.setBufA x).stream = s.stream := rfl
@[simp] theorem setBufA_motion (s : State) (x : Buffer) : (s.setBufA x).motion = s.motion := rfl
@[simp] theorem setBufA_pump (s : State) (x : Buffer) : (s.setBufA x).pump = s.pump := rfl
@[simp] theorem setBufA_wear (s : State) (x : Buffer) : (s.setBufA x).wear = s.wear := rfl
@[simp] theorem setBufA_attention (s : State) (x : Buffer) : (s.setBufA x).attention = s.attention := rfl

@[simp] theorem setBufB_pending (s : State) (x : Buffer) : (s.setBufB x).pending = s.pending := rfl
@[simp] theorem setBufB_port (s : State) (x : Buffer) : (s.setBufB x).port = s.port := rfl
@[simp] theorem setBufB_config (s : State) (x : Buffer) : (s.setBufB x).config = s.config := rfl
@[simp] theorem setBufB_bufA (s : State) (x : Buffer) : (s.setBufB x).bufA = s.bufA := rfl
@[simp] theorem setBufB_bufB (s : State) (x : Buffer) : (s.setBufB x).bufB = x := rfl
@[simp] theorem setBufB_engine (s : State) (x : Buffer) : (s.setBufB x).engine = s.engine := rfl
@[simp] theorem setBufB_store (s : State) (x : Buffer) : (s.setBufB x).store = s.store := rfl
@[simp] theorem setBufB_freePages (s : State) (x : Buffer) : (s.setBufB x).freePages = s.freePages := rfl
@[simp] theorem setBufB_queue (s : State) (x : Buffer) : (s.setBufB x).queue = s.queue := rfl
@[simp] theorem setBufB_finished (s : State) (x : Buffer) : (s.setBufB x).finished = s.finished := rfl
@[simp] theorem setBufB_materials (s : State) (x : Buffer) : (s.setBufB x).materials = s.materials := rfl
@[simp] theorem setBufB_planner (s : State) (x : Buffer) : (s.setBufB x).planner = s.planner := rfl
@[simp] theorem setBufB_jsq (s : State) (x : Buffer) : (s.setBufB x).jsq = s.jsq := rfl
@[simp] theorem setBufB_stream (s : State) (x : Buffer) : (s.setBufB x).stream = s.stream := rfl
@[simp] theorem setBufB_motion (s : State) (x : Buffer) : (s.setBufB x).motion = s.motion := rfl
@[simp] theorem setBufB_pump (s : State) (x : Buffer) : (s.setBufB x).pump = s.pump := rfl
@[simp] theorem setBufB_wear (s : State) (x : Buffer) : (s.setBufB x).wear = s.wear := rfl
@[simp] theorem setBufB_attention (s : State) (x : Buffer) : (s.setBufB x).attention = s.attention := rfl

@[simp] theorem setEngine_pending (s : State) (x : List Commit) : (s.setEngine x).pending = s.pending := rfl
@[simp] theorem setEngine_port (s : State) (x : List Commit) : (s.setEngine x).port = s.port := rfl
@[simp] theorem setEngine_config (s : State) (x : List Commit) : (s.setEngine x).config = s.config := rfl
@[simp] theorem setEngine_bufA (s : State) (x : List Commit) : (s.setEngine x).bufA = s.bufA := rfl
@[simp] theorem setEngine_bufB (s : State) (x : List Commit) : (s.setEngine x).bufB = s.bufB := rfl
@[simp] theorem setEngine_engine (s : State) (x : List Commit) : (s.setEngine x).engine = x := rfl
@[simp] theorem setEngine_store (s : State) (x : List Commit) : (s.setEngine x).store = s.store := rfl
@[simp] theorem setEngine_freePages (s : State) (x : List Commit) : (s.setEngine x).freePages = s.freePages := rfl
@[simp] theorem setEngine_queue (s : State) (x : List Commit) : (s.setEngine x).queue = s.queue := rfl
@[simp] theorem setEngine_finished (s : State) (x : List Commit) : (s.setEngine x).finished = s.finished := rfl
@[simp] theorem setEngine_materials (s : State) (x : List Commit) : (s.setEngine x).materials = s.materials := rfl
@[simp] theorem setEngine_planner (s : State) (x : List Commit) : (s.setEngine x).planner = s.planner := rfl
@[simp] theorem setEngine_jsq (s : State) (x : List Commit) : (s.setEngine x).jsq = s.jsq := rfl
@[simp] theorem setEngine_stream (s : State) (x : List Commit) : (s.setEngine x).stream = s.stream := rfl
@[simp] theorem setEngine_motion (s : State) (x : List Commit) : (s.setEngine x).motion = s.motion := rfl
@[simp] theorem setEngine_pump (s : State) (x : List Commit) : (s.setEngine x).pump = s.pump := rfl
@[simp] theorem setEngine_wear (s : State) (x : List Commit) : (s.setEngine x).wear = s.wear := rfl
@[simp] theorem setEngine_attention (s : State) (x : List Commit) : (s.setEngine x).attention = s.attention := rfl

@[simp] theorem setStore_pending (s : State) (x : Store) : (s.setStore x).pending = s.pending := rfl
@[simp] theorem setStore_port (s : State) (x : Store) : (s.setStore x).port = s.port := rfl
@[simp] theorem setStore_config (s : State) (x : Store) : (s.setStore x).config = s.config := rfl
@[simp] theorem setStore_bufA (s : State) (x : Store) : (s.setStore x).bufA = s.bufA := rfl
@[simp] theorem setStore_bufB (s : State) (x : Store) : (s.setStore x).bufB = s.bufB := rfl
@[simp] theorem setStore_engine (s : State) (x : Store) : (s.setStore x).engine = s.engine := rfl
@[simp] theorem setStore_store (s : State) (x : Store) : (s.setStore x).store = x := rfl
@[simp] theorem setStore_freePages (s : State) (x : Store) : (s.setStore x).freePages = s.freePages := rfl
@[simp] theorem setStore_queue (s : State) (x : Store) : (s.setStore x).queue = s.queue := rfl
@[simp] theorem setStore_finished (s : State) (x : Store) : (s.setStore x).finished = s.finished := rfl
@[simp] theorem setStore_materials (s : State) (x : Store) : (s.setStore x).materials = s.materials := rfl
@[simp] theorem setStore_planner (s : State) (x : Store) : (s.setStore x).planner = s.planner := rfl
@[simp] theorem setStore_jsq (s : State) (x : Store) : (s.setStore x).jsq = s.jsq := rfl
@[simp] theorem setStore_stream (s : State) (x : Store) : (s.setStore x).stream = s.stream := rfl
@[simp] theorem setStore_motion (s : State) (x : Store) : (s.setStore x).motion = s.motion := rfl
@[simp] theorem setStore_pump (s : State) (x : Store) : (s.setStore x).pump = s.pump := rfl
@[simp] theorem setStore_wear (s : State) (x : Store) : (s.setStore x).wear = s.wear := rfl
@[simp] theorem setStore_attention (s : State) (x : Store) : (s.setStore x).attention = s.attention := rfl

@[simp] theorem setFreePages_pending (s : State) (x : List Nat) : (s.setFreePages x).pending = s.pending := rfl
@[simp] theorem setFreePages_port (s : State) (x : List Nat) : (s.setFreePages x).port = s.port := rfl
@[simp] theorem setFreePages_config (s : State) (x : List Nat) : (s.setFreePages x).config = s.config := rfl
@[simp] theorem setFreePages_bufA (s : State) (x : List Nat) : (s.setFreePages x).bufA = s.bufA := rfl
@[simp] theorem setFreePages_bufB (s : State) (x : List Nat) : (s.setFreePages x).bufB = s.bufB := rfl
@[simp] theorem setFreePages_engine (s : State) (x : List Nat) : (s.setFreePages x).engine = s.engine := rfl
@[simp] theorem setFreePages_store (s : State) (x : List Nat) : (s.setFreePages x).store = s.store := rfl
@[simp] theorem setFreePages_freePages (s : State) (x : List Nat) : (s.setFreePages x).freePages = x := rfl
@[simp] theorem setFreePages_queue (s : State) (x : List Nat) : (s.setFreePages x).queue = s.queue := rfl
@[simp] theorem setFreePages_finished (s : State) (x : List Nat) : (s.setFreePages x).finished = s.finished := rfl
@[simp] theorem setFreePages_materials (s : State) (x : List Nat) : (s.setFreePages x).materials = s.materials := rfl
@[simp] theorem setFreePages_planner (s : State) (x : List Nat) : (s.setFreePages x).planner = s.planner := rfl
@[simp] theorem setFreePages_jsq (s : State) (x : List Nat) : (s.setFreePages x).jsq = s.jsq := rfl
@[simp] theorem setFreePages_stream (s : State) (x : List Nat) : (s.setFreePages x).stream = s.stream := rfl
@[simp] theorem setFreePages_motion (s : State) (x : List Nat) : (s.setFreePages x).motion = s.motion := rfl
@[simp] theorem setFreePages_pump (s : State) (x : List Nat) : (s.setFreePages x).pump = s.pump := rfl
@[simp] theorem setFreePages_wear (s : State) (x : List Nat) : (s.setFreePages x).wear = s.wear := rfl
@[simp] theorem setFreePages_attention (s : State) (x : List Nat) : (s.setFreePages x).attention = s.attention := rfl

@[simp] theorem setQueue_pending (s : State) (x : List Entry) : (s.setQueue x).pending = s.pending := rfl
@[simp] theorem setQueue_port (s : State) (x : List Entry) : (s.setQueue x).port = s.port := rfl
@[simp] theorem setQueue_config (s : State) (x : List Entry) : (s.setQueue x).config = s.config := rfl
@[simp] theorem setQueue_bufA (s : State) (x : List Entry) : (s.setQueue x).bufA = s.bufA := rfl
@[simp] theorem setQueue_bufB (s : State) (x : List Entry) : (s.setQueue x).bufB = s.bufB := rfl
@[simp] theorem setQueue_engine (s : State) (x : List Entry) : (s.setQueue x).engine = s.engine := rfl
@[simp] theorem setQueue_store (s : State) (x : List Entry) : (s.setQueue x).store = s.store := rfl
@[simp] theorem setQueue_freePages (s : State) (x : List Entry) : (s.setQueue x).freePages = s.freePages := rfl
@[simp] theorem setQueue_queue (s : State) (x : List Entry) : (s.setQueue x).queue = x := rfl
@[simp] theorem setQueue_finished (s : State) (x : List Entry) : (s.setQueue x).finished = s.finished := rfl
@[simp] theorem setQueue_materials (s : State) (x : List Entry) : (s.setQueue x).materials = s.materials := rfl
@[simp] theorem setQueue_planner (s : State) (x : List Entry) : (s.setQueue x).planner = s.planner := rfl
@[simp] theorem setQueue_jsq (s : State) (x : List Entry) : (s.setQueue x).jsq = s.jsq := rfl
@[simp] theorem setQueue_stream (s : State) (x : List Entry) : (s.setQueue x).stream = s.stream := rfl
@[simp] theorem setQueue_motion (s : State) (x : List Entry) : (s.setQueue x).motion = s.motion := rfl
@[simp] theorem setQueue_pump (s : State) (x : List Entry) : (s.setQueue x).pump = s.pump := rfl
@[simp] theorem setQueue_wear (s : State) (x : List Entry) : (s.setQueue x).wear = s.wear := rfl
@[simp] theorem setQueue_attention (s : State) (x : List Entry) : (s.setQueue x).attention = s.attention := rfl

@[simp] theorem setFinished_pending (s : State) (x : List Finished) : (s.setFinished x).pending = s.pending := rfl
@[simp] theorem setFinished_port (s : State) (x : List Finished) : (s.setFinished x).port = s.port := rfl
@[simp] theorem setFinished_config (s : State) (x : List Finished) : (s.setFinished x).config = s.config := rfl
@[simp] theorem setFinished_bufA (s : State) (x : List Finished) : (s.setFinished x).bufA = s.bufA := rfl
@[simp] theorem setFinished_bufB (s : State) (x : List Finished) : (s.setFinished x).bufB = s.bufB := rfl
@[simp] theorem setFinished_engine (s : State) (x : List Finished) : (s.setFinished x).engine = s.engine := rfl
@[simp] theorem setFinished_store (s : State) (x : List Finished) : (s.setFinished x).store = s.store := rfl
@[simp] theorem setFinished_freePages (s : State) (x : List Finished) : (s.setFinished x).freePages = s.freePages := rfl
@[simp] theorem setFinished_queue (s : State) (x : List Finished) : (s.setFinished x).queue = s.queue := rfl
@[simp] theorem setFinished_finished (s : State) (x : List Finished) : (s.setFinished x).finished = x := rfl
@[simp] theorem setFinished_materials (s : State) (x : List Finished) : (s.setFinished x).materials = s.materials := rfl
@[simp] theorem setFinished_planner (s : State) (x : List Finished) : (s.setFinished x).planner = s.planner := rfl
@[simp] theorem setFinished_jsq (s : State) (x : List Finished) : (s.setFinished x).jsq = s.jsq := rfl
@[simp] theorem setFinished_stream (s : State) (x : List Finished) : (s.setFinished x).stream = s.stream := rfl
@[simp] theorem setFinished_motion (s : State) (x : List Finished) : (s.setFinished x).motion = s.motion := rfl
@[simp] theorem setFinished_pump (s : State) (x : List Finished) : (s.setFinished x).pump = s.pump := rfl
@[simp] theorem setFinished_wear (s : State) (x : List Finished) : (s.setFinished x).wear = s.wear := rfl
@[simp] theorem setFinished_attention (s : State) (x : List Finished) : (s.setFinished x).attention = s.attention := rfl

@[simp] theorem setMaterials_pending (s : State) (x : Vector MaterialRecord 24) : (s.setMaterials x).pending = s.pending := rfl
@[simp] theorem setMaterials_port (s : State) (x : Vector MaterialRecord 24) : (s.setMaterials x).port = s.port := rfl
@[simp] theorem setMaterials_config (s : State) (x : Vector MaterialRecord 24) : (s.setMaterials x).config = s.config := rfl
@[simp] theorem setMaterials_bufA (s : State) (x : Vector MaterialRecord 24) : (s.setMaterials x).bufA = s.bufA := rfl
@[simp] theorem setMaterials_bufB (s : State) (x : Vector MaterialRecord 24) : (s.setMaterials x).bufB = s.bufB := rfl
@[simp] theorem setMaterials_engine (s : State) (x : Vector MaterialRecord 24) : (s.setMaterials x).engine = s.engine := rfl
@[simp] theorem setMaterials_store (s : State) (x : Vector MaterialRecord 24) : (s.setMaterials x).store = s.store := rfl
@[simp] theorem setMaterials_freePages (s : State) (x : Vector MaterialRecord 24) : (s.setMaterials x).freePages = s.freePages := rfl
@[simp] theorem setMaterials_queue (s : State) (x : Vector MaterialRecord 24) : (s.setMaterials x).queue = s.queue := rfl
@[simp] theorem setMaterials_finished (s : State) (x : Vector MaterialRecord 24) : (s.setMaterials x).finished = s.finished := rfl
@[simp] theorem setMaterials_materials (s : State) (x : Vector MaterialRecord 24) : (s.setMaterials x).materials = x := rfl
@[simp] theorem setMaterials_planner (s : State) (x : Vector MaterialRecord 24) : (s.setMaterials x).planner = s.planner := rfl
@[simp] theorem setMaterials_jsq (s : State) (x : Vector MaterialRecord 24) : (s.setMaterials x).jsq = s.jsq := rfl
@[simp] theorem setMaterials_stream (s : State) (x : Vector MaterialRecord 24) : (s.setMaterials x).stream = s.stream := rfl
@[simp] theorem setMaterials_motion (s : State) (x : Vector MaterialRecord 24) : (s.setMaterials x).motion = s.motion := rfl
@[simp] theorem setMaterials_pump (s : State) (x : Vector MaterialRecord 24) : (s.setMaterials x).pump = s.pump := rfl
@[simp] theorem setMaterials_wear (s : State) (x : Vector MaterialRecord 24) : (s.setMaterials x).wear = s.wear := rfl
@[simp] theorem setMaterials_attention (s : State) (x : Vector MaterialRecord 24) : (s.setMaterials x).attention = s.attention := rfl

@[simp] theorem setPlanner_pending (s : State) (x : Planner) : (s.setPlanner x).pending = s.pending := rfl
@[simp] theorem setPlanner_port (s : State) (x : Planner) : (s.setPlanner x).port = s.port := rfl
@[simp] theorem setPlanner_config (s : State) (x : Planner) : (s.setPlanner x).config = s.config := rfl
@[simp] theorem setPlanner_bufA (s : State) (x : Planner) : (s.setPlanner x).bufA = s.bufA := rfl
@[simp] theorem setPlanner_bufB (s : State) (x : Planner) : (s.setPlanner x).bufB = s.bufB := rfl
@[simp] theorem setPlanner_engine (s : State) (x : Planner) : (s.setPlanner x).engine = s.engine := rfl
@[simp] theorem setPlanner_store (s : State) (x : Planner) : (s.setPlanner x).store = s.store := rfl
@[simp] theorem setPlanner_freePages (s : State) (x : Planner) : (s.setPlanner x).freePages = s.freePages := rfl
@[simp] theorem setPlanner_queue (s : State) (x : Planner) : (s.setPlanner x).queue = s.queue := rfl
@[simp] theorem setPlanner_finished (s : State) (x : Planner) : (s.setPlanner x).finished = s.finished := rfl
@[simp] theorem setPlanner_materials (s : State) (x : Planner) : (s.setPlanner x).materials = s.materials := rfl
@[simp] theorem setPlanner_planner (s : State) (x : Planner) : (s.setPlanner x).planner = x := rfl
@[simp] theorem setPlanner_jsq (s : State) (x : Planner) : (s.setPlanner x).jsq = s.jsq := rfl
@[simp] theorem setPlanner_stream (s : State) (x : Planner) : (s.setPlanner x).stream = s.stream := rfl
@[simp] theorem setPlanner_motion (s : State) (x : Planner) : (s.setPlanner x).motion = s.motion := rfl
@[simp] theorem setPlanner_pump (s : State) (x : Planner) : (s.setPlanner x).pump = s.pump := rfl
@[simp] theorem setPlanner_wear (s : State) (x : Planner) : (s.setPlanner x).wear = s.wear := rfl
@[simp] theorem setPlanner_attention (s : State) (x : Planner) : (s.setPlanner x).attention = s.attention := rfl

@[simp] theorem setJsq_pending (s : State) (x : Sequencer) : (s.setJsq x).pending = s.pending := rfl
@[simp] theorem setJsq_port (s : State) (x : Sequencer) : (s.setJsq x).port = s.port := rfl
@[simp] theorem setJsq_config (s : State) (x : Sequencer) : (s.setJsq x).config = s.config := rfl
@[simp] theorem setJsq_bufA (s : State) (x : Sequencer) : (s.setJsq x).bufA = s.bufA := rfl
@[simp] theorem setJsq_bufB (s : State) (x : Sequencer) : (s.setJsq x).bufB = s.bufB := rfl
@[simp] theorem setJsq_engine (s : State) (x : Sequencer) : (s.setJsq x).engine = s.engine := rfl
@[simp] theorem setJsq_store (s : State) (x : Sequencer) : (s.setJsq x).store = s.store := rfl
@[simp] theorem setJsq_freePages (s : State) (x : Sequencer) : (s.setJsq x).freePages = s.freePages := rfl
@[simp] theorem setJsq_queue (s : State) (x : Sequencer) : (s.setJsq x).queue = s.queue := rfl
@[simp] theorem setJsq_finished (s : State) (x : Sequencer) : (s.setJsq x).finished = s.finished := rfl
@[simp] theorem setJsq_materials (s : State) (x : Sequencer) : (s.setJsq x).materials = s.materials := rfl
@[simp] theorem setJsq_planner (s : State) (x : Sequencer) : (s.setJsq x).planner = s.planner := rfl
@[simp] theorem setJsq_jsq (s : State) (x : Sequencer) : (s.setJsq x).jsq = x := rfl
@[simp] theorem setJsq_stream (s : State) (x : Sequencer) : (s.setJsq x).stream = s.stream := rfl
@[simp] theorem setJsq_motion (s : State) (x : Sequencer) : (s.setJsq x).motion = s.motion := rfl
@[simp] theorem setJsq_pump (s : State) (x : Sequencer) : (s.setJsq x).pump = s.pump := rfl
@[simp] theorem setJsq_wear (s : State) (x : Sequencer) : (s.setJsq x).wear = s.wear := rfl
@[simp] theorem setJsq_attention (s : State) (x : Sequencer) : (s.setJsq x).attention = s.attention := rfl

@[simp] theorem setStream_pending (s : State) (x : Stream) : (s.setStream x).pending = s.pending := rfl
@[simp] theorem setStream_port (s : State) (x : Stream) : (s.setStream x).port = s.port := rfl
@[simp] theorem setStream_config (s : State) (x : Stream) : (s.setStream x).config = s.config := rfl
@[simp] theorem setStream_bufA (s : State) (x : Stream) : (s.setStream x).bufA = s.bufA := rfl
@[simp] theorem setStream_bufB (s : State) (x : Stream) : (s.setStream x).bufB = s.bufB := rfl
@[simp] theorem setStream_engine (s : State) (x : Stream) : (s.setStream x).engine = s.engine := rfl
@[simp] theorem setStream_store (s : State) (x : Stream) : (s.setStream x).store = s.store := rfl
@[simp] theorem setStream_freePages (s : State) (x : Stream) : (s.setStream x).freePages = s.freePages := rfl
@[simp] theorem setStream_queue (s : State) (x : Stream) : (s.setStream x).queue = s.queue := rfl
@[simp] theorem setStream_finished (s : State) (x : Stream) : (s.setStream x).finished = s.finished := rfl
@[simp] theorem setStream_materials (s : State) (x : Stream) : (s.setStream x).materials = s.materials := rfl
@[simp] theorem setStream_planner (s : State) (x : Stream) : (s.setStream x).planner = s.planner := rfl
@[simp] theorem setStream_jsq (s : State) (x : Stream) : (s.setStream x).jsq = s.jsq := rfl
@[simp] theorem setStream_stream (s : State) (x : Stream) : (s.setStream x).stream = x := rfl
@[simp] theorem setStream_motion (s : State) (x : Stream) : (s.setStream x).motion = s.motion := rfl
@[simp] theorem setStream_pump (s : State) (x : Stream) : (s.setStream x).pump = s.pump := rfl
@[simp] theorem setStream_wear (s : State) (x : Stream) : (s.setStream x).wear = s.wear := rfl
@[simp] theorem setStream_attention (s : State) (x : Stream) : (s.setStream x).attention = s.attention := rfl

@[simp] theorem setMotion_pending (s : State) (x : MotionPort) : (s.setMotion x).pending = s.pending := rfl
@[simp] theorem setMotion_port (s : State) (x : MotionPort) : (s.setMotion x).port = s.port := rfl
@[simp] theorem setMotion_config (s : State) (x : MotionPort) : (s.setMotion x).config = s.config := rfl
@[simp] theorem setMotion_bufA (s : State) (x : MotionPort) : (s.setMotion x).bufA = s.bufA := rfl
@[simp] theorem setMotion_bufB (s : State) (x : MotionPort) : (s.setMotion x).bufB = s.bufB := rfl
@[simp] theorem setMotion_engine (s : State) (x : MotionPort) : (s.setMotion x).engine = s.engine := rfl
@[simp] theorem setMotion_store (s : State) (x : MotionPort) : (s.setMotion x).store = s.store := rfl
@[simp] theorem setMotion_freePages (s : State) (x : MotionPort) : (s.setMotion x).freePages = s.freePages := rfl
@[simp] theorem setMotion_queue (s : State) (x : MotionPort) : (s.setMotion x).queue = s.queue := rfl
@[simp] theorem setMotion_finished (s : State) (x : MotionPort) : (s.setMotion x).finished = s.finished := rfl
@[simp] theorem setMotion_materials (s : State) (x : MotionPort) : (s.setMotion x).materials = s.materials := rfl
@[simp] theorem setMotion_planner (s : State) (x : MotionPort) : (s.setMotion x).planner = s.planner := rfl
@[simp] theorem setMotion_jsq (s : State) (x : MotionPort) : (s.setMotion x).jsq = s.jsq := rfl
@[simp] theorem setMotion_stream (s : State) (x : MotionPort) : (s.setMotion x).stream = s.stream := rfl
@[simp] theorem setMotion_motion (s : State) (x : MotionPort) : (s.setMotion x).motion = x := rfl
@[simp] theorem setMotion_pump (s : State) (x : MotionPort) : (s.setMotion x).pump = s.pump := rfl
@[simp] theorem setMotion_wear (s : State) (x : MotionPort) : (s.setMotion x).wear = s.wear := rfl
@[simp] theorem setMotion_attention (s : State) (x : MotionPort) : (s.setMotion x).attention = s.attention := rfl

@[simp] theorem setPump_pending (s : State) (x : PumpLink) : (s.setPump x).pending = s.pending := rfl
@[simp] theorem setPump_port (s : State) (x : PumpLink) : (s.setPump x).port = s.port := rfl
@[simp] theorem setPump_config (s : State) (x : PumpLink) : (s.setPump x).config = s.config := rfl
@[simp] theorem setPump_bufA (s : State) (x : PumpLink) : (s.setPump x).bufA = s.bufA := rfl
@[simp] theorem setPump_bufB (s : State) (x : PumpLink) : (s.setPump x).bufB = s.bufB := rfl
@[simp] theorem setPump_engine (s : State) (x : PumpLink) : (s.setPump x).engine = s.engine := rfl
@[simp] theorem setPump_store (s : State) (x : PumpLink) : (s.setPump x).store = s.store := rfl
@[simp] theorem setPump_freePages (s : State) (x : PumpLink) : (s.setPump x).freePages = s.freePages := rfl
@[simp] theorem setPump_queue (s : State) (x : PumpLink) : (s.setPump x).queue = s.queue := rfl
@[simp] theorem setPump_finished (s : State) (x : PumpLink) : (s.setPump x).finished = s.finished := rfl
@[simp] theorem setPump_materials (s : State) (x : PumpLink) : (s.setPump x).materials = s.materials := rfl
@[simp] theorem setPump_planner (s : State) (x : PumpLink) : (s.setPump x).planner = s.planner := rfl
@[simp] theorem setPump_jsq (s : State) (x : PumpLink) : (s.setPump x).jsq = s.jsq := rfl
@[simp] theorem setPump_stream (s : State) (x : PumpLink) : (s.setPump x).stream = s.stream := rfl
@[simp] theorem setPump_motion (s : State) (x : PumpLink) : (s.setPump x).motion = s.motion := rfl
@[simp] theorem setPump_pump (s : State) (x : PumpLink) : (s.setPump x).pump = x := rfl
@[simp] theorem setPump_wear (s : State) (x : PumpLink) : (s.setPump x).wear = s.wear := rfl
@[simp] theorem setPump_attention (s : State) (x : PumpLink) : (s.setPump x).attention = s.attention := rfl

@[simp] theorem setWear_pending (s : State) (x : Wear) : (s.setWear x).pending = s.pending := rfl
@[simp] theorem setWear_port (s : State) (x : Wear) : (s.setWear x).port = s.port := rfl
@[simp] theorem setWear_config (s : State) (x : Wear) : (s.setWear x).config = s.config := rfl
@[simp] theorem setWear_bufA (s : State) (x : Wear) : (s.setWear x).bufA = s.bufA := rfl
@[simp] theorem setWear_bufB (s : State) (x : Wear) : (s.setWear x).bufB = s.bufB := rfl
@[simp] theorem setWear_engine (s : State) (x : Wear) : (s.setWear x).engine = s.engine := rfl
@[simp] theorem setWear_store (s : State) (x : Wear) : (s.setWear x).store = s.store := rfl
@[simp] theorem setWear_freePages (s : State) (x : Wear) : (s.setWear x).freePages = s.freePages := rfl
@[simp] theorem setWear_queue (s : State) (x : Wear) : (s.setWear x).queue = s.queue := rfl
@[simp] theorem setWear_finished (s : State) (x : Wear) : (s.setWear x).finished = s.finished := rfl
@[simp] theorem setWear_materials (s : State) (x : Wear) : (s.setWear x).materials = s.materials := rfl
@[simp] theorem setWear_planner (s : State) (x : Wear) : (s.setWear x).planner = s.planner := rfl
@[simp] theorem setWear_jsq (s : State) (x : Wear) : (s.setWear x).jsq = s.jsq := rfl
@[simp] theorem setWear_stream (s : State) (x : Wear) : (s.setWear x).stream = s.stream := rfl
@[simp] theorem setWear_motion (s : State) (x : Wear) : (s.setWear x).motion = s.motion := rfl
@[simp] theorem setWear_pump (s : State) (x : Wear) : (s.setWear x).pump = s.pump := rfl
@[simp] theorem setWear_wear (s : State) (x : Wear) : (s.setWear x).wear = x := rfl
@[simp] theorem setWear_attention (s : State) (x : Wear) : (s.setWear x).attention = s.attention := rfl

@[simp] theorem setAttention_pending (s : State) (x : Attention) : (s.setAttention x).pending = s.pending := rfl
@[simp] theorem setAttention_port (s : State) (x : Attention) : (s.setAttention x).port = s.port := rfl
@[simp] theorem setAttention_config (s : State) (x : Attention) : (s.setAttention x).config = s.config := rfl
@[simp] theorem setAttention_bufA (s : State) (x : Attention) : (s.setAttention x).bufA = s.bufA := rfl
@[simp] theorem setAttention_bufB (s : State) (x : Attention) : (s.setAttention x).bufB = s.bufB := rfl
@[simp] theorem setAttention_engine (s : State) (x : Attention) : (s.setAttention x).engine = s.engine := rfl
@[simp] theorem setAttention_store (s : State) (x : Attention) : (s.setAttention x).store = s.store := rfl
@[simp] theorem setAttention_freePages (s : State) (x : Attention) : (s.setAttention x).freePages = s.freePages := rfl
@[simp] theorem setAttention_queue (s : State) (x : Attention) : (s.setAttention x).queue = s.queue := rfl
@[simp] theorem setAttention_finished (s : State) (x : Attention) : (s.setAttention x).finished = s.finished := rfl
@[simp] theorem setAttention_materials (s : State) (x : Attention) : (s.setAttention x).materials = s.materials := rfl
@[simp] theorem setAttention_planner (s : State) (x : Attention) : (s.setAttention x).planner = s.planner := rfl
@[simp] theorem setAttention_jsq (s : State) (x : Attention) : (s.setAttention x).jsq = s.jsq := rfl
@[simp] theorem setAttention_stream (s : State) (x : Attention) : (s.setAttention x).stream = s.stream := rfl
@[simp] theorem setAttention_motion (s : State) (x : Attention) : (s.setAttention x).motion = s.motion := rfl
@[simp] theorem setAttention_pump (s : State) (x : Attention) : (s.setAttention x).pump = s.pump := rfl
@[simp] theorem setAttention_wear (s : State) (x : Attention) : (s.setAttention x).wear = s.wear := rfl
@[simp] theorem setAttention_attention (s : State) (x : Attention) : (s.setAttention x).attention = x := rfl

end Sys2Proof.Machine.State
end

