-- ==== Sys2Proof/Laws/Frames.lean ====
section
/-! SUPPORT. What each shared operation leaves unchanged: one simp lemma for each field it cannot touch, so that no later proof
unfolds it to see past it. -/

namespace Sys2Proof.Machine.State

/-- A fold keeps what each of its steps keeps. -/
theorem foldl_keeps {A B : Type} (proj : State → B) (f : State → A → State) (h : ∀ s a, proj (f s a) = proj s) (l : List A)
    (s : State) : proj (l.foldl f s) = proj s := by
  induction l generalizing s with
  | nil => rfl
  | cons a l ih => rw [List.foldl_cons, ih, h]

@[simp] theorem raise_pending (s : State) (src : Source) : (s.raise src).pending = s.pending := by
  simp [raise]
@[simp] theorem raise_port (s : State) (src : Source) : (s.raise src).port = s.port := by
  simp [raise]
@[simp] theorem raise_config (s : State) (src : Source) : (s.raise src).config = s.config := by
  simp [raise]
@[simp] theorem raise_bufA (s : State) (src : Source) : (s.raise src).bufA = s.bufA := by
  simp [raise]
@[simp] theorem raise_bufB (s : State) (src : Source) : (s.raise src).bufB = s.bufB := by
  simp [raise]
@[simp] theorem raise_engine (s : State) (src : Source) : (s.raise src).engine = s.engine := by
  simp [raise]
@[simp] theorem raise_store (s : State) (src : Source) : (s.raise src).store = s.store := by
  simp [raise]
@[simp] theorem raise_freePages (s : State) (src : Source) : (s.raise src).freePages = s.freePages := by
  simp [raise]
@[simp] theorem raise_queue (s : State) (src : Source) : (s.raise src).queue = s.queue := by
  simp [raise]
@[simp] theorem raise_finished (s : State) (src : Source) : (s.raise src).finished = s.finished := by
  simp [raise]
@[simp] theorem raise_materials (s : State) (src : Source) : (s.raise src).materials = s.materials := by
  simp [raise]
@[simp] theorem raise_planner (s : State) (src : Source) : (s.raise src).planner = s.planner := by
  simp [raise]
@[simp] theorem raise_jsq (s : State) (src : Source) : (s.raise src).jsq = s.jsq := by
  simp [raise]
@[simp] theorem raise_stream (s : State) (src : Source) : (s.raise src).stream = s.stream := by
  simp [raise]
@[simp] theorem raise_motion (s : State) (src : Source) : (s.raise src).motion = s.motion := by
  simp [raise]
@[simp] theorem raise_pump (s : State) (src : Source) : (s.raise src).pump = s.pump := by
  simp [raise]
@[simp] theorem raise_wear (s : State) (src : Source) : (s.raise src).wear = s.wear := by
  simp [raise]

@[simp] theorem settle_pending (s : State) : (s.settle).pending = s.pending := by
  simp [settle]
@[simp] theorem settle_port (s : State) : (s.settle).port = s.port := by
  simp [settle]
@[simp] theorem settle_config (s : State) : (s.settle).config = s.config := by
  simp [settle]
@[simp] theorem settle_bufA (s : State) : (s.settle).bufA = s.bufA := by
  simp [settle]
@[simp] theorem settle_bufB (s : State) : (s.settle).bufB = s.bufB := by
  simp [settle]
@[simp] theorem settle_engine (s : State) : (s.settle).engine = s.engine := by
  simp [settle]
@[simp] theorem settle_store (s : State) : (s.settle).store = s.store := by
  simp [settle]
@[simp] theorem settle_freePages (s : State) : (s.settle).freePages = s.freePages := by
  simp [settle]
@[simp] theorem settle_queue (s : State) : (s.settle).queue = s.queue := by
  simp [settle]
@[simp] theorem settle_finished (s : State) : (s.settle).finished = s.finished := by
  simp [settle]
@[simp] theorem settle_materials (s : State) : (s.settle).materials = s.materials := by
  simp [settle]
@[simp] theorem settle_planner (s : State) : (s.settle).planner = s.planner := by
  simp [settle]
@[simp] theorem settle_jsq (s : State) : (s.settle).jsq = s.jsq := by
  simp [settle]
@[simp] theorem settle_stream (s : State) : (s.settle).stream = s.stream := by
  simp [settle]
@[simp] theorem settle_motion (s : State) : (s.settle).motion = s.motion := by
  simp [settle]
@[simp] theorem settle_pump (s : State) : (s.settle).pump = s.pump := by
  simp [settle]
@[simp] theorem settle_wear (s : State) : (s.settle).wear = s.wear := by
  simp [settle]

@[simp] theorem modifyEntry_pending (s : State) (id : Nat) (f : Entry → Entry) : (s.modifyEntry id f).pending = s.pending := by
  simp [modifyEntry]
@[simp] theorem modifyEntry_port (s : State) (id : Nat) (f : Entry → Entry) : (s.modifyEntry id f).port = s.port := by
  simp [modifyEntry]
@[simp] theorem modifyEntry_config (s : State) (id : Nat) (f : Entry → Entry) : (s.modifyEntry id f).config = s.config := by
  simp [modifyEntry]
@[simp] theorem modifyEntry_bufA (s : State) (id : Nat) (f : Entry → Entry) : (s.modifyEntry id f).bufA = s.bufA := by
  simp [modifyEntry]
@[simp] theorem modifyEntry_bufB (s : State) (id : Nat) (f : Entry → Entry) : (s.modifyEntry id f).bufB = s.bufB := by
  simp [modifyEntry]
@[simp] theorem modifyEntry_engine (s : State) (id : Nat) (f : Entry → Entry) : (s.modifyEntry id f).engine = s.engine := by
  simp [modifyEntry]
@[simp] theorem modifyEntry_store (s : State) (id : Nat) (f : Entry → Entry) : (s.modifyEntry id f).store = s.store := by
  simp [modifyEntry]
@[simp] theorem modifyEntry_freePages (s : State) (id : Nat) (f : Entry → Entry) : (s.modifyEntry id f).freePages = s.freePages := by
  simp [modifyEntry]
@[simp] theorem modifyEntry_finished (s : State) (id : Nat) (f : Entry → Entry) : (s.modifyEntry id f).finished = s.finished := by
  simp [modifyEntry]
@[simp] theorem modifyEntry_materials (s : State) (id : Nat) (f : Entry → Entry) : (s.modifyEntry id f).materials = s.materials := by
  simp [modifyEntry]
@[simp] theorem modifyEntry_planner (s : State) (id : Nat) (f : Entry → Entry) : (s.modifyEntry id f).planner = s.planner := by
  simp [modifyEntry]
@[simp] theorem modifyEntry_jsq (s : State) (id : Nat) (f : Entry → Entry) : (s.modifyEntry id f).jsq = s.jsq := by
  simp [modifyEntry]
@[simp] theorem modifyEntry_stream (s : State) (id : Nat) (f : Entry → Entry) : (s.modifyEntry id f).stream = s.stream := by
  simp [modifyEntry]
@[simp] theorem modifyEntry_motion (s : State) (id : Nat) (f : Entry → Entry) : (s.modifyEntry id f).motion = s.motion := by
  simp [modifyEntry]
@[simp] theorem modifyEntry_pump (s : State) (id : Nat) (f : Entry → Entry) : (s.modifyEntry id f).pump = s.pump := by
  simp [modifyEntry]
@[simp] theorem modifyEntry_wear (s : State) (id : Nat) (f : Entry → Entry) : (s.modifyEntry id f).wear = s.wear := by
  simp [modifyEntry]
@[simp] theorem modifyEntry_attention (s : State) (id : Nat) (f : Entry → Entry) : (s.modifyEntry id f).attention = s.attention := by
  simp [modifyEntry]

@[simp] theorem modifyHead_pending (s : State) (f : Entry → Entry) : (s.modifyHead f).pending = s.pending := by
  simp [modifyHead]
@[simp] theorem modifyHead_port (s : State) (f : Entry → Entry) : (s.modifyHead f).port = s.port := by
  simp [modifyHead]
@[simp] theorem modifyHead_config (s : State) (f : Entry → Entry) : (s.modifyHead f).config = s.config := by
  simp [modifyHead]
@[simp] theorem modifyHead_bufA (s : State) (f : Entry → Entry) : (s.modifyHead f).bufA = s.bufA := by
  simp [modifyHead]
@[simp] theorem modifyHead_bufB (s : State) (f : Entry → Entry) : (s.modifyHead f).bufB = s.bufB := by
  simp [modifyHead]
@[simp] theorem modifyHead_engine (s : State) (f : Entry → Entry) : (s.modifyHead f).engine = s.engine := by
  simp [modifyHead]
@[simp] theorem modifyHead_store (s : State) (f : Entry → Entry) : (s.modifyHead f).store = s.store := by
  simp [modifyHead]
@[simp] theorem modifyHead_freePages (s : State) (f : Entry → Entry) : (s.modifyHead f).freePages = s.freePages := by
  simp [modifyHead]
@[simp] theorem modifyHead_finished (s : State) (f : Entry → Entry) : (s.modifyHead f).finished = s.finished := by
  simp [modifyHead]
@[simp] theorem modifyHead_materials (s : State) (f : Entry → Entry) : (s.modifyHead f).materials = s.materials := by
  simp [modifyHead]
@[simp] theorem modifyHead_planner (s : State) (f : Entry → Entry) : (s.modifyHead f).planner = s.planner := by
  simp [modifyHead]
@[simp] theorem modifyHead_jsq (s : State) (f : Entry → Entry) : (s.modifyHead f).jsq = s.jsq := by
  simp [modifyHead]
@[simp] theorem modifyHead_stream (s : State) (f : Entry → Entry) : (s.modifyHead f).stream = s.stream := by
  simp [modifyHead]
@[simp] theorem modifyHead_motion (s : State) (f : Entry → Entry) : (s.modifyHead f).motion = s.motion := by
  simp [modifyHead]
@[simp] theorem modifyHead_pump (s : State) (f : Entry → Entry) : (s.modifyHead f).pump = s.pump := by
  simp [modifyHead]
@[simp] theorem modifyHead_wear (s : State) (f : Entry → Entry) : (s.modifyHead f).wear = s.wear := by
  simp [modifyHead]
@[simp] theorem modifyHead_attention (s : State) (f : Entry → Entry) : (s.modifyHead f).attention = s.attention := by
  simp [modifyHead]

@[simp] theorem issue_pending (s : State) (m : PumpMessage) : (s.issue m).pending = s.pending := by
  simp [issue]
@[simp] theorem issue_port (s : State) (m : PumpMessage) : (s.issue m).port = s.port := by
  simp [issue]
@[simp] theorem issue_config (s : State) (m : PumpMessage) : (s.issue m).config = s.config := by
  simp [issue]
@[simp] theorem issue_bufA (s : State) (m : PumpMessage) : (s.issue m).bufA = s.bufA := by
  simp [issue]
@[simp] theorem issue_bufB (s : State) (m : PumpMessage) : (s.issue m).bufB = s.bufB := by
  simp [issue]
@[simp] theorem issue_engine (s : State) (m : PumpMessage) : (s.issue m).engine = s.engine := by
  simp [issue]
@[simp] theorem issue_store (s : State) (m : PumpMessage) : (s.issue m).store = s.store := by
  simp [issue]
@[simp] theorem issue_freePages (s : State) (m : PumpMessage) : (s.issue m).freePages = s.freePages := by
  simp [issue]
@[simp] theorem issue_queue (s : State) (m : PumpMessage) : (s.issue m).queue = s.queue := by
  simp [issue]
@[simp] theorem issue_finished (s : State) (m : PumpMessage) : (s.issue m).finished = s.finished := by
  simp [issue]
@[simp] theorem issue_materials (s : State) (m : PumpMessage) : (s.issue m).materials = s.materials := by
  simp [issue]
@[simp] theorem issue_planner (s : State) (m : PumpMessage) : (s.issue m).planner = s.planner := by
  simp [issue]
@[simp] theorem issue_jsq (s : State) (m : PumpMessage) : (s.issue m).jsq = s.jsq := by
  simp [issue]
@[simp] theorem issue_stream (s : State) (m : PumpMessage) : (s.issue m).stream = s.stream := by
  simp [issue]
@[simp] theorem issue_motion (s : State) (m : PumpMessage) : (s.issue m).motion = s.motion := by
  simp [issue]
@[simp] theorem issue_wear (s : State) (m : PumpMessage) : (s.issue m).wear = s.wear := by
  simp [issue]
@[simp] theorem issue_attention (s : State) (m : PumpMessage) : (s.issue m).attention = s.attention := by
  simp [issue]

@[simp] theorem jetOn_pending (s : State) (r : Nat) : (s.jetOn r).pending = s.pending := by
  simp [jetOn]
@[simp] theorem jetOn_port (s : State) (r : Nat) : (s.jetOn r).port = s.port := by
  simp [jetOn]
@[simp] theorem jetOn_config (s : State) (r : Nat) : (s.jetOn r).config = s.config := by
  simp [jetOn]
@[simp] theorem jetOn_bufA (s : State) (r : Nat) : (s.jetOn r).bufA = s.bufA := by
  simp [jetOn]
@[simp] theorem jetOn_bufB (s : State) (r : Nat) : (s.jetOn r).bufB = s.bufB := by
  simp [jetOn]
@[simp] theorem jetOn_engine (s : State) (r : Nat) : (s.jetOn r).engine = s.engine := by
  simp [jetOn]
@[simp] theorem jetOn_store (s : State) (r : Nat) : (s.jetOn r).store = s.store := by
  simp [jetOn]
@[simp] theorem jetOn_freePages (s : State) (r : Nat) : (s.jetOn r).freePages = s.freePages := by
  simp [jetOn]
@[simp] theorem jetOn_queue (s : State) (r : Nat) : (s.jetOn r).queue = s.queue := by
  simp [jetOn]
@[simp] theorem jetOn_finished (s : State) (r : Nat) : (s.jetOn r).finished = s.finished := by
  simp [jetOn]
@[simp] theorem jetOn_materials (s : State) (r : Nat) : (s.jetOn r).materials = s.materials := by
  simp [jetOn]
@[simp] theorem jetOn_planner (s : State) (r : Nat) : (s.jetOn r).planner = s.planner := by
  simp [jetOn]
@[simp] theorem jetOn_stream (s : State) (r : Nat) : (s.jetOn r).stream = s.stream := by
  simp [jetOn]
@[simp] theorem jetOn_motion (s : State) (r : Nat) : (s.jetOn r).motion = s.motion := by
  simp [jetOn]
@[simp] theorem jetOn_wear (s : State) (r : Nat) : (s.jetOn r).wear = s.wear := by
  simp [jetOn]
@[simp] theorem jetOn_attention (s : State) (r : Nat) : (s.jetOn r).attention = s.attention := by
  simp [jetOn]

@[simp] theorem jetOff_pending (s : State) : (s.jetOff).pending = s.pending := by
  simp [jetOff]
@[simp] theorem jetOff_port (s : State) : (s.jetOff).port = s.port := by
  simp [jetOff]
@[simp] theorem jetOff_config (s : State) : (s.jetOff).config = s.config := by
  simp [jetOff]
@[simp] theorem jetOff_bufA (s : State) : (s.jetOff).bufA = s.bufA := by
  simp [jetOff]
@[simp] theorem jetOff_bufB (s : State) : (s.jetOff).bufB = s.bufB := by
  simp [jetOff]
@[simp] theorem jetOff_engine (s : State) : (s.jetOff).engine = s.engine := by
  simp [jetOff]
@[simp] theorem jetOff_store (s : State) : (s.jetOff).store = s.store := by
  simp [jetOff]
@[simp] theorem jetOff_freePages (s : State) : (s.jetOff).freePages = s.freePages := by
  simp [jetOff]
@[simp] theorem jetOff_queue (s : State) : (s.jetOff).queue = s.queue := by
  simp [jetOff]
@[simp] theorem jetOff_finished (s : State) : (s.jetOff).finished = s.finished := by
  simp [jetOff]
@[simp] theorem jetOff_materials (s : State) : (s.jetOff).materials = s.materials := by
  simp [jetOff]
@[simp] theorem jetOff_planner (s : State) : (s.jetOff).planner = s.planner := by
  simp [jetOff]
@[simp] theorem jetOff_stream (s : State) : (s.jetOff).stream = s.stream := by
  simp [jetOff]
@[simp] theorem jetOff_motion (s : State) : (s.jetOff).motion = s.motion := by
  simp [jetOff]
@[simp] theorem jetOff_wear (s : State) : (s.jetOff).wear = s.wear := by
  simp [jetOff]
@[simp] theorem jetOff_attention (s : State) : (s.jetOff).attention = s.attention := by
  simp [jetOff]

@[simp] theorem pressureStep_pending (s : State) (p : Nat) : (s.pressureStep p).pending = s.pending := by
  simp [pressureStep]
@[simp] theorem pressureStep_port (s : State) (p : Nat) : (s.pressureStep p).port = s.port := by
  simp [pressureStep]
@[simp] theorem pressureStep_config (s : State) (p : Nat) : (s.pressureStep p).config = s.config := by
  simp [pressureStep]
@[simp] theorem pressureStep_bufA (s : State) (p : Nat) : (s.pressureStep p).bufA = s.bufA := by
  simp [pressureStep]
@[simp] theorem pressureStep_bufB (s : State) (p : Nat) : (s.pressureStep p).bufB = s.bufB := by
  simp [pressureStep]
@[simp] theorem pressureStep_engine (s : State) (p : Nat) : (s.pressureStep p).engine = s.engine := by
  simp [pressureStep]
@[simp] theorem pressureStep_store (s : State) (p : Nat) : (s.pressureStep p).store = s.store := by
  simp [pressureStep]
@[simp] theorem pressureStep_freePages (s : State) (p : Nat) : (s.pressureStep p).freePages = s.freePages := by
  simp [pressureStep]
@[simp] theorem pressureStep_queue (s : State) (p : Nat) : (s.pressureStep p).queue = s.queue := by
  simp [pressureStep]
@[simp] theorem pressureStep_finished (s : State) (p : Nat) : (s.pressureStep p).finished = s.finished := by
  simp [pressureStep]
@[simp] theorem pressureStep_materials (s : State) (p : Nat) : (s.pressureStep p).materials = s.materials := by
  simp [pressureStep]
@[simp] theorem pressureStep_planner (s : State) (p : Nat) : (s.pressureStep p).planner = s.planner := by
  simp [pressureStep]
@[simp] theorem pressureStep_stream (s : State) (p : Nat) : (s.pressureStep p).stream = s.stream := by
  simp [pressureStep]
@[simp] theorem pressureStep_motion (s : State) (p : Nat) : (s.pressureStep p).motion = s.motion := by
  simp [pressureStep]
@[simp] theorem pressureStep_wear (s : State) (p : Nat) : (s.pressureStep p).wear = s.wear := by
  simp [pressureStep]
@[simp] theorem pressureStep_attention (s : State) (p : Nat) : (s.pressureStep p).attention = s.attention := by
  simp [pressureStep]

@[simp] theorem issueIdlePressure_pending (s : State) : (s.issueIdlePressure).pending = s.pending := by
  simp [issueIdlePressure]
@[simp] theorem issueIdlePressure_port (s : State) : (s.issueIdlePressure).port = s.port := by
  simp [issueIdlePressure]
@[simp] theorem issueIdlePressure_config (s : State) : (s.issueIdlePressure).config = s.config := by
  simp [issueIdlePressure]
@[simp] theorem issueIdlePressure_bufA (s : State) : (s.issueIdlePressure).bufA = s.bufA := by
  simp [issueIdlePressure]
@[simp] theorem issueIdlePressure_bufB (s : State) : (s.issueIdlePressure).bufB = s.bufB := by
  simp [issueIdlePressure]
@[simp] theorem issueIdlePressure_engine (s : State) : (s.issueIdlePressure).engine = s.engine := by
  simp [issueIdlePressure]
@[simp] theorem issueIdlePressure_store (s : State) : (s.issueIdlePressure).store = s.store := by
  simp [issueIdlePressure]
@[simp] theorem issueIdlePressure_freePages (s : State) : (s.issueIdlePressure).freePages = s.freePages := by
  simp [issueIdlePressure]
@[simp] theorem issueIdlePressure_queue (s : State) : (s.issueIdlePressure).queue = s.queue := by
  simp [issueIdlePressure]
@[simp] theorem issueIdlePressure_finished (s : State) : (s.issueIdlePressure).finished = s.finished := by
  simp [issueIdlePressure]
@[simp] theorem issueIdlePressure_materials (s : State) : (s.issueIdlePressure).materials = s.materials := by
  simp [issueIdlePressure]
@[simp] theorem issueIdlePressure_planner (s : State) : (s.issueIdlePressure).planner = s.planner := by
  simp [issueIdlePressure]
@[simp] theorem issueIdlePressure_jsq (s : State) : (s.issueIdlePressure).jsq = s.jsq := by
  simp [issueIdlePressure]
@[simp] theorem issueIdlePressure_stream (s : State) : (s.issueIdlePressure).stream = s.stream := by
  simp [issueIdlePressure]
@[simp] theorem issueIdlePressure_motion (s : State) : (s.issueIdlePressure).motion = s.motion := by
  simp [issueIdlePressure]
@[simp] theorem issueIdlePressure_wear (s : State) : (s.issueIdlePressure).wear = s.wear := by
  simp [issueIdlePressure]
@[simp] theorem issueIdlePressure_attention (s : State) : (s.issueIdlePressure).attention = s.attention := by
  simp [issueIdlePressure]

@[simp] theorem leavePhase_pending (s : State) : (s.leavePhase).pending = s.pending := by
  simp [leavePhase]
@[simp] theorem leavePhase_port (s : State) : (s.leavePhase).port = s.port := by
  simp [leavePhase]
@[simp] theorem leavePhase_config (s : State) : (s.leavePhase).config = s.config := by
  simp [leavePhase]
@[simp] theorem leavePhase_bufA (s : State) : (s.leavePhase).bufA = s.bufA := by
  simp [leavePhase]
@[simp] theorem leavePhase_bufB (s : State) : (s.leavePhase).bufB = s.bufB := by
  simp [leavePhase]
@[simp] theorem leavePhase_engine (s : State) : (s.leavePhase).engine = s.engine := by
  simp [leavePhase]
@[simp] theorem leavePhase_store (s : State) : (s.leavePhase).store = s.store := by
  simp [leavePhase]
@[simp] theorem leavePhase_freePages (s : State) : (s.leavePhase).freePages = s.freePages := by
  simp [leavePhase]
@[simp] theorem leavePhase_queue (s : State) : (s.leavePhase).queue = s.queue := by
  simp [leavePhase]
@[simp] theorem leavePhase_finished (s : State) : (s.leavePhase).finished = s.finished := by
  simp [leavePhase]
@[simp] theorem leavePhase_materials (s : State) : (s.leavePhase).materials = s.materials := by
  simp [leavePhase]
@[simp] theorem leavePhase_planner (s : State) : (s.leavePhase).planner = s.planner := by
  simp [leavePhase]
@[simp] theorem leavePhase_stream (s : State) : (s.leavePhase).stream = s.stream := by
  simp [leavePhase]
@[simp] theorem leavePhase_motion (s : State) : (s.leavePhase).motion = s.motion := by
  simp [leavePhase]
@[simp] theorem leavePhase_pump (s : State) : (s.leavePhase).pump = s.pump := by
  simp [leavePhase]
@[simp] theorem leavePhase_wear (s : State) : (s.leavePhase).wear = s.wear := by
  simp [leavePhase]
@[simp] theorem leavePhase_attention (s : State) : (s.leavePhase).attention = s.attention := by
  simp [leavePhase]

@[simp] theorem sequencerIdle_pending (s : State) : (s.sequencerIdle).pending = s.pending := by
  simp [sequencerIdle]
@[simp] theorem sequencerIdle_port (s : State) : (s.sequencerIdle).port = s.port := by
  simp [sequencerIdle]
@[simp] theorem sequencerIdle_config (s : State) : (s.sequencerIdle).config = s.config := by
  simp [sequencerIdle]
@[simp] theorem sequencerIdle_bufA (s : State) : (s.sequencerIdle).bufA = s.bufA := by
  simp [sequencerIdle]
@[simp] theorem sequencerIdle_bufB (s : State) : (s.sequencerIdle).bufB = s.bufB := by
  simp [sequencerIdle]
@[simp] theorem sequencerIdle_engine (s : State) : (s.sequencerIdle).engine = s.engine := by
  simp [sequencerIdle]
@[simp] theorem sequencerIdle_store (s : State) : (s.sequencerIdle).store = s.store := by
  simp [sequencerIdle]
@[simp] theorem sequencerIdle_freePages (s : State) : (s.sequencerIdle).freePages = s.freePages := by
  simp [sequencerIdle]
@[simp] theorem sequencerIdle_queue (s : State) : (s.sequencerIdle).queue = s.queue := by
  simp [sequencerIdle]
@[simp] theorem sequencerIdle_finished (s : State) : (s.sequencerIdle).finished = s.finished := by
  simp [sequencerIdle]
@[simp] theorem sequencerIdle_materials (s : State) : (s.sequencerIdle).materials = s.materials := by
  simp [sequencerIdle]
@[simp] theorem sequencerIdle_planner (s : State) : (s.sequencerIdle).planner = s.planner := by
  simp [sequencerIdle]
@[simp] theorem sequencerIdle_stream (s : State) : (s.sequencerIdle).stream = s.stream := by
  simp [sequencerIdle]
@[simp] theorem sequencerIdle_motion (s : State) : (s.sequencerIdle).motion = s.motion := by
  simp [sequencerIdle]
@[simp] theorem sequencerIdle_pump (s : State) : (s.sequencerIdle).pump = s.pump := by
  simp [sequencerIdle]
@[simp] theorem sequencerIdle_wear (s : State) : (s.sequencerIdle).wear = s.wear := by
  simp [sequencerIdle]
@[simp] theorem sequencerIdle_attention (s : State) : (s.sequencerIdle).attention = s.attention := by
  simp [sequencerIdle]

@[simp] theorem makeDue_pending (s : State) (c : Control) : (s.makeDue c).pending = s.pending := by
  simp [makeDue]
@[simp] theorem makeDue_port (s : State) (c : Control) : (s.makeDue c).port = s.port := by
  simp [makeDue]
@[simp] theorem makeDue_config (s : State) (c : Control) : (s.makeDue c).config = s.config := by
  simp [makeDue]
@[simp] theorem makeDue_bufA (s : State) (c : Control) : (s.makeDue c).bufA = s.bufA := by
  simp [makeDue]
@[simp] theorem makeDue_bufB (s : State) (c : Control) : (s.makeDue c).bufB = s.bufB := by
  simp [makeDue]
@[simp] theorem makeDue_engine (s : State) (c : Control) : (s.makeDue c).engine = s.engine := by
  simp [makeDue]
@[simp] theorem makeDue_store (s : State) (c : Control) : (s.makeDue c).store = s.store := by
  simp [makeDue]
@[simp] theorem makeDue_freePages (s : State) (c : Control) : (s.makeDue c).freePages = s.freePages := by
  simp [makeDue]
@[simp] theorem makeDue_queue (s : State) (c : Control) : (s.makeDue c).queue = s.queue := by
  simp [makeDue]
@[simp] theorem makeDue_finished (s : State) (c : Control) : (s.makeDue c).finished = s.finished := by
  simp [makeDue]
@[simp] theorem makeDue_materials (s : State) (c : Control) : (s.makeDue c).materials = s.materials := by
  simp [makeDue]
@[simp] theorem makeDue_planner (s : State) (c : Control) : (s.makeDue c).planner = s.planner := by
  simp [makeDue]
@[simp] theorem makeDue_jsq (s : State) (c : Control) : (s.makeDue c).jsq = s.jsq := by
  simp [makeDue]
@[simp] theorem makeDue_motion (s : State) (c : Control) : (s.makeDue c).motion = s.motion := by
  simp [makeDue]
@[simp] theorem makeDue_pump (s : State) (c : Control) : (s.makeDue c).pump = s.pump := by
  simp [makeDue]
@[simp] theorem makeDue_wear (s : State) (c : Control) : (s.makeDue c).wear = s.wear := by
  simp [makeDue]
@[simp] theorem makeDue_attention (s : State) (c : Control) : (s.makeDue c).attention = s.attention := by
  simp [makeDue]

@[simp] theorem makeStopDue_pending (s : State) (c : Control) : (s.makeStopDue c).pending = s.pending := by
  simp [makeStopDue]
@[simp] theorem makeStopDue_port (s : State) (c : Control) : (s.makeStopDue c).port = s.port := by
  simp [makeStopDue]
@[simp] theorem makeStopDue_config (s : State) (c : Control) : (s.makeStopDue c).config = s.config := by
  simp [makeStopDue]
@[simp] theorem makeStopDue_bufA (s : State) (c : Control) : (s.makeStopDue c).bufA = s.bufA := by
  simp [makeStopDue]
@[simp] theorem makeStopDue_bufB (s : State) (c : Control) : (s.makeStopDue c).bufB = s.bufB := by
  simp [makeStopDue]
@[simp] theorem makeStopDue_engine (s : State) (c : Control) : (s.makeStopDue c).engine = s.engine := by
  simp [makeStopDue]
@[simp] theorem makeStopDue_store (s : State) (c : Control) : (s.makeStopDue c).store = s.store := by
  simp [makeStopDue]
@[simp] theorem makeStopDue_freePages (s : State) (c : Control) : (s.makeStopDue c).freePages = s.freePages := by
  simp [makeStopDue]
@[simp] theorem makeStopDue_queue (s : State) (c : Control) : (s.makeStopDue c).queue = s.queue := by
  simp [makeStopDue]
@[simp] theorem makeStopDue_finished (s : State) (c : Control) : (s.makeStopDue c).finished = s.finished := by
  simp [makeStopDue]
@[simp] theorem makeStopDue_materials (s : State) (c : Control) : (s.makeStopDue c).materials = s.materials := by
  simp [makeStopDue]
@[simp] theorem makeStopDue_planner (s : State) (c : Control) : (s.makeStopDue c).planner = s.planner := by
  simp [makeStopDue]
@[simp] theorem makeStopDue_jsq (s : State) (c : Control) : (s.makeStopDue c).jsq = s.jsq := by
  simp [makeStopDue]
@[simp] theorem makeStopDue_motion (s : State) (c : Control) : (s.makeStopDue c).motion = s.motion := by
  simp [makeStopDue]
@[simp] theorem makeStopDue_pump (s : State) (c : Control) : (s.makeStopDue c).pump = s.pump := by
  simp [makeStopDue]
@[simp] theorem makeStopDue_wear (s : State) (c : Control) : (s.makeStopDue c).wear = s.wear := by
  simp [makeStopDue]
@[simp] theorem makeStopDue_attention (s : State) (c : Control) : (s.makeStopDue c).attention = s.attention := by
  simp [makeStopDue]

@[simp] theorem endActive_pending (s : State) : (s.endActive).pending = s.pending := by
  simp [endActive]
@[simp] theorem endActive_port (s : State) : (s.endActive).port = s.port := by
  simp [endActive]
@[simp] theorem endActive_config (s : State) : (s.endActive).config = s.config := by
  simp [endActive]
@[simp] theorem endActive_bufA (s : State) : (s.endActive).bufA = s.bufA := by
  simp [endActive]
@[simp] theorem endActive_bufB (s : State) : (s.endActive).bufB = s.bufB := by
  simp [endActive]
@[simp] theorem endActive_engine (s : State) : (s.endActive).engine = s.engine := by
  simp [endActive]
@[simp] theorem endActive_store (s : State) : (s.endActive).store = s.store := by
  simp [endActive]
@[simp] theorem endActive_freePages (s : State) : (s.endActive).freePages = s.freePages := by
  simp [endActive]
@[simp] theorem endActive_queue (s : State) : (s.endActive).queue = s.queue := by
  simp [endActive]
@[simp] theorem endActive_finished (s : State) : (s.endActive).finished = s.finished := by
  simp [endActive]
@[simp] theorem endActive_materials (s : State) : (s.endActive).materials = s.materials := by
  simp [endActive]
@[simp] theorem endActive_planner (s : State) : (s.endActive).planner = s.planner := by
  simp [endActive]
@[simp] theorem endActive_jsq (s : State) : (s.endActive).jsq = s.jsq := by
  simp [endActive]
@[simp] theorem endActive_pump (s : State) : (s.endActive).pump = s.pump := by
  simp [endActive]
@[simp] theorem endActive_wear (s : State) : (s.endActive).wear = s.wear := by
  simp [endActive]
@[simp] theorem endActive_attention (s : State) : (s.endActive).attention = s.attention := by
  simp [endActive]

@[simp] theorem clearWindow_pending (s : State) : (s.clearWindow).pending = s.pending := by
  simp [clearWindow]
@[simp] theorem clearWindow_port (s : State) : (s.clearWindow).port = s.port := by
  simp [clearWindow]
@[simp] theorem clearWindow_config (s : State) : (s.clearWindow).config = s.config := by
  simp [clearWindow]
@[simp] theorem clearWindow_bufA (s : State) : (s.clearWindow).bufA = s.bufA := by
  simp [clearWindow]
@[simp] theorem clearWindow_bufB (s : State) : (s.clearWindow).bufB = s.bufB := by
  simp [clearWindow]
@[simp] theorem clearWindow_engine (s : State) : (s.clearWindow).engine = s.engine := by
  simp [clearWindow]
@[simp] theorem clearWindow_store (s : State) : (s.clearWindow).store = s.store := by
  simp [clearWindow]
@[simp] theorem clearWindow_freePages (s : State) : (s.clearWindow).freePages = s.freePages := by
  simp [clearWindow]
@[simp] theorem clearWindow_queue (s : State) : (s.clearWindow).queue = s.queue := by
  simp [clearWindow]
@[simp] theorem clearWindow_finished (s : State) : (s.clearWindow).finished = s.finished := by
  simp [clearWindow]
@[simp] theorem clearWindow_materials (s : State) : (s.clearWindow).materials = s.materials := by
  simp [clearWindow]
@[simp] theorem clearWindow_planner (s : State) : (s.clearWindow).planner = s.planner := by
  simp [clearWindow]
@[simp] theorem clearWindow_jsq (s : State) : (s.clearWindow).jsq = s.jsq := by
  simp [clearWindow]
@[simp] theorem clearWindow_motion (s : State) : (s.clearWindow).motion = s.motion := by
  simp [clearWindow]
@[simp] theorem clearWindow_pump (s : State) : (s.clearWindow).pump = s.pump := by
  simp [clearWindow]
@[simp] theorem clearWindow_wear (s : State) : (s.clearWindow).wear = s.wear := by
  simp [clearWindow]
@[simp] theorem clearWindow_attention (s : State) : (s.clearWindow).attention = s.attention := by
  simp [clearWindow]

@[simp] theorem holdAtDue_pending (s : State) : (s.holdAtDue).pending = s.pending := by
  unfold holdAtDue; (repeat' split) <;> simp
@[simp] theorem holdAtDue_port (s : State) : (s.holdAtDue).port = s.port := by
  unfold holdAtDue; (repeat' split) <;> simp
@[simp] theorem holdAtDue_config (s : State) : (s.holdAtDue).config = s.config := by
  unfold holdAtDue; (repeat' split) <;> simp
@[simp] theorem holdAtDue_bufA (s : State) : (s.holdAtDue).bufA = s.bufA := by
  unfold holdAtDue; (repeat' split) <;> simp
@[simp] theorem holdAtDue_bufB (s : State) : (s.holdAtDue).bufB = s.bufB := by
  unfold holdAtDue; (repeat' split) <;> simp
@[simp] theorem holdAtDue_engine (s : State) : (s.holdAtDue).engine = s.engine := by
  unfold holdAtDue; (repeat' split) <;> simp
@[simp] theorem holdAtDue_store (s : State) : (s.holdAtDue).store = s.store := by
  unfold holdAtDue; (repeat' split) <;> simp
@[simp] theorem holdAtDue_freePages (s : State) : (s.holdAtDue).freePages = s.freePages := by
  unfold holdAtDue; (repeat' split) <;> simp
@[simp] theorem holdAtDue_queue (s : State) : (s.holdAtDue).queue = s.queue := by
  unfold holdAtDue; (repeat' split) <;> simp
@[simp] theorem holdAtDue_finished (s : State) : (s.holdAtDue).finished = s.finished := by
  unfold holdAtDue; (repeat' split) <;> simp
@[simp] theorem holdAtDue_materials (s : State) : (s.holdAtDue).materials = s.materials := by
  unfold holdAtDue; (repeat' split) <;> simp
@[simp] theorem holdAtDue_planner (s : State) : (s.holdAtDue).planner = s.planner := by
  unfold holdAtDue; (repeat' split) <;> simp
@[simp] theorem holdAtDue_jsq (s : State) : (s.holdAtDue).jsq = s.jsq := by
  unfold holdAtDue; (repeat' split) <;> simp
@[simp] theorem holdAtDue_motion (s : State) : (s.holdAtDue).motion = s.motion := by
  unfold holdAtDue; (repeat' split) <;> simp
@[simp] theorem holdAtDue_pump (s : State) : (s.holdAtDue).pump = s.pump := by
  unfold holdAtDue; (repeat' split) <;> simp
@[simp] theorem holdAtDue_wear (s : State) : (s.holdAtDue).wear = s.wear := by
  unfold holdAtDue; (repeat' split) <;> simp
@[simp] theorem holdAtDue_attention (s : State) : (s.holdAtDue).attention = s.attention := by
  unfold holdAtDue; (repeat' split) <;> simp

@[simp] theorem chooseWork_pending (s : State) : (s.chooseWork).pending = s.pending := by
  unfold chooseWork; split; simp; split <;> simp
@[simp] theorem chooseWork_port (s : State) : (s.chooseWork).port = s.port := by
  unfold chooseWork; split; simp; split <;> simp
@[simp] theorem chooseWork_config (s : State) : (s.chooseWork).config = s.config := by
  unfold chooseWork; split; simp; split <;> simp
@[simp] theorem chooseWork_bufA (s : State) : (s.chooseWork).bufA = s.bufA := by
  unfold chooseWork; split; simp; split <;> simp
@[simp] theorem chooseWork_bufB (s : State) : (s.chooseWork).bufB = s.bufB := by
  unfold chooseWork; split; simp; split <;> simp
@[simp] theorem chooseWork_engine (s : State) : (s.chooseWork).engine = s.engine := by
  unfold chooseWork; split; simp; split <;> simp
@[simp] theorem chooseWork_store (s : State) : (s.chooseWork).store = s.store := by
  unfold chooseWork; split; simp; split <;> simp
@[simp] theorem chooseWork_freePages (s : State) : (s.chooseWork).freePages = s.freePages := by
  unfold chooseWork; split; simp; split <;> simp
@[simp] theorem chooseWork_finished (s : State) : (s.chooseWork).finished = s.finished := by
  unfold chooseWork; split; simp; split <;> simp
@[simp] theorem chooseWork_materials (s : State) : (s.chooseWork).materials = s.materials := by
  unfold chooseWork; split; simp; split <;> simp
@[simp] theorem chooseWork_jsq (s : State) : (s.chooseWork).jsq = s.jsq := by
  unfold chooseWork; split; simp; split <;> simp
@[simp] theorem chooseWork_stream (s : State) : (s.chooseWork).stream = s.stream := by
  unfold chooseWork; split; simp; split <;> simp
@[simp] theorem chooseWork_motion (s : State) : (s.chooseWork).motion = s.motion := by
  unfold chooseWork; split; simp; split <;> simp
@[simp] theorem chooseWork_pump (s : State) : (s.chooseWork).pump = s.pump := by
  unfold chooseWork; split; simp; split <;> simp
@[simp] theorem chooseWork_wear (s : State) : (s.chooseWork).wear = s.wear := by
  unfold chooseWork; split; simp; split <;> simp
@[simp] theorem chooseWork_attention (s : State) : (s.chooseWork).attention = s.attention := by
  unfold chooseWork; split; simp; split <;> simp

@[simp] theorem abandonPlan_pending (s : State) (id : Nat) : (s.abandonPlan id).pending = s.pending := by
  unfold abandonPlan; (repeat' split) <;> simp
@[simp] theorem abandonPlan_port (s : State) (id : Nat) : (s.abandonPlan id).port = s.port := by
  unfold abandonPlan; (repeat' split) <;> simp
@[simp] theorem abandonPlan_config (s : State) (id : Nat) : (s.abandonPlan id).config = s.config := by
  unfold abandonPlan; (repeat' split) <;> simp
@[simp] theorem abandonPlan_bufA (s : State) (id : Nat) : (s.abandonPlan id).bufA = s.bufA := by
  unfold abandonPlan; (repeat' split) <;> simp
@[simp] theorem abandonPlan_bufB (s : State) (id : Nat) : (s.abandonPlan id).bufB = s.bufB := by
  unfold abandonPlan; (repeat' split) <;> simp
@[simp] theorem abandonPlan_engine (s : State) (id : Nat) : (s.abandonPlan id).engine = s.engine := by
  unfold abandonPlan; (repeat' split) <;> simp
@[simp] theorem abandonPlan_store (s : State) (id : Nat) : (s.abandonPlan id).store = s.store := by
  unfold abandonPlan; (repeat' split) <;> simp
@[simp] theorem abandonPlan_freePages (s : State) (id : Nat) : (s.abandonPlan id).freePages = s.freePages := by
  unfold abandonPlan; (repeat' split) <;> simp
@[simp] theorem abandonPlan_queue (s : State) (id : Nat) : (s.abandonPlan id).queue = s.queue := by
  unfold abandonPlan; (repeat' split) <;> simp
@[simp] theorem abandonPlan_finished (s : State) (id : Nat) : (s.abandonPlan id).finished = s.finished := by
  unfold abandonPlan; (repeat' split) <;> simp
@[simp] theorem abandonPlan_materials (s : State) (id : Nat) : (s.abandonPlan id).materials = s.materials := by
  unfold abandonPlan; (repeat' split) <;> simp
@[simp] theorem abandonPlan_jsq (s : State) (id : Nat) : (s.abandonPlan id).jsq = s.jsq := by
  unfold abandonPlan; (repeat' split) <;> simp
@[simp] theorem abandonPlan_stream (s : State) (id : Nat) : (s.abandonPlan id).stream = s.stream := by
  unfold abandonPlan; (repeat' split) <;> simp
@[simp] theorem abandonPlan_motion (s : State) (id : Nat) : (s.abandonPlan id).motion = s.motion := by
  unfold abandonPlan; (repeat' split) <;> simp
@[simp] theorem abandonPlan_pump (s : State) (id : Nat) : (s.abandonPlan id).pump = s.pump := by
  unfold abandonPlan; (repeat' split) <;> simp
@[simp] theorem abandonPlan_wear (s : State) (id : Nat) : (s.abandonPlan id).wear = s.wear := by
  unfold abandonPlan; (repeat' split) <;> simp
@[simp] theorem abandonPlan_attention (s : State) (id : Nat) : (s.abandonPlan id).attention = s.attention := by
  unfold abandonPlan; (repeat' split) <;> simp

@[simp] theorem dropRequest_pending (s : State) : (s.dropRequest).pending = s.pending := by
  unfold dropRequest; split <;> simp
@[simp] theorem dropRequest_port (s : State) : (s.dropRequest).port = s.port := by
  unfold dropRequest; split <;> simp
@[simp] theorem dropRequest_config (s : State) : (s.dropRequest).config = s.config := by
  unfold dropRequest; split <;> simp
@[simp] theorem dropRequest_bufA (s : State) : (s.dropRequest).bufA = s.bufA := by
  unfold dropRequest; split <;> simp
@[simp] theorem dropRequest_bufB (s : State) : (s.dropRequest).bufB = s.bufB := by
  unfold dropRequest; split <;> simp
@[simp] theorem dropRequest_engine (s : State) : (s.dropRequest).engine = s.engine := by
  unfold dropRequest; split <;> simp
@[simp] theorem dropRequest_store (s : State) : (s.dropRequest).store = s.store := by
  unfold dropRequest; split <;> simp
@[simp] theorem dropRequest_freePages (s : State) : (s.dropRequest).freePages = s.freePages := by
  unfold dropRequest; split <;> simp
@[simp] theorem dropRequest_finished (s : State) : (s.dropRequest).finished = s.finished := by
  unfold dropRequest; split <;> simp
@[simp] theorem dropRequest_materials (s : State) : (s.dropRequest).materials = s.materials := by
  unfold dropRequest; split <;> simp
@[simp] theorem dropRequest_jsq (s : State) : (s.dropRequest).jsq = s.jsq := by
  unfold dropRequest; split <;> simp
@[simp] theorem dropRequest_stream (s : State) : (s.dropRequest).stream = s.stream := by
  unfold dropRequest; split <;> simp
@[simp] theorem dropRequest_motion (s : State) : (s.dropRequest).motion = s.motion := by
  unfold dropRequest; split <;> simp
@[simp] theorem dropRequest_pump (s : State) : (s.dropRequest).pump = s.pump := by
  unfold dropRequest; split <;> simp
@[simp] theorem dropRequest_wear (s : State) : (s.dropRequest).wear = s.wear := by
  unfold dropRequest; split <;> simp
@[simp] theorem dropRequest_attention (s : State) : (s.dropRequest).attention = s.attention := by
  unfold dropRequest; split <;> simp

@[simp] theorem startActiveJob_pending (s : State) (k : JobKind) (e : Entry) : (s.startActiveJob k e).pending = s.pending := by
  simp [startActiveJob]
@[simp] theorem startActiveJob_port (s : State) (k : JobKind) (e : Entry) : (s.startActiveJob k e).port = s.port := by
  simp [startActiveJob]
@[simp] theorem startActiveJob_config (s : State) (k : JobKind) (e : Entry) : (s.startActiveJob k e).config = s.config := by
  simp [startActiveJob]
@[simp] theorem startActiveJob_bufA (s : State) (k : JobKind) (e : Entry) : (s.startActiveJob k e).bufA = s.bufA := by
  simp [startActiveJob]
@[simp] theorem startActiveJob_bufB (s : State) (k : JobKind) (e : Entry) : (s.startActiveJob k e).bufB = s.bufB := by
  simp [startActiveJob]
@[simp] theorem startActiveJob_engine (s : State) (k : JobKind) (e : Entry) : (s.startActiveJob k e).engine = s.engine := by
  simp [startActiveJob]
@[simp] theorem startActiveJob_store (s : State) (k : JobKind) (e : Entry) : (s.startActiveJob k e).store = s.store := by
  simp [startActiveJob]
@[simp] theorem startActiveJob_freePages (s : State) (k : JobKind) (e : Entry) : (s.startActiveJob k e).freePages = s.freePages := by
  simp [startActiveJob]
@[simp] theorem startActiveJob_queue (s : State) (k : JobKind) (e : Entry) : (s.startActiveJob k e).queue = s.queue := by
  simp [startActiveJob]
@[simp] theorem startActiveJob_finished (s : State) (k : JobKind) (e : Entry) : (s.startActiveJob k e).finished = s.finished := by
  simp [startActiveJob]
@[simp] theorem startActiveJob_materials (s : State) (k : JobKind) (e : Entry) : (s.startActiveJob k e).materials = s.materials := by
  simp [startActiveJob]
@[simp] theorem startActiveJob_jsq (s : State) (k : JobKind) (e : Entry) : (s.startActiveJob k e).jsq = s.jsq := by
  simp [startActiveJob]
@[simp] theorem startActiveJob_stream (s : State) (k : JobKind) (e : Entry) : (s.startActiveJob k e).stream = s.stream := by
  simp [startActiveJob]
@[simp] theorem startActiveJob_motion (s : State) (k : JobKind) (e : Entry) : (s.startActiveJob k e).motion = s.motion := by
  simp [startActiveJob]
@[simp] theorem startActiveJob_pump (s : State) (k : JobKind) (e : Entry) : (s.startActiveJob k e).pump = s.pump := by
  simp [startActiveJob]
@[simp] theorem startActiveJob_wear (s : State) (k : JobKind) (e : Entry) : (s.startActiveJob k e).wear = s.wear := by
  simp [startActiveJob]
@[simp] theorem startActiveJob_attention (s : State) (k : JobKind) (e : Entry) : (s.startActiveJob k e).attention = s.attention := by
  simp [startActiveJob]

@[simp] theorem takeRequest_pending (s : State) (k : JobKind) : (s.takeRequest k).pending = s.pending := by
  unfold takeRequest; repeat' (first | (simp; done) | split | (simp; split))
@[simp] theorem takeRequest_port (s : State) (k : JobKind) : (s.takeRequest k).port = s.port := by
  unfold takeRequest; repeat' (first | (simp; done) | split | (simp; split))
@[simp] theorem takeRequest_config (s : State) (k : JobKind) : (s.takeRequest k).config = s.config := by
  unfold takeRequest; repeat' (first | (simp; done) | split | (simp; split))
@[simp] theorem takeRequest_bufA (s : State) (k : JobKind) : (s.takeRequest k).bufA = s.bufA := by
  unfold takeRequest; repeat' (first | (simp; done) | split | (simp; split))
@[simp] theorem takeRequest_bufB (s : State) (k : JobKind) : (s.takeRequest k).bufB = s.bufB := by
  unfold takeRequest; repeat' (first | (simp; done) | split | (simp; split))
@[simp] theorem takeRequest_engine (s : State) (k : JobKind) : (s.takeRequest k).engine = s.engine := by
  unfold takeRequest; repeat' (first | (simp; done) | split | (simp; split))
@[simp] theorem takeRequest_store (s : State) (k : JobKind) : (s.takeRequest k).store = s.store := by
  unfold takeRequest; repeat' (first | (simp; done) | split | (simp; split))
@[simp] theorem takeRequest_freePages (s : State) (k : JobKind) : (s.takeRequest k).freePages = s.freePages := by
  unfold takeRequest; repeat' (first | (simp; done) | split | (simp; split))
@[simp] theorem takeRequest_finished (s : State) (k : JobKind) : (s.takeRequest k).finished = s.finished := by
  unfold takeRequest; repeat' (first | (simp; done) | split | (simp; split))
@[simp] theorem takeRequest_materials (s : State) (k : JobKind) : (s.takeRequest k).materials = s.materials := by
  unfold takeRequest; repeat' (first | (simp; done) | split | (simp; split))
@[simp] theorem takeRequest_jsq (s : State) (k : JobKind) : (s.takeRequest k).jsq = s.jsq := by
  unfold takeRequest; repeat' (first | (simp; done) | split | (simp; split))
@[simp] theorem takeRequest_stream (s : State) (k : JobKind) : (s.takeRequest k).stream = s.stream := by
  unfold takeRequest; repeat' (first | (simp; done) | split | (simp; split))
@[simp] theorem takeRequest_motion (s : State) (k : JobKind) : (s.takeRequest k).motion = s.motion := by
  unfold takeRequest; repeat' (first | (simp; done) | split | (simp; split))
@[simp] theorem takeRequest_pump (s : State) (k : JobKind) : (s.takeRequest k).pump = s.pump := by
  unfold takeRequest; repeat' (first | (simp; done) | split | (simp; split))
@[simp] theorem takeRequest_wear (s : State) (k : JobKind) : (s.takeRequest k).wear = s.wear := by
  unfold takeRequest; repeat' (first | (simp; done) | split | (simp; split))
@[simp] theorem takeRequest_attention (s : State) (k : JobKind) : (s.takeRequest k).attention = s.attention := by
  unfold takeRequest; repeat' (first | (simp; done) | split | (simp; split))

@[simp] theorem addFinished_pending (s : State) (f : Finished) : (s.addFinished f).pending = s.pending := by
  simp [addFinished]
@[simp] theorem addFinished_port (s : State) (f : Finished) : (s.addFinished f).port = s.port := by
  simp [addFinished]
@[simp] theorem addFinished_config (s : State) (f : Finished) : (s.addFinished f).config = s.config := by
  simp [addFinished]
@[simp] theorem addFinished_bufA (s : State) (f : Finished) : (s.addFinished f).bufA = s.bufA := by
  simp [addFinished]
@[simp] theorem addFinished_bufB (s : State) (f : Finished) : (s.addFinished f).bufB = s.bufB := by
  simp [addFinished]
@[simp] theorem addFinished_engine (s : State) (f : Finished) : (s.addFinished f).engine = s.engine := by
  simp [addFinished]
@[simp] theorem addFinished_store (s : State) (f : Finished) : (s.addFinished f).store = s.store := by
  simp [addFinished]
@[simp] theorem addFinished_freePages (s : State) (f : Finished) : (s.addFinished f).freePages = s.freePages := by
  simp [addFinished]
@[simp] theorem addFinished_queue (s : State) (f : Finished) : (s.addFinished f).queue = s.queue := by
  simp [addFinished]
@[simp] theorem addFinished_materials (s : State) (f : Finished) : (s.addFinished f).materials = s.materials := by
  simp [addFinished]
@[simp] theorem addFinished_planner (s : State) (f : Finished) : (s.addFinished f).planner = s.planner := by
  simp [addFinished]
@[simp] theorem addFinished_jsq (s : State) (f : Finished) : (s.addFinished f).jsq = s.jsq := by
  simp [addFinished]
@[simp] theorem addFinished_stream (s : State) (f : Finished) : (s.addFinished f).stream = s.stream := by
  simp [addFinished]
@[simp] theorem addFinished_motion (s : State) (f : Finished) : (s.addFinished f).motion = s.motion := by
  simp [addFinished]
@[simp] theorem addFinished_pump (s : State) (f : Finished) : (s.addFinished f).pump = s.pump := by
  simp [addFinished]
@[simp] theorem addFinished_wear (s : State) (f : Finished) : (s.addFinished f).wear = s.wear := by
  simp [addFinished]

@[simp] theorem removeEntry_pending (s : State) (e : Entry) (o : Option Outcome) : (s.removeEntry e o).pending = s.pending := by
  unfold removeEntry; repeat' (first | (simp; done) | split | (simp; split))
@[simp] theorem removeEntry_port (s : State) (e : Entry) (o : Option Outcome) : (s.removeEntry e o).port = s.port := by
  unfold removeEntry; repeat' (first | (simp; done) | split | (simp; split))
@[simp] theorem removeEntry_config (s : State) (e : Entry) (o : Option Outcome) : (s.removeEntry e o).config = s.config := by
  unfold removeEntry; repeat' (first | (simp; done) | split | (simp; split))
@[simp] theorem removeEntry_bufA (s : State) (e : Entry) (o : Option Outcome) : (s.removeEntry e o).bufA = s.bufA := by
  unfold removeEntry; repeat' (first | (simp; done) | split | (simp; split))
@[simp] theorem removeEntry_bufB (s : State) (e : Entry) (o : Option Outcome) : (s.removeEntry e o).bufB = s.bufB := by
  unfold removeEntry; repeat' (first | (simp; done) | split | (simp; split))
@[simp] theorem removeEntry_materials (s : State) (e : Entry) (o : Option Outcome) : (s.removeEntry e o).materials = s.materials := by
  unfold removeEntry; repeat' (first | (simp; done) | split | (simp; split))
@[simp] theorem removeEntry_planner (s : State) (e : Entry) (o : Option Outcome) : (s.removeEntry e o).planner = s.planner := by
  unfold removeEntry; repeat' (first | (simp; done) | split | (simp; split))
@[simp] theorem removeEntry_jsq (s : State) (e : Entry) (o : Option Outcome) : (s.removeEntry e o).jsq = s.jsq := by
  unfold removeEntry; repeat' (first | (simp; done) | split | (simp; split))
@[simp] theorem removeEntry_motion (s : State) (e : Entry) (o : Option Outcome) : (s.removeEntry e o).motion = s.motion := by
  unfold removeEntry; repeat' (first | (simp; done) | split | (simp; split))
@[simp] theorem removeEntry_pump (s : State) (e : Entry) (o : Option Outcome) : (s.removeEntry e o).pump = s.pump := by
  unfold removeEntry; repeat' (first | (simp; done) | split | (simp; split))
@[simp] theorem removeEntry_wear (s : State) (e : Entry) (o : Option Outcome) : (s.removeEntry e o).wear = s.wear := by
  unfold removeEntry; repeat' (first | (simp; done) | split | (simp; split))

@[simp] theorem respond_pending (s : State) (r : Response) : (s.respond r).pending = s.pending := by
  simp [respond]
@[simp] theorem respond_config (s : State) (r : Response) : (s.respond r).config = s.config := by
  simp [respond]
@[simp] theorem respond_bufA (s : State) (r : Response) : (s.respond r).bufA = s.bufA := by
  simp [respond]
@[simp] theorem respond_bufB (s : State) (r : Response) : (s.respond r).bufB = s.bufB := by
  simp [respond]
@[simp] theorem respond_engine (s : State) (r : Response) : (s.respond r).engine = s.engine := by
  simp [respond]
@[simp] theorem respond_store (s : State) (r : Response) : (s.respond r).store = s.store := by
  simp [respond]
@[simp] theorem respond_freePages (s : State) (r : Response) : (s.respond r).freePages = s.freePages := by
  simp [respond]
@[simp] theorem respond_queue (s : State) (r : Response) : (s.respond r).queue = s.queue := by
  simp [respond]
@[simp] theorem respond_finished (s : State) (r : Response) : (s.respond r).finished = s.finished := by
  simp [respond]
@[simp] theorem respond_materials (s : State) (r : Response) : (s.respond r).materials = s.materials := by
  simp [respond]
@[simp] theorem respond_planner (s : State) (r : Response) : (s.respond r).planner = s.planner := by
  simp [respond]
@[simp] theorem respond_jsq (s : State) (r : Response) : (s.respond r).jsq = s.jsq := by
  simp [respond]
@[simp] theorem respond_stream (s : State) (r : Response) : (s.respond r).stream = s.stream := by
  simp [respond]
@[simp] theorem respond_motion (s : State) (r : Response) : (s.respond r).motion = s.motion := by
  simp [respond]
@[simp] theorem respond_pump (s : State) (r : Response) : (s.respond r).pump = s.pump := by
  simp [respond]
@[simp] theorem respond_wear (s : State) (r : Response) : (s.respond r).wear = s.wear := by
  simp [respond]
@[simp] theorem respond_attention (s : State) (r : Response) : (s.respond r).attention = s.attention := by
  simp [respond]

@[simp] theorem becomeHeld_pending (s : State) (c : Cause) (p : Place) : (s.becomeHeld c p).pending = s.pending := by
  unfold becomeHeld; split <;> simp
@[simp] theorem becomeHeld_port (s : State) (c : Cause) (p : Place) : (s.becomeHeld c p).port = s.port := by
  unfold becomeHeld; split <;> simp
@[simp] theorem becomeHeld_config (s : State) (c : Cause) (p : Place) : (s.becomeHeld c p).config = s.config := by
  unfold becomeHeld; split <;> simp
@[simp] theorem becomeHeld_bufA (s : State) (c : Cause) (p : Place) : (s.becomeHeld c p).bufA = s.bufA := by
  unfold becomeHeld; split <;> simp
@[simp] theorem becomeHeld_bufB (s : State) (c : Cause) (p : Place) : (s.becomeHeld c p).bufB = s.bufB := by
  unfold becomeHeld; split <;> simp
@[simp] theorem becomeHeld_engine (s : State) (c : Cause) (p : Place) : (s.becomeHeld c p).engine = s.engine := by
  unfold becomeHeld; split <;> simp
@[simp] theorem becomeHeld_store (s : State) (c : Cause) (p : Place) : (s.becomeHeld c p).store = s.store := by
  unfold becomeHeld; split <;> simp
@[simp] theorem becomeHeld_freePages (s : State) (c : Cause) (p : Place) : (s.becomeHeld c p).freePages = s.freePages := by
  unfold becomeHeld; split <;> simp
@[simp] theorem becomeHeld_finished (s : State) (c : Cause) (p : Place) : (s.becomeHeld c p).finished = s.finished := by
  unfold becomeHeld; split <;> simp
@[simp] theorem becomeHeld_materials (s : State) (c : Cause) (p : Place) : (s.becomeHeld c p).materials = s.materials := by
  unfold becomeHeld; split <;> simp
@[simp] theorem becomeHeld_pump (s : State) (c : Cause) (p : Place) : (s.becomeHeld c p).pump = s.pump := by
  unfold becomeHeld; split <;> simp
@[simp] theorem becomeHeld_wear (s : State) (c : Cause) (p : Place) : (s.becomeHeld c p).wear = s.wear := by
  unfold becomeHeld; split <;> simp

@[simp] theorem restAtOnce_pending (s : State) : (s.restAtOnce).pending = s.pending := by
  simp only [restAtOnce]; split <;> simp
@[simp] theorem restAtOnce_port (s : State) : (s.restAtOnce).port = s.port := by
  simp only [restAtOnce]; split <;> simp
@[simp] theorem restAtOnce_config (s : State) : (s.restAtOnce).config = s.config := by
  simp only [restAtOnce]; split <;> simp
@[simp] theorem restAtOnce_bufA (s : State) : (s.restAtOnce).bufA = s.bufA := by
  simp only [restAtOnce]; split <;> simp
@[simp] theorem restAtOnce_bufB (s : State) : (s.restAtOnce).bufB = s.bufB := by
  simp only [restAtOnce]; split <;> simp
@[simp] theorem restAtOnce_engine (s : State) : (s.restAtOnce).engine = s.engine := by
  simp only [restAtOnce]; split <;> simp
@[simp] theorem restAtOnce_store (s : State) : (s.restAtOnce).store = s.store := by
  simp only [restAtOnce]; split <;> simp
@[simp] theorem restAtOnce_freePages (s : State) : (s.restAtOnce).freePages = s.freePages := by
  simp only [restAtOnce]; split <;> simp
@[simp] theorem restAtOnce_queue (s : State) : (s.restAtOnce).queue = s.queue := by
  simp only [restAtOnce]; split <;> simp
@[simp] theorem restAtOnce_finished (s : State) : (s.restAtOnce).finished = s.finished := by
  simp only [restAtOnce]; split <;> simp
@[simp] theorem restAtOnce_materials (s : State) : (s.restAtOnce).materials = s.materials := by
  simp only [restAtOnce]; split <;> simp
@[simp] theorem restAtOnce_planner (s : State) : (s.restAtOnce).planner = s.planner := by
  simp only [restAtOnce]; split <;> simp
@[simp] theorem restAtOnce_motion (s : State) : (s.restAtOnce).motion = s.motion := by
  simp only [restAtOnce]; split <;> simp
@[simp] theorem restAtOnce_wear (s : State) : (s.restAtOnce).wear = s.wear := by
  simp only [restAtOnce]; split <;> simp
@[simp] theorem restAtOnce_attention (s : State) : (s.restAtOnce).attention = s.attention := by
  simp only [restAtOnce]; split <;> simp

@[simp] theorem immediateHold_pending (s : State) (c : Cause) : (s.immediateHold c).pending = s.pending := by
  unfold immediateHold; split <;> simp
@[simp] theorem immediateHold_port (s : State) (c : Cause) : (s.immediateHold c).port = s.port := by
  unfold immediateHold; split <;> simp
@[simp] theorem immediateHold_config (s : State) (c : Cause) : (s.immediateHold c).config = s.config := by
  unfold immediateHold; split <;> simp
@[simp] theorem immediateHold_bufA (s : State) (c : Cause) : (s.immediateHold c).bufA = s.bufA := by
  unfold immediateHold; split <;> simp
@[simp] theorem immediateHold_bufB (s : State) (c : Cause) : (s.immediateHold c).bufB = s.bufB := by
  unfold immediateHold; split <;> simp
@[simp] theorem immediateHold_engine (s : State) (c : Cause) : (s.immediateHold c).engine = s.engine := by
  unfold immediateHold; split <;> simp
@[simp] theorem immediateHold_store (s : State) (c : Cause) : (s.immediateHold c).store = s.store := by
  unfold immediateHold; split <;> simp
@[simp] theorem immediateHold_freePages (s : State) (c : Cause) : (s.immediateHold c).freePages = s.freePages := by
  unfold immediateHold; split <;> simp
@[simp] theorem immediateHold_finished (s : State) (c : Cause) : (s.immediateHold c).finished = s.finished := by
  unfold immediateHold; split <;> simp
@[simp] theorem immediateHold_materials (s : State) (c : Cause) : (s.immediateHold c).materials = s.materials := by
  unfold immediateHold; split <;> simp
@[simp] theorem immediateHold_wear (s : State) (c : Cause) : (s.immediateHold c).wear = s.wear := by
  unfold immediateHold; split <;> simp

@[simp] theorem startSequence_pending (s : State) (e : Entry) (m : PierceMode) (x y : Nat) : (s.startSequence e m x y).pending = s.pending := by
  simp [startSequence]
@[simp] theorem startSequence_port (s : State) (e : Entry) (m : PierceMode) (x y : Nat) : (s.startSequence e m x y).port = s.port := by
  simp [startSequence]
@[simp] theorem startSequence_config (s : State) (e : Entry) (m : PierceMode) (x y : Nat) : (s.startSequence e m x y).config = s.config := by
  simp [startSequence]
@[simp] theorem startSequence_bufA (s : State) (e : Entry) (m : PierceMode) (x y : Nat) : (s.startSequence e m x y).bufA = s.bufA := by
  simp [startSequence]
@[simp] theorem startSequence_bufB (s : State) (e : Entry) (m : PierceMode) (x y : Nat) : (s.startSequence e m x y).bufB = s.bufB := by
  simp [startSequence]
@[simp] theorem startSequence_engine (s : State) (e : Entry) (m : PierceMode) (x y : Nat) : (s.startSequence e m x y).engine = s.engine := by
  simp [startSequence]
@[simp] theorem startSequence_store (s : State) (e : Entry) (m : PierceMode) (x y : Nat) : (s.startSequence e m x y).store = s.store := by
  simp [startSequence]
@[simp] theorem startSequence_freePages (s : State) (e : Entry) (m : PierceMode) (x y : Nat) : (s.startSequence e m x y).freePages = s.freePages := by
  simp [startSequence]
@[simp] theorem startSequence_queue (s : State) (e : Entry) (m : PierceMode) (x y : Nat) : (s.startSequence e m x y).queue = s.queue := by
  simp [startSequence]
@[simp] theorem startSequence_finished (s : State) (e : Entry) (m : PierceMode) (x y : Nat) : (s.startSequence e m x y).finished = s.finished := by
  simp [startSequence]
@[simp] theorem startSequence_materials (s : State) (e : Entry) (m : PierceMode) (x y : Nat) : (s.startSequence e m x y).materials = s.materials := by
  simp [startSequence]
@[simp] theorem startSequence_planner (s : State) (e : Entry) (m : PierceMode) (x y : Nat) : (s.startSequence e m x y).planner = s.planner := by
  simp [startSequence]
@[simp] theorem startSequence_motion (s : State) (e : Entry) (m : PierceMode) (x y : Nat) : (s.startSequence e m x y).motion = s.motion := by
  simp [startSequence]
@[simp] theorem startSequence_wear (s : State) (e : Entry) (m : PierceMode) (x y : Nat) : (s.startSequence e m x y).wear = s.wear := by
  simp [startSequence]
@[simp] theorem startSequence_attention (s : State) (e : Entry) (m : PierceMode) (x y : Nat) : (s.startSequence e m x y).attention = s.attention := by
  simp [startSequence]

@[simp] theorem startStream_pending (s : State) (p : Place) : (s.startStream p).pending = s.pending := by
  simp [startStream]
@[simp] theorem startStream_port (s : State) (p : Place) : (s.startStream p).port = s.port := by
  simp [startStream]
@[simp] theorem startStream_config (s : State) (p : Place) : (s.startStream p).config = s.config := by
  simp [startStream]
@[simp] theorem startStream_bufA (s : State) (p : Place) : (s.startStream p).bufA = s.bufA := by
  simp [startStream]
@[simp] theorem startStream_bufB (s : State) (p : Place) : (s.startStream p).bufB = s.bufB := by
  simp [startStream]
@[simp] theorem startStream_engine (s : State) (p : Place) : (s.startStream p).engine = s.engine := by
  simp [startStream]
@[simp] theorem startStream_store (s : State) (p : Place) : (s.startStream p).store = s.store := by
  simp [startStream]
@[simp] theorem startStream_freePages (s : State) (p : Place) : (s.startStream p).freePages = s.freePages := by
  simp [startStream]
@[simp] theorem startStream_queue (s : State) (p : Place) : (s.startStream p).queue = s.queue := by
  simp [startStream]
@[simp] theorem startStream_finished (s : State) (p : Place) : (s.startStream p).finished = s.finished := by
  simp [startStream]
@[simp] theorem startStream_materials (s : State) (p : Place) : (s.startStream p).materials = s.materials := by
  simp [startStream]
@[simp] theorem startStream_planner (s : State) (p : Place) : (s.startStream p).planner = s.planner := by
  simp [startStream]
@[simp] theorem startStream_jsq (s : State) (p : Place) : (s.startStream p).jsq = s.jsq := by
  simp [startStream]
@[simp] theorem startStream_motion (s : State) (p : Place) : (s.startStream p).motion = s.motion := by
  simp [startStream]
@[simp] theorem startStream_pump (s : State) (p : Place) : (s.startStream p).pump = s.pump := by
  simp [startStream]
@[simp] theorem startStream_wear (s : State) (p : Place) : (s.startStream p).wear = s.wear := by
  simp [startStream]
@[simp] theorem startStream_attention (s : State) (p : Place) : (s.startStream p).attention = s.attention := by
  simp [startStream]

@[simp] theorem pumpSilenceAtStart_pending (s : State) : (s.pumpSilenceAtStart).pending = s.pending := by
  unfold pumpSilenceAtStart; split <;> simp
@[simp] theorem pumpSilenceAtStart_port (s : State) : (s.pumpSilenceAtStart).port = s.port := by
  unfold pumpSilenceAtStart; split <;> simp
@[simp] theorem pumpSilenceAtStart_config (s : State) : (s.pumpSilenceAtStart).config = s.config := by
  unfold pumpSilenceAtStart; split <;> simp
@[simp] theorem pumpSilenceAtStart_bufA (s : State) : (s.pumpSilenceAtStart).bufA = s.bufA := by
  unfold pumpSilenceAtStart; split <;> simp
@[simp] theorem pumpSilenceAtStart_bufB (s : State) : (s.pumpSilenceAtStart).bufB = s.bufB := by
  unfold pumpSilenceAtStart; split <;> simp
@[simp] theorem pumpSilenceAtStart_engine (s : State) : (s.pumpSilenceAtStart).engine = s.engine := by
  unfold pumpSilenceAtStart; split <;> simp
@[simp] theorem pumpSilenceAtStart_store (s : State) : (s.pumpSilenceAtStart).store = s.store := by
  unfold pumpSilenceAtStart; split <;> simp
@[simp] theorem pumpSilenceAtStart_freePages (s : State) : (s.pumpSilenceAtStart).freePages = s.freePages := by
  unfold pumpSilenceAtStart; split <;> simp
@[simp] theorem pumpSilenceAtStart_finished (s : State) : (s.pumpSilenceAtStart).finished = s.finished := by
  unfold pumpSilenceAtStart; split <;> simp
@[simp] theorem pumpSilenceAtStart_materials (s : State) : (s.pumpSilenceAtStart).materials = s.materials := by
  unfold pumpSilenceAtStart; split <;> simp
@[simp] theorem pumpSilenceAtStart_wear (s : State) : (s.pumpSilenceAtStart).wear = s.wear := by
  unfold pumpSilenceAtStart; split <;> simp

@[simp] theorem silenceAtStart_pending (s : State) : (s.silenceAtStart).pending = s.pending := by
  unfold silenceAtStart; split <;> simp
@[simp] theorem silenceAtStart_port (s : State) : (s.silenceAtStart).port = s.port := by
  unfold silenceAtStart; split <;> simp
@[simp] theorem silenceAtStart_config (s : State) : (s.silenceAtStart).config = s.config := by
  unfold silenceAtStart; split <;> simp
@[simp] theorem silenceAtStart_bufA (s : State) : (s.silenceAtStart).bufA = s.bufA := by
  unfold silenceAtStart; split <;> simp
@[simp] theorem silenceAtStart_bufB (s : State) : (s.silenceAtStart).bufB = s.bufB := by
  unfold silenceAtStart; split <;> simp
@[simp] theorem silenceAtStart_engine (s : State) : (s.silenceAtStart).engine = s.engine := by
  unfold silenceAtStart; split <;> simp
@[simp] theorem silenceAtStart_store (s : State) : (s.silenceAtStart).store = s.store := by
  unfold silenceAtStart; split <;> simp
@[simp] theorem silenceAtStart_freePages (s : State) : (s.silenceAtStart).freePages = s.freePages := by
  unfold silenceAtStart; split <;> simp
@[simp] theorem silenceAtStart_finished (s : State) : (s.silenceAtStart).finished = s.finished := by
  unfold silenceAtStart; split <;> simp
@[simp] theorem silenceAtStart_materials (s : State) : (s.silenceAtStart).materials = s.materials := by
  unfold silenceAtStart; split <;> simp
@[simp] theorem silenceAtStart_wear (s : State) : (s.silenceAtStart).wear = s.wear := by
  unfold silenceAtStart; split <;> simp

@[simp] theorem activate_pending (s : State) (e : Entry) : (s.activate e).pending = s.pending := by
  simp only [activate]; split <;> simp
@[simp] theorem activate_port (s : State) (e : Entry) : (s.activate e).port = s.port := by
  simp only [activate]; split <;> simp
@[simp] theorem activate_config (s : State) (e : Entry) : (s.activate e).config = s.config := by
  simp only [activate]; split <;> simp
@[simp] theorem activate_bufA (s : State) (e : Entry) : (s.activate e).bufA = s.bufA := by
  simp only [activate]; split <;> simp
@[simp] theorem activate_bufB (s : State) (e : Entry) : (s.activate e).bufB = s.bufB := by
  simp only [activate]; split <;> simp
@[simp] theorem activate_engine (s : State) (e : Entry) : (s.activate e).engine = s.engine := by
  simp only [activate]; split <;> simp
@[simp] theorem activate_store (s : State) (e : Entry) : (s.activate e).store = s.store := by
  simp only [activate]; split <;> simp
@[simp] theorem activate_freePages (s : State) (e : Entry) : (s.activate e).freePages = s.freePages := by
  simp only [activate]; split <;> simp
@[simp] theorem activate_finished (s : State) (e : Entry) : (s.activate e).finished = s.finished := by
  simp only [activate]; split <;> simp
@[simp] theorem activate_materials (s : State) (e : Entry) : (s.activate e).materials = s.materials := by
  simp only [activate]; split <;> simp
@[simp] theorem activate_wear (s : State) (e : Entry) : (s.activate e).wear = s.wear := by
  simp only [activate]; split <;> simp

@[simp] theorem tryActivate_pending (s : State) : (s.tryActivate).pending = s.pending := by
  unfold tryActivate; (repeat' split) <;> simp
@[simp] theorem tryActivate_port (s : State) : (s.tryActivate).port = s.port := by
  unfold tryActivate; (repeat' split) <;> simp
@[simp] theorem tryActivate_config (s : State) : (s.tryActivate).config = s.config := by
  unfold tryActivate; (repeat' split) <;> simp
@[simp] theorem tryActivate_bufA (s : State) : (s.tryActivate).bufA = s.bufA := by
  unfold tryActivate; (repeat' split) <;> simp
@[simp] theorem tryActivate_bufB (s : State) : (s.tryActivate).bufB = s.bufB := by
  unfold tryActivate; (repeat' split) <;> simp
@[simp] theorem tryActivate_engine (s : State) : (s.tryActivate).engine = s.engine := by
  unfold tryActivate; (repeat' split) <;> simp
@[simp] theorem tryActivate_store (s : State) : (s.tryActivate).store = s.store := by
  unfold tryActivate; (repeat' split) <;> simp
@[simp] theorem tryActivate_freePages (s : State) : (s.tryActivate).freePages = s.freePages := by
  unfold tryActivate; (repeat' split) <;> simp
@[simp] theorem tryActivate_finished (s : State) : (s.tryActivate).finished = s.finished := by
  unfold tryActivate; (repeat' split) <;> simp
@[simp] theorem tryActivate_materials (s : State) : (s.tryActivate).materials = s.materials := by
  unfold tryActivate; (repeat' split) <;> simp
@[simp] theorem tryActivate_wear (s : State) : (s.tryActivate).wear = s.wear := by
  unfold tryActivate; (repeat' split) <;> simp

@[simp] theorem activateNewHead_pending (s : State) (old : State) : (activateNewHead old s).pending = s.pending := by
  unfold activateNewHead; split <;> simp
@[simp] theorem activateNewHead_port (s : State) (old : State) : (activateNewHead old s).port = s.port := by
  unfold activateNewHead; split <;> simp
@[simp] theorem activateNewHead_config (s : State) (old : State) : (activateNewHead old s).config = s.config := by
  unfold activateNewHead; split <;> simp
@[simp] theorem activateNewHead_bufA (s : State) (old : State) : (activateNewHead old s).bufA = s.bufA := by
  unfold activateNewHead; split <;> simp
@[simp] theorem activateNewHead_bufB (s : State) (old : State) : (activateNewHead old s).bufB = s.bufB := by
  unfold activateNewHead; split <;> simp
@[simp] theorem activateNewHead_engine (s : State) (old : State) : (activateNewHead old s).engine = s.engine := by
  unfold activateNewHead; split <;> simp
@[simp] theorem activateNewHead_store (s : State) (old : State) : (activateNewHead old s).store = s.store := by
  unfold activateNewHead; split <;> simp
@[simp] theorem activateNewHead_freePages (s : State) (old : State) : (activateNewHead old s).freePages = s.freePages := by
  unfold activateNewHead; split <;> simp
@[simp] theorem activateNewHead_finished (s : State) (old : State) : (activateNewHead old s).finished = s.finished := by
  unfold activateNewHead; split <;> simp
@[simp] theorem activateNewHead_materials (s : State) (old : State) : (activateNewHead old s).materials = s.materials := by
  unfold activateNewHead; split <;> simp
@[simp] theorem activateNewHead_wear (s : State) (old : State) : (activateNewHead old s).wear = s.wear := by
  unfold activateNewHead; split <;> simp

@[simp] theorem runOn_pending (s : State) : (s.runOn).pending = s.pending := by
  unfold runOn; split <;> simp
@[simp] theorem runOn_port (s : State) : (s.runOn).port = s.port := by
  unfold runOn; split <;> simp
@[simp] theorem runOn_config (s : State) : (s.runOn).config = s.config := by
  unfold runOn; split <;> simp
@[simp] theorem runOn_bufA (s : State) : (s.runOn).bufA = s.bufA := by
  unfold runOn; split <;> simp
@[simp] theorem runOn_bufB (s : State) : (s.runOn).bufB = s.bufB := by
  unfold runOn; split <;> simp
@[simp] theorem runOn_engine (s : State) : (s.runOn).engine = s.engine := by
  unfold runOn; split <;> simp
@[simp] theorem runOn_store (s : State) : (s.runOn).store = s.store := by
  unfold runOn; split <;> simp
@[simp] theorem runOn_freePages (s : State) : (s.runOn).freePages = s.freePages := by
  unfold runOn; split <;> simp
@[simp] theorem runOn_finished (s : State) : (s.runOn).finished = s.finished := by
  unfold runOn; split <;> simp
@[simp] theorem runOn_materials (s : State) : (s.runOn).materials = s.materials := by
  unfold runOn; split <;> simp
@[simp] theorem runOn_wear (s : State) : (s.runOn).wear = s.wear := by
  unfold runOn; split <;> simp

@[simp] theorem skipHead_pending (s : State) : (s.skipHead).pending = s.pending := by
  unfold skipHead; split; simp; split <;> simp
@[simp] theorem skipHead_port (s : State) : (s.skipHead).port = s.port := by
  unfold skipHead; split; simp; split <;> simp
@[simp] theorem skipHead_config (s : State) : (s.skipHead).config = s.config := by
  unfold skipHead; split; simp; split <;> simp
@[simp] theorem skipHead_bufA (s : State) : (s.skipHead).bufA = s.bufA := by
  unfold skipHead; split; simp; split <;> simp
@[simp] theorem skipHead_bufB (s : State) : (s.skipHead).bufB = s.bufB := by
  unfold skipHead; split; simp; split <;> simp
@[simp] theorem skipHead_materials (s : State) : (s.skipHead).materials = s.materials := by
  unfold skipHead; split; simp; split <;> simp
@[simp] theorem skipHead_wear (s : State) : (s.skipHead).wear = s.wear := by
  unfold skipHead; split; simp; split <;> simp

@[simp] theorem immediateRest_pending (s : State) (c : Cause) (e : Ending) : (s.immediateRest c e).pending = s.pending := by
  unfold immediateRest; split; simp; split <;> simp
@[simp] theorem immediateRest_port (s : State) (c : Cause) (e : Ending) : (s.immediateRest c e).port = s.port := by
  unfold immediateRest; split; simp; split <;> simp
@[simp] theorem immediateRest_config (s : State) (c : Cause) (e : Ending) : (s.immediateRest c e).config = s.config := by
  unfold immediateRest; split; simp; split <;> simp
@[simp] theorem immediateRest_bufA (s : State) (c : Cause) (e : Ending) : (s.immediateRest c e).bufA = s.bufA := by
  unfold immediateRest; split; simp; split <;> simp
@[simp] theorem immediateRest_bufB (s : State) (c : Cause) (e : Ending) : (s.immediateRest c e).bufB = s.bufB := by
  unfold immediateRest; split; simp; split <;> simp
@[simp] theorem immediateRest_materials (s : State) (c : Cause) (e : Ending) : (s.immediateRest c e).materials = s.materials := by
  unfold immediateRest; split; simp; split <;> simp
@[simp] theorem immediateRest_wear (s : State) (c : Cause) (e : Ending) : (s.immediateRest c e).wear = s.wear := by
  unfold immediateRest; split; simp; split <;> simp

@[simp] theorem finish_pending (s : State) : (s.finish).pending = s.pending := by
  unfold finish; split <;> simp
@[simp] theorem finish_port (s : State) : (s.finish).port = s.port := by
  unfold finish; split <;> simp
@[simp] theorem finish_config (s : State) : (s.finish).config = s.config := by
  unfold finish; split <;> simp
@[simp] theorem finish_bufA (s : State) : (s.finish).bufA = s.bufA := by
  unfold finish; split <;> simp
@[simp] theorem finish_bufB (s : State) : (s.finish).bufB = s.bufB := by
  unfold finish; split <;> simp
@[simp] theorem finish_materials (s : State) : (s.finish).materials = s.materials := by
  unfold finish; split <;> simp
@[simp] theorem finish_pump (s : State) : (s.finish).pump = s.pump := by
  unfold finish; split <;> simp
@[simp] theorem finish_wear (s : State) : (s.finish).wear = s.wear := by
  unfold finish; split <;> simp

@[simp] theorem restAtDone_pending (s : State) (c : Cause) (e : Ending) : (s.restAtDone c e).pending = s.pending := by
  unfold restAtDone; repeat' (first | (simp; done) | split | (simp; split))
@[simp] theorem restAtDone_port (s : State) (c : Cause) (e : Ending) : (s.restAtDone c e).port = s.port := by
  unfold restAtDone; repeat' (first | (simp; done) | split | (simp; split))
@[simp] theorem restAtDone_config (s : State) (c : Cause) (e : Ending) : (s.restAtDone c e).config = s.config := by
  unfold restAtDone; repeat' (first | (simp; done) | split | (simp; split))
@[simp] theorem restAtDone_bufA (s : State) (c : Cause) (e : Ending) : (s.restAtDone c e).bufA = s.bufA := by
  unfold restAtDone; repeat' (first | (simp; done) | split | (simp; split))
@[simp] theorem restAtDone_bufB (s : State) (c : Cause) (e : Ending) : (s.restAtDone c e).bufB = s.bufB := by
  unfold restAtDone; repeat' (first | (simp; done) | split | (simp; split))
@[simp] theorem restAtDone_materials (s : State) (c : Cause) (e : Ending) : (s.restAtDone c e).materials = s.materials := by
  unfold restAtDone; repeat' (first | (simp; done) | split | (simp; split))
@[simp] theorem restAtDone_wear (s : State) (c : Cause) (e : Ending) : (s.restAtDone c e).wear = s.wear := by
  unfold restAtDone; repeat' (first | (simp; done) | split | (simp; split))

@[simp] theorem judgeLevel_pending (s : State) : (s.judgeLevel).pending = s.pending := by
  unfold judgeLevel; split <;> simp
@[simp] theorem judgeLevel_port (s : State) : (s.judgeLevel).port = s.port := by
  unfold judgeLevel; split <;> simp
@[simp] theorem judgeLevel_config (s : State) : (s.judgeLevel).config = s.config := by
  unfold judgeLevel; split <;> simp
@[simp] theorem judgeLevel_bufA (s : State) : (s.judgeLevel).bufA = s.bufA := by
  unfold judgeLevel; split <;> simp
@[simp] theorem judgeLevel_bufB (s : State) : (s.judgeLevel).bufB = s.bufB := by
  unfold judgeLevel; split <;> simp
@[simp] theorem judgeLevel_engine (s : State) : (s.judgeLevel).engine = s.engine := by
  unfold judgeLevel; split <;> simp
@[simp] theorem judgeLevel_store (s : State) : (s.judgeLevel).store = s.store := by
  unfold judgeLevel; split <;> simp
@[simp] theorem judgeLevel_freePages (s : State) : (s.judgeLevel).freePages = s.freePages := by
  unfold judgeLevel; split <;> simp
@[simp] theorem judgeLevel_queue (s : State) : (s.judgeLevel).queue = s.queue := by
  unfold judgeLevel; split <;> simp
@[simp] theorem judgeLevel_finished (s : State) : (s.judgeLevel).finished = s.finished := by
  unfold judgeLevel; split <;> simp
@[simp] theorem judgeLevel_materials (s : State) : (s.judgeLevel).materials = s.materials := by
  unfold judgeLevel; split <;> simp
@[simp] theorem judgeLevel_planner (s : State) : (s.judgeLevel).planner = s.planner := by
  unfold judgeLevel; split <;> simp
@[simp] theorem judgeLevel_jsq (s : State) : (s.judgeLevel).jsq = s.jsq := by
  unfold judgeLevel; split <;> simp
@[simp] theorem judgeLevel_stream (s : State) : (s.judgeLevel).stream = s.stream := by
  unfold judgeLevel; split <;> simp
@[simp] theorem judgeLevel_motion (s : State) : (s.judgeLevel).motion = s.motion := by
  unfold judgeLevel; split <;> simp
@[simp] theorem judgeLevel_pump (s : State) : (s.judgeLevel).pump = s.pump := by
  unfold judgeLevel; split <;> simp

@[simp] theorem judgeWear_pending (s : State) : (s.judgeWear).pending = s.pending := by
  simp only [judgeWear]; split <;> simp
@[simp] theorem judgeWear_port (s : State) : (s.judgeWear).port = s.port := by
  simp only [judgeWear]; split <;> simp
@[simp] theorem judgeWear_config (s : State) : (s.judgeWear).config = s.config := by
  simp only [judgeWear]; split <;> simp
@[simp] theorem judgeWear_bufA (s : State) : (s.judgeWear).bufA = s.bufA := by
  simp only [judgeWear]; split <;> simp
@[simp] theorem judgeWear_bufB (s : State) : (s.judgeWear).bufB = s.bufB := by
  simp only [judgeWear]; split <;> simp
@[simp] theorem judgeWear_engine (s : State) : (s.judgeWear).engine = s.engine := by
  simp only [judgeWear]; split <;> simp
@[simp] theorem judgeWear_store (s : State) : (s.judgeWear).store = s.store := by
  simp only [judgeWear]; split <;> simp
@[simp] theorem judgeWear_freePages (s : State) : (s.judgeWear).freePages = s.freePages := by
  simp only [judgeWear]; split <;> simp
@[simp] theorem judgeWear_queue (s : State) : (s.judgeWear).queue = s.queue := by
  simp only [judgeWear]; split <;> simp
@[simp] theorem judgeWear_finished (s : State) : (s.judgeWear).finished = s.finished := by
  simp only [judgeWear]; split <;> simp
@[simp] theorem judgeWear_materials (s : State) : (s.judgeWear).materials = s.materials := by
  simp only [judgeWear]; split <;> simp
@[simp] theorem judgeWear_planner (s : State) : (s.judgeWear).planner = s.planner := by
  simp only [judgeWear]; split <;> simp
@[simp] theorem judgeWear_jsq (s : State) : (s.judgeWear).jsq = s.jsq := by
  simp only [judgeWear]; split <;> simp
@[simp] theorem judgeWear_stream (s : State) : (s.judgeWear).stream = s.stream := by
  simp only [judgeWear]; split <;> simp
@[simp] theorem judgeWear_motion (s : State) : (s.judgeWear).motion = s.motion := by
  simp only [judgeWear]; split <;> simp
@[simp] theorem judgeWear_pump (s : State) : (s.judgeWear).pump = s.pump := by
  simp only [judgeWear]; split <;> simp

@[simp] theorem countWear_pending (s : State) (f : Counter → Counter) : (s.countWear f).pending = s.pending := by
  simp [countWear]
@[simp] theorem countWear_port (s : State) (f : Counter → Counter) : (s.countWear f).port = s.port := by
  simp [countWear]
@[simp] theorem countWear_config (s : State) (f : Counter → Counter) : (s.countWear f).config = s.config := by
  simp [countWear]
@[simp] theorem countWear_bufA (s : State) (f : Counter → Counter) : (s.countWear f).bufA = s.bufA := by
  simp [countWear]
@[simp] theorem countWear_bufB (s : State) (f : Counter → Counter) : (s.countWear f).bufB = s.bufB := by
  simp [countWear]
@[simp] theorem countWear_engine (s : State) (f : Counter → Counter) : (s.countWear f).engine = s.engine := by
  simp [countWear]
@[simp] theorem countWear_store (s : State) (f : Counter → Counter) : (s.countWear f).store = s.store := by
  simp [countWear]
@[simp] theorem countWear_freePages (s : State) (f : Counter → Counter) : (s.countWear f).freePages = s.freePages := by
  simp [countWear]
@[simp] theorem countWear_queue (s : State) (f : Counter → Counter) : (s.countWear f).queue = s.queue := by
  simp [countWear]
@[simp] theorem countWear_finished (s : State) (f : Counter → Counter) : (s.countWear f).finished = s.finished := by
  simp [countWear]
@[simp] theorem countWear_materials (s : State) (f : Counter → Counter) : (s.countWear f).materials = s.materials := by
  simp [countWear]
@[simp] theorem countWear_planner (s : State) (f : Counter → Counter) : (s.countWear f).planner = s.planner := by
  simp [countWear]
@[simp] theorem countWear_jsq (s : State) (f : Counter → Counter) : (s.countWear f).jsq = s.jsq := by
  simp [countWear]
@[simp] theorem countWear_stream (s : State) (f : Counter → Counter) : (s.countWear f).stream = s.stream := by
  simp [countWear]
@[simp] theorem countWear_motion (s : State) (f : Counter → Counter) : (s.countWear f).motion = s.motion := by
  simp [countWear]
@[simp] theorem countWear_pump (s : State) (f : Counter → Counter) : (s.countWear f).pump = s.pump := by
  simp [countWear]

@[simp] theorem segmentDone_pending (s : State) (e : Entry) (i : Nat) : (s.segmentDone e i).pending = s.pending := by
  unfold segmentDone; repeat' (first | (simp; done) | split | (simp; split))
@[simp] theorem segmentDone_port (s : State) (e : Entry) (i : Nat) : (s.segmentDone e i).port = s.port := by
  unfold segmentDone; repeat' (first | (simp; done) | split | (simp; split))
@[simp] theorem segmentDone_config (s : State) (e : Entry) (i : Nat) : (s.segmentDone e i).config = s.config := by
  unfold segmentDone; repeat' (first | (simp; done) | split | (simp; split))
@[simp] theorem segmentDone_bufA (s : State) (e : Entry) (i : Nat) : (s.segmentDone e i).bufA = s.bufA := by
  unfold segmentDone; repeat' (first | (simp; done) | split | (simp; split))
@[simp] theorem segmentDone_bufB (s : State) (e : Entry) (i : Nat) : (s.segmentDone e i).bufB = s.bufB := by
  unfold segmentDone; repeat' (first | (simp; done) | split | (simp; split))
@[simp] theorem segmentDone_engine (s : State) (e : Entry) (i : Nat) : (s.segmentDone e i).engine = s.engine := by
  unfold segmentDone; repeat' (first | (simp; done) | split | (simp; split))
@[simp] theorem segmentDone_store (s : State) (e : Entry) (i : Nat) : (s.segmentDone e i).store = s.store := by
  unfold segmentDone; repeat' (first | (simp; done) | split | (simp; split))
@[simp] theorem segmentDone_freePages (s : State) (e : Entry) (i : Nat) : (s.segmentDone e i).freePages = s.freePages := by
  unfold segmentDone; repeat' (first | (simp; done) | split | (simp; split))
@[simp] theorem segmentDone_finished (s : State) (e : Entry) (i : Nat) : (s.segmentDone e i).finished = s.finished := by
  unfold segmentDone; repeat' (first | (simp; done) | split | (simp; split))
@[simp] theorem segmentDone_materials (s : State) (e : Entry) (i : Nat) : (s.segmentDone e i).materials = s.materials := by
  unfold segmentDone; repeat' (first | (simp; done) | split | (simp; split))
@[simp] theorem segmentDone_planner (s : State) (e : Entry) (i : Nat) : (s.segmentDone e i).planner = s.planner := by
  unfold segmentDone; repeat' (first | (simp; done) | split | (simp; split))
@[simp] theorem segmentDone_jsq (s : State) (e : Entry) (i : Nat) : (s.segmentDone e i).jsq = s.jsq := by
  unfold segmentDone; repeat' (first | (simp; done) | split | (simp; split))
@[simp] theorem segmentDone_stream (s : State) (e : Entry) (i : Nat) : (s.segmentDone e i).stream = s.stream := by
  unfold segmentDone; repeat' (first | (simp; done) | split | (simp; split))
@[simp] theorem segmentDone_motion (s : State) (e : Entry) (i : Nat) : (s.segmentDone e i).motion = s.motion := by
  unfold segmentDone; repeat' (first | (simp; done) | split | (simp; split))
@[simp] theorem segmentDone_pump (s : State) (e : Entry) (i : Nat) : (s.segmentDone e i).pump = s.pump := by
  unfold segmentDone; repeat' (first | (simp; done) | split | (simp; split))

@[simp] theorem confirm_pending (s : State) (n : Serial) (e : Entry) : (s.confirm n e).pending = s.pending := by
  unfold confirm; split; exact foldl_keeps pending _ (fun s a => by simp) _ s; rfl
@[simp] theorem confirm_port (s : State) (n : Serial) (e : Entry) : (s.confirm n e).port = s.port := by
  unfold confirm; split; exact foldl_keeps port _ (fun s a => by simp) _ s; rfl
@[simp] theorem confirm_config (s : State) (n : Serial) (e : Entry) : (s.confirm n e).config = s.config := by
  unfold confirm; split; exact foldl_keeps config _ (fun s a => by simp) _ s; rfl
@[simp] theorem confirm_bufA (s : State) (n : Serial) (e : Entry) : (s.confirm n e).bufA = s.bufA := by
  unfold confirm; split; exact foldl_keeps bufA _ (fun s a => by simp) _ s; rfl
@[simp] theorem confirm_bufB (s : State) (n : Serial) (e : Entry) : (s.confirm n e).bufB = s.bufB := by
  unfold confirm; split; exact foldl_keeps bufB _ (fun s a => by simp) _ s; rfl
@[simp] theorem confirm_engine (s : State) (n : Serial) (e : Entry) : (s.confirm n e).engine = s.engine := by
  unfold confirm; split; exact foldl_keeps engine _ (fun s a => by simp) _ s; rfl
@[simp] theorem confirm_store (s : State) (n : Serial) (e : Entry) : (s.confirm n e).store = s.store := by
  unfold confirm; split; exact foldl_keeps store _ (fun s a => by simp) _ s; rfl
@[simp] theorem confirm_freePages (s : State) (n : Serial) (e : Entry) : (s.confirm n e).freePages = s.freePages := by
  unfold confirm; split; exact foldl_keeps freePages _ (fun s a => by simp) _ s; rfl
@[simp] theorem confirm_finished (s : State) (n : Serial) (e : Entry) : (s.confirm n e).finished = s.finished := by
  unfold confirm; split; exact foldl_keeps finished _ (fun s a => by simp) _ s; rfl
@[simp] theorem confirm_materials (s : State) (n : Serial) (e : Entry) : (s.confirm n e).materials = s.materials := by
  unfold confirm; split; exact foldl_keeps materials _ (fun s a => by simp) _ s; rfl
@[simp] theorem confirm_planner (s : State) (n : Serial) (e : Entry) : (s.confirm n e).planner = s.planner := by
  unfold confirm; split; exact foldl_keeps planner _ (fun s a => by simp) _ s; rfl
@[simp] theorem confirm_jsq (s : State) (n : Serial) (e : Entry) : (s.confirm n e).jsq = s.jsq := by
  unfold confirm; split; exact foldl_keeps jsq _ (fun s a => by simp) _ s; rfl
@[simp] theorem confirm_stream (s : State) (n : Serial) (e : Entry) : (s.confirm n e).stream = s.stream := by
  unfold confirm; split; exact foldl_keeps stream _ (fun s a => by simp) _ s; rfl
@[simp] theorem confirm_motion (s : State) (n : Serial) (e : Entry) : (s.confirm n e).motion = s.motion := by
  unfold confirm; split; exact foldl_keeps motion _ (fun s a => by simp) _ s; rfl
@[simp] theorem confirm_pump (s : State) (n : Serial) (e : Entry) : (s.confirm n e).pump = s.pump := by
  unfold confirm; split; exact foldl_keeps pump _ (fun s a => by simp) _ s; rfl

@[simp] theorem startAbort_pending (s : State) (c : Cause) (e : Ending) : (s.startAbort c e).pending = s.pending := by
  simp [startAbort]
@[simp] theorem startAbort_port (s : State) (c : Cause) (e : Ending) : (s.startAbort c e).port = s.port := by
  simp [startAbort]
@[simp] theorem startAbort_config (s : State) (c : Cause) (e : Ending) : (s.startAbort c e).config = s.config := by
  simp [startAbort]
@[simp] theorem startAbort_bufA (s : State) (c : Cause) (e : Ending) : (s.startAbort c e).bufA = s.bufA := by
  simp [startAbort]
@[simp] theorem startAbort_bufB (s : State) (c : Cause) (e : Ending) : (s.startAbort c e).bufB = s.bufB := by
  simp [startAbort]
@[simp] theorem startAbort_engine (s : State) (c : Cause) (e : Ending) : (s.startAbort c e).engine = s.engine := by
  simp [startAbort]
@[simp] theorem startAbort_store (s : State) (c : Cause) (e : Ending) : (s.startAbort c e).store = s.store := by
  simp [startAbort]
@[simp] theorem startAbort_freePages (s : State) (c : Cause) (e : Ending) : (s.startAbort c e).freePages = s.freePages := by
  simp [startAbort]
@[simp] theorem startAbort_finished (s : State) (c : Cause) (e : Ending) : (s.startAbort c e).finished = s.finished := by
  simp [startAbort]
@[simp] theorem startAbort_materials (s : State) (c : Cause) (e : Ending) : (s.startAbort c e).materials = s.materials := by
  simp [startAbort]
@[simp] theorem startAbort_motion (s : State) (c : Cause) (e : Ending) : (s.startAbort c e).motion = s.motion := by
  simp [startAbort]
@[simp] theorem startAbort_wear (s : State) (c : Cause) (e : Ending) : (s.startAbort c e).wear = s.wear := by
  simp [startAbort]
@[simp] theorem startAbort_attention (s : State) (c : Cause) (e : Ending) : (s.startAbort c e).attention = s.attention := by
  simp [startAbort]

@[simp] theorem faultWhileCutting_pending (s : State) (f : FaultEvent) (d : Ending) (e : Entry) : (s.faultWhileCutting f d e).pending = s.pending := by
  unfold faultWhileCutting; split <;> simp
@[simp] theorem faultWhileCutting_port (s : State) (f : FaultEvent) (d : Ending) (e : Entry) : (s.faultWhileCutting f d e).port = s.port := by
  unfold faultWhileCutting; split <;> simp
@[simp] theorem faultWhileCutting_config (s : State) (f : FaultEvent) (d : Ending) (e : Entry) : (s.faultWhileCutting f d e).config = s.config := by
  unfold faultWhileCutting; split <;> simp
@[simp] theorem faultWhileCutting_bufA (s : State) (f : FaultEvent) (d : Ending) (e : Entry) : (s.faultWhileCutting f d e).bufA = s.bufA := by
  unfold faultWhileCutting; split <;> simp
@[simp] theorem faultWhileCutting_bufB (s : State) (f : FaultEvent) (d : Ending) (e : Entry) : (s.faultWhileCutting f d e).bufB = s.bufB := by
  unfold faultWhileCutting; split <;> simp
@[simp] theorem faultWhileCutting_materials (s : State) (f : FaultEvent) (d : Ending) (e : Entry) : (s.faultWhileCutting f d e).materials = s.materials := by
  unfold faultWhileCutting; split <;> simp

@[simp] theorem endAbort_pending (s : State) : (s.endAbort).pending = s.pending := by
  simp [endAbort]
@[simp] theorem endAbort_port (s : State) : (s.endAbort).port = s.port := by
  simp [endAbort]
@[simp] theorem endAbort_config (s : State) : (s.endAbort).config = s.config := by
  simp [endAbort]
@[simp] theorem endAbort_bufA (s : State) : (s.endAbort).bufA = s.bufA := by
  simp [endAbort]
@[simp] theorem endAbort_bufB (s : State) : (s.endAbort).bufB = s.bufB := by
  simp [endAbort]
@[simp] theorem endAbort_materials (s : State) : (s.endAbort).materials = s.materials := by
  simp [endAbort]
@[simp] theorem endAbort_wear (s : State) : (s.endAbort).wear = s.wear := by
  simp [endAbort]

@[simp] theorem faultWhileAborting_pending (s : State) (f : FaultEvent) (e : Entry) : (s.faultWhileAborting f e).pending = s.pending := by
  unfold faultWhileAborting; split <;> simp
@[simp] theorem faultWhileAborting_port (s : State) (f : FaultEvent) (e : Entry) : (s.faultWhileAborting f e).port = s.port := by
  unfold faultWhileAborting; split <;> simp
@[simp] theorem faultWhileAborting_config (s : State) (f : FaultEvent) (e : Entry) : (s.faultWhileAborting f e).config = s.config := by
  unfold faultWhileAborting; split <;> simp
@[simp] theorem faultWhileAborting_bufA (s : State) (f : FaultEvent) (e : Entry) : (s.faultWhileAborting f e).bufA = s.bufA := by
  unfold faultWhileAborting; split <;> simp
@[simp] theorem faultWhileAborting_bufB (s : State) (f : FaultEvent) (e : Entry) : (s.faultWhileAborting f e).bufB = s.bufB := by
  unfold faultWhileAborting; split <;> simp
@[simp] theorem faultWhileAborting_materials (s : State) (f : FaultEvent) (e : Entry) : (s.faultWhileAborting f e).materials = s.materials := by
  unfold faultWhileAborting; split <;> simp

@[simp] theorem takeFault_pending (s : State) (f : FaultEvent) : (s.takeFault f).pending = s.pending := by
  unfold takeFault; split; simp; split <;> simp
@[simp] theorem takeFault_port (s : State) (f : FaultEvent) : (s.takeFault f).port = s.port := by
  unfold takeFault; split; simp; split <;> simp
@[simp] theorem takeFault_config (s : State) (f : FaultEvent) : (s.takeFault f).config = s.config := by
  unfold takeFault; split; simp; split <;> simp
@[simp] theorem takeFault_bufA (s : State) (f : FaultEvent) : (s.takeFault f).bufA = s.bufA := by
  unfold takeFault; split; simp; split <;> simp
@[simp] theorem takeFault_bufB (s : State) (f : FaultEvent) : (s.takeFault f).bufB = s.bufB := by
  unfold takeFault; split; simp; split <;> simp
@[simp] theorem takeFault_materials (s : State) (f : FaultEvent) : (s.takeFault f).materials = s.materials := by
  unfold takeFault; split; simp; split <;> simp

@[simp] theorem openJet_pending (s : State) (e : Entry) : (s.openJet e).pending = s.pending := by
  simp only [openJet]; split <;> simp
@[simp] theorem openJet_port (s : State) (e : Entry) : (s.openJet e).port = s.port := by
  simp only [openJet]; split <;> simp
@[simp] theorem openJet_config (s : State) (e : Entry) : (s.openJet e).config = s.config := by
  simp only [openJet]; split <;> simp
@[simp] theorem openJet_bufA (s : State) (e : Entry) : (s.openJet e).bufA = s.bufA := by
  simp only [openJet]; split <;> simp
@[simp] theorem openJet_bufB (s : State) (e : Entry) : (s.openJet e).bufB = s.bufB := by
  simp only [openJet]; split <;> simp
@[simp] theorem openJet_engine (s : State) (e : Entry) : (s.openJet e).engine = s.engine := by
  simp only [openJet]; split <;> simp
@[simp] theorem openJet_store (s : State) (e : Entry) : (s.openJet e).store = s.store := by
  simp only [openJet]; split <;> simp
@[simp] theorem openJet_freePages (s : State) (e : Entry) : (s.openJet e).freePages = s.freePages := by
  simp only [openJet]; split <;> simp
@[simp] theorem openJet_queue (s : State) (e : Entry) : (s.openJet e).queue = s.queue := by
  simp only [openJet]; split <;> simp
@[simp] theorem openJet_finished (s : State) (e : Entry) : (s.openJet e).finished = s.finished := by
  simp only [openJet]; split <;> simp
@[simp] theorem openJet_materials (s : State) (e : Entry) : (s.openJet e).materials = s.materials := by
  simp only [openJet]; split <;> simp
@[simp] theorem openJet_planner (s : State) (e : Entry) : (s.openJet e).planner = s.planner := by
  simp only [openJet]; split <;> simp
@[simp] theorem openJet_stream (s : State) (e : Entry) : (s.openJet e).stream = s.stream := by
  simp only [openJet]; split <;> simp
@[simp] theorem openJet_motion (s : State) (e : Entry) : (s.openJet e).motion = s.motion := by
  simp only [openJet]; split <;> simp
@[simp] theorem openJet_wear (s : State) (e : Entry) : (s.openJet e).wear = s.wear := by
  simp only [openJet]; split <;> simp
@[simp] theorem openJet_attention (s : State) (e : Entry) : (s.openJet e).attention = s.attention := by
  simp only [openJet]; split <;> simp

@[simp] theorem positioningEnd_pending (s : State) (e : Entry) : (s.positioningEnd e).pending = s.pending := by
  unfold positioningEnd; split <;> simp
@[simp] theorem positioningEnd_port (s : State) (e : Entry) : (s.positioningEnd e).port = s.port := by
  unfold positioningEnd; split <;> simp
@[simp] theorem positioningEnd_config (s : State) (e : Entry) : (s.positioningEnd e).config = s.config := by
  unfold positioningEnd; split <;> simp
@[simp] theorem positioningEnd_bufA (s : State) (e : Entry) : (s.positioningEnd e).bufA = s.bufA := by
  unfold positioningEnd; split <;> simp
@[simp] theorem positioningEnd_bufB (s : State) (e : Entry) : (s.positioningEnd e).bufB = s.bufB := by
  unfold positioningEnd; split <;> simp
@[simp] theorem positioningEnd_engine (s : State) (e : Entry) : (s.positioningEnd e).engine = s.engine := by
  unfold positioningEnd; split <;> simp
@[simp] theorem positioningEnd_store (s : State) (e : Entry) : (s.positioningEnd e).store = s.store := by
  unfold positioningEnd; split <;> simp
@[simp] theorem positioningEnd_freePages (s : State) (e : Entry) : (s.positioningEnd e).freePages = s.freePages := by
  unfold positioningEnd; split <;> simp
@[simp] theorem positioningEnd_queue (s : State) (e : Entry) : (s.positioningEnd e).queue = s.queue := by
  unfold positioningEnd; split <;> simp
@[simp] theorem positioningEnd_finished (s : State) (e : Entry) : (s.positioningEnd e).finished = s.finished := by
  unfold positioningEnd; split <;> simp
@[simp] theorem positioningEnd_materials (s : State) (e : Entry) : (s.positioningEnd e).materials = s.materials := by
  unfold positioningEnd; split <;> simp
@[simp] theorem positioningEnd_planner (s : State) (e : Entry) : (s.positioningEnd e).planner = s.planner := by
  unfold positioningEnd; split <;> simp
@[simp] theorem positioningEnd_stream (s : State) (e : Entry) : (s.positioningEnd e).stream = s.stream := by
  unfold positioningEnd; split <;> simp
@[simp] theorem positioningEnd_motion (s : State) (e : Entry) : (s.positioningEnd e).motion = s.motion := by
  unfold positioningEnd; split <;> simp
@[simp] theorem positioningEnd_wear (s : State) (e : Entry) : (s.positioningEnd e).wear = s.wear := by
  unfold positioningEnd; split <;> simp
@[simp] theorem positioningEnd_attention (s : State) (e : Entry) : (s.positioningEnd e).attention = s.attention := by
  unfold positioningEnd; split <;> simp

@[simp] theorem onArrived_pending (s : State) (n : Serial) : (s.onArrived n).pending = s.pending := by
  unfold onArrived; split; simp; split <;> simp
@[simp] theorem onArrived_port (s : State) (n : Serial) : (s.onArrived n).port = s.port := by
  unfold onArrived; split; simp; split <;> simp
@[simp] theorem onArrived_config (s : State) (n : Serial) : (s.onArrived n).config = s.config := by
  unfold onArrived; split; simp; split <;> simp
@[simp] theorem onArrived_bufA (s : State) (n : Serial) : (s.onArrived n).bufA = s.bufA := by
  unfold onArrived; split; simp; split <;> simp
@[simp] theorem onArrived_bufB (s : State) (n : Serial) : (s.onArrived n).bufB = s.bufB := by
  unfold onArrived; split; simp; split <;> simp
@[simp] theorem onArrived_engine (s : State) (n : Serial) : (s.onArrived n).engine = s.engine := by
  unfold onArrived; split; simp; split <;> simp
@[simp] theorem onArrived_store (s : State) (n : Serial) : (s.onArrived n).store = s.store := by
  unfold onArrived; split; simp; split <;> simp
@[simp] theorem onArrived_freePages (s : State) (n : Serial) : (s.onArrived n).freePages = s.freePages := by
  unfold onArrived; split; simp; split <;> simp
@[simp] theorem onArrived_queue (s : State) (n : Serial) : (s.onArrived n).queue = s.queue := by
  unfold onArrived; split; simp; split <;> simp
@[simp] theorem onArrived_finished (s : State) (n : Serial) : (s.onArrived n).finished = s.finished := by
  unfold onArrived; split; simp; split <;> simp
@[simp] theorem onArrived_materials (s : State) (n : Serial) : (s.onArrived n).materials = s.materials := by
  unfold onArrived; split; simp; split <;> simp
@[simp] theorem onArrived_planner (s : State) (n : Serial) : (s.onArrived n).planner = s.planner := by
  unfold onArrived; split; simp; split <;> simp
@[simp] theorem onArrived_stream (s : State) (n : Serial) : (s.onArrived n).stream = s.stream := by
  unfold onArrived; split; simp; split <;> simp
@[simp] theorem onArrived_motion (s : State) (n : Serial) : (s.onArrived n).motion = s.motion := by
  unfold onArrived; split; simp; split <;> simp
@[simp] theorem onArrived_wear (s : State) (n : Serial) : (s.onArrived n).wear = s.wear := by
  unfold onArrived; split; simp; split <;> simp
@[simp] theorem onArrived_attention (s : State) (n : Serial) : (s.onArrived n).attention = s.attention := by
  unfold onArrived; split; simp; split <;> simp

@[simp] theorem onPressureReady_pending (s : State) : (s.onPressureReady).pending = s.pending := by
  unfold onPressureReady; repeat' (first | (simp; done) | split | (simp; split))
@[simp] theorem onPressureReady_port (s : State) : (s.onPressureReady).port = s.port := by
  unfold onPressureReady; repeat' (first | (simp; done) | split | (simp; split))
@[simp] theorem onPressureReady_config (s : State) : (s.onPressureReady).config = s.config := by
  unfold onPressureReady; repeat' (first | (simp; done) | split | (simp; split))
@[simp] theorem onPressureReady_bufA (s : State) : (s.onPressureReady).bufA = s.bufA := by
  unfold onPressureReady; repeat' (first | (simp; done) | split | (simp; split))
@[simp] theorem onPressureReady_bufB (s : State) : (s.onPressureReady).bufB = s.bufB := by
  unfold onPressureReady; repeat' (first | (simp; done) | split | (simp; split))
@[simp] theorem onPressureReady_engine (s : State) : (s.onPressureReady).engine = s.engine := by
  unfold onPressureReady; repeat' (first | (simp; done) | split | (simp; split))
@[simp] theorem onPressureReady_store (s : State) : (s.onPressureReady).store = s.store := by
  unfold onPressureReady; repeat' (first | (simp; done) | split | (simp; split))
@[simp] theorem onPressureReady_freePages (s : State) : (s.onPressureReady).freePages = s.freePages := by
  unfold onPressureReady; repeat' (first | (simp; done) | split | (simp; split))
@[simp] theorem onPressureReady_queue (s : State) : (s.onPressureReady).queue = s.queue := by
  unfold onPressureReady; repeat' (first | (simp; done) | split | (simp; split))
@[simp] theorem onPressureReady_finished (s : State) : (s.onPressureReady).finished = s.finished := by
  unfold onPressureReady; repeat' (first | (simp; done) | split | (simp; split))
@[simp] theorem onPressureReady_materials (s : State) : (s.onPressureReady).materials = s.materials := by
  unfold onPressureReady; repeat' (first | (simp; done) | split | (simp; split))
@[simp] theorem onPressureReady_planner (s : State) : (s.onPressureReady).planner = s.planner := by
  unfold onPressureReady; repeat' (first | (simp; done) | split | (simp; split))
@[simp] theorem onPressureReady_stream (s : State) : (s.onPressureReady).stream = s.stream := by
  unfold onPressureReady; repeat' (first | (simp; done) | split | (simp; split))
@[simp] theorem onPressureReady_motion (s : State) : (s.onPressureReady).motion = s.motion := by
  unfold onPressureReady; repeat' (first | (simp; done) | split | (simp; split))
@[simp] theorem onPressureReady_wear (s : State) : (s.onPressureReady).wear = s.wear := by
  unfold onPressureReady; repeat' (first | (simp; done) | split | (simp; split))
@[simp] theorem onPressureReady_attention (s : State) : (s.onPressureReady).attention = s.attention := by
  unfold onPressureReady; repeat' (first | (simp; done) | split | (simp; split))

@[simp] theorem startRepierce_pending (s : State) (e : Entry) : (s.startRepierce e).pending = s.pending := by
  simp [startRepierce]
@[simp] theorem startRepierce_port (s : State) (e : Entry) : (s.startRepierce e).port = s.port := by
  simp [startRepierce]
@[simp] theorem startRepierce_config (s : State) (e : Entry) : (s.startRepierce e).config = s.config := by
  simp [startRepierce]
@[simp] theorem startRepierce_bufA (s : State) (e : Entry) : (s.startRepierce e).bufA = s.bufA := by
  simp [startRepierce]
@[simp] theorem startRepierce_bufB (s : State) (e : Entry) : (s.startRepierce e).bufB = s.bufB := by
  simp [startRepierce]
@[simp] theorem startRepierce_engine (s : State) (e : Entry) : (s.startRepierce e).engine = s.engine := by
  simp [startRepierce]
@[simp] theorem startRepierce_store (s : State) (e : Entry) : (s.startRepierce e).store = s.store := by
  simp [startRepierce]
@[simp] theorem startRepierce_freePages (s : State) (e : Entry) : (s.startRepierce e).freePages = s.freePages := by
  simp [startRepierce]
@[simp] theorem startRepierce_queue (s : State) (e : Entry) : (s.startRepierce e).queue = s.queue := by
  simp [startRepierce]
@[simp] theorem startRepierce_finished (s : State) (e : Entry) : (s.startRepierce e).finished = s.finished := by
  simp [startRepierce]
@[simp] theorem startRepierce_materials (s : State) (e : Entry) : (s.startRepierce e).materials = s.materials := by
  simp [startRepierce]
@[simp] theorem startRepierce_planner (s : State) (e : Entry) : (s.startRepierce e).planner = s.planner := by
  simp [startRepierce]
@[simp] theorem startRepierce_stream (s : State) (e : Entry) : (s.startRepierce e).stream = s.stream := by
  simp [startRepierce]
@[simp] theorem startRepierce_motion (s : State) (e : Entry) : (s.startRepierce e).motion = s.motion := by
  simp [startRepierce]
@[simp] theorem startRepierce_wear (s : State) (e : Entry) : (s.startRepierce e).wear = s.wear := by
  simp [startRepierce]
@[simp] theorem startRepierce_attention (s : State) (e : Entry) : (s.startRepierce e).attention = s.attention := by
  simp [startRepierce]

@[simp] theorem holdingEnd_pending (s : State) : (s.holdingEnd).pending = s.pending := by
  unfold holdingEnd; (repeat' split) <;> simp
@[simp] theorem holdingEnd_port (s : State) : (s.holdingEnd).port = s.port := by
  unfold holdingEnd; (repeat' split) <;> simp
@[simp] theorem holdingEnd_config (s : State) : (s.holdingEnd).config = s.config := by
  unfold holdingEnd; (repeat' split) <;> simp
@[simp] theorem holdingEnd_bufA (s : State) : (s.holdingEnd).bufA = s.bufA := by
  unfold holdingEnd; (repeat' split) <;> simp
@[simp] theorem holdingEnd_bufB (s : State) : (s.holdingEnd).bufB = s.bufB := by
  unfold holdingEnd; (repeat' split) <;> simp
@[simp] theorem holdingEnd_materials (s : State) : (s.holdingEnd).materials = s.materials := by
  unfold holdingEnd; (repeat' split) <;> simp
@[simp] theorem holdingEnd_wear (s : State) : (s.holdingEnd).wear = s.wear := by
  unfold holdingEnd; (repeat' split) <;> simp

@[simp] theorem sequencerSegDone_pending (s : State) (e : Entry) (p : Place) : (s.sequencerSegDone e p).pending = s.pending := by
  unfold sequencerSegDone; repeat' (first | (simp; done) | split | (simp; split))
@[simp] theorem sequencerSegDone_port (s : State) (e : Entry) (p : Place) : (s.sequencerSegDone e p).port = s.port := by
  unfold sequencerSegDone; repeat' (first | (simp; done) | split | (simp; split))
@[simp] theorem sequencerSegDone_config (s : State) (e : Entry) (p : Place) : (s.sequencerSegDone e p).config = s.config := by
  unfold sequencerSegDone; repeat' (first | (simp; done) | split | (simp; split))
@[simp] theorem sequencerSegDone_bufA (s : State) (e : Entry) (p : Place) : (s.sequencerSegDone e p).bufA = s.bufA := by
  unfold sequencerSegDone; repeat' (first | (simp; done) | split | (simp; split))
@[simp] theorem sequencerSegDone_bufB (s : State) (e : Entry) (p : Place) : (s.sequencerSegDone e p).bufB = s.bufB := by
  unfold sequencerSegDone; repeat' (first | (simp; done) | split | (simp; split))
@[simp] theorem sequencerSegDone_materials (s : State) (e : Entry) (p : Place) : (s.sequencerSegDone e p).materials = s.materials := by
  unfold sequencerSegDone; repeat' (first | (simp; done) | split | (simp; split))
@[simp] theorem sequencerSegDone_wear (s : State) (e : Entry) (p : Place) : (s.sequencerSegDone e p).wear = s.wear := by
  unfold sequencerSegDone; repeat' (first | (simp; done) | split | (simp; split))

@[simp] theorem afterPierce_pending (s : State) (e : Entry) : (s.afterPierce e).pending = s.pending := by
  unfold afterPierce; split <;> simp
@[simp] theorem afterPierce_port (s : State) (e : Entry) : (s.afterPierce e).port = s.port := by
  unfold afterPierce; split <;> simp
@[simp] theorem afterPierce_config (s : State) (e : Entry) : (s.afterPierce e).config = s.config := by
  unfold afterPierce; split <;> simp
@[simp] theorem afterPierce_bufA (s : State) (e : Entry) : (s.afterPierce e).bufA = s.bufA := by
  unfold afterPierce; split <;> simp
@[simp] theorem afterPierce_bufB (s : State) (e : Entry) : (s.afterPierce e).bufB = s.bufB := by
  unfold afterPierce; split <;> simp
@[simp] theorem afterPierce_engine (s : State) (e : Entry) : (s.afterPierce e).engine = s.engine := by
  unfold afterPierce; split <;> simp
@[simp] theorem afterPierce_store (s : State) (e : Entry) : (s.afterPierce e).store = s.store := by
  unfold afterPierce; split <;> simp
@[simp] theorem afterPierce_freePages (s : State) (e : Entry) : (s.afterPierce e).freePages = s.freePages := by
  unfold afterPierce; split <;> simp
@[simp] theorem afterPierce_queue (s : State) (e : Entry) : (s.afterPierce e).queue = s.queue := by
  unfold afterPierce; split <;> simp
@[simp] theorem afterPierce_finished (s : State) (e : Entry) : (s.afterPierce e).finished = s.finished := by
  unfold afterPierce; split <;> simp
@[simp] theorem afterPierce_materials (s : State) (e : Entry) : (s.afterPierce e).materials = s.materials := by
  unfold afterPierce; split <;> simp
@[simp] theorem afterPierce_planner (s : State) (e : Entry) : (s.afterPierce e).planner = s.planner := by
  unfold afterPierce; split <;> simp
@[simp] theorem afterPierce_stream (s : State) (e : Entry) : (s.afterPierce e).stream = s.stream := by
  unfold afterPierce; split <;> simp
@[simp] theorem afterPierce_motion (s : State) (e : Entry) : (s.afterPierce e).motion = s.motion := by
  unfold afterPierce; split <;> simp
@[simp] theorem afterPierce_wear (s : State) (e : Entry) : (s.afterPierce e).wear = s.wear := by
  unfold afterPierce; split <;> simp
@[simp] theorem afterPierce_attention (s : State) (e : Entry) : (s.afterPierce e).attention = s.attention := by
  unfold afterPierce; split <;> simp

@[simp] theorem pierceExpires_pending (s : State) : s.pierceExpires.pending = s.pending := by
  unfold pierceExpires; (repeat' split) <;> simp
@[simp] theorem pierceExpires_port (s : State) : s.pierceExpires.port = s.port := by
  unfold pierceExpires; (repeat' split) <;> simp
@[simp] theorem pierceExpires_config (s : State) : s.pierceExpires.config = s.config := by
  unfold pierceExpires; (repeat' split) <;> simp
@[simp] theorem pierceExpires_bufA (s : State) : s.pierceExpires.bufA = s.bufA := by
  unfold pierceExpires; (repeat' split) <;> simp
@[simp] theorem pierceExpires_bufB (s : State) : s.pierceExpires.bufB = s.bufB := by
  unfold pierceExpires; (repeat' split) <;> simp
@[simp] theorem pierceExpires_engine (s : State) : s.pierceExpires.engine = s.engine := by
  unfold pierceExpires; (repeat' split) <;> simp
@[simp] theorem pierceExpires_store (s : State) : s.pierceExpires.store = s.store := by
  unfold pierceExpires; (repeat' split) <;> simp
@[simp] theorem pierceExpires_freePages (s : State) : s.pierceExpires.freePages = s.freePages := by
  unfold pierceExpires; (repeat' split) <;> simp
@[simp] theorem pierceExpires_queue (s : State) : s.pierceExpires.queue = s.queue := by
  unfold pierceExpires; (repeat' split) <;> simp
@[simp] theorem pierceExpires_finished (s : State) : s.pierceExpires.finished = s.finished := by
  unfold pierceExpires; (repeat' split) <;> simp
@[simp] theorem pierceExpires_materials (s : State) : s.pierceExpires.materials = s.materials := by
  unfold pierceExpires; (repeat' split) <;> simp
@[simp] theorem pierceExpires_planner (s : State) : s.pierceExpires.planner = s.planner := by
  unfold pierceExpires; (repeat' split) <;> simp
@[simp] theorem pierceExpires_stream (s : State) : s.pierceExpires.stream = s.stream := by
  unfold pierceExpires; (repeat' split) <;> simp
@[simp] theorem pierceExpires_motion (s : State) : s.pierceExpires.motion = s.motion := by
  unfold pierceExpires; (repeat' split) <;> simp

@[simp] theorem pierceAtOnce_pending (s old : State) : (s.pierceAtOnce old).pending = s.pending := by
  unfold pierceAtOnce; split <;> simp
@[simp] theorem pierceAtOnce_port (s old : State) : (s.pierceAtOnce old).port = s.port := by
  unfold pierceAtOnce; split <;> simp
@[simp] theorem pierceAtOnce_config (s old : State) : (s.pierceAtOnce old).config = s.config := by
  unfold pierceAtOnce; split <;> simp
@[simp] theorem pierceAtOnce_bufA (s old : State) : (s.pierceAtOnce old).bufA = s.bufA := by
  unfold pierceAtOnce; split <;> simp
@[simp] theorem pierceAtOnce_bufB (s old : State) : (s.pierceAtOnce old).bufB = s.bufB := by
  unfold pierceAtOnce; split <;> simp
@[simp] theorem pierceAtOnce_engine (s old : State) : (s.pierceAtOnce old).engine = s.engine := by
  unfold pierceAtOnce; split <;> simp
@[simp] theorem pierceAtOnce_store (s old : State) : (s.pierceAtOnce old).store = s.store := by
  unfold pierceAtOnce; split <;> simp
@[simp] theorem pierceAtOnce_freePages (s old : State) : (s.pierceAtOnce old).freePages = s.freePages := by
  unfold pierceAtOnce; split <;> simp
@[simp] theorem pierceAtOnce_queue (s old : State) : (s.pierceAtOnce old).queue = s.queue := by
  unfold pierceAtOnce; split <;> simp
@[simp] theorem pierceAtOnce_finished (s old : State) : (s.pierceAtOnce old).finished = s.finished := by
  unfold pierceAtOnce; split <;> simp
@[simp] theorem pierceAtOnce_materials (s old : State) : (s.pierceAtOnce old).materials = s.materials := by
  unfold pierceAtOnce; split <;> simp
@[simp] theorem pierceAtOnce_planner (s old : State) : (s.pierceAtOnce old).planner = s.planner := by
  unfold pierceAtOnce; split <;> simp
@[simp] theorem pierceAtOnce_stream (s old : State) : (s.pierceAtOnce old).stream = s.stream := by
  unfold pierceAtOnce; split <;> simp
@[simp] theorem pierceAtOnce_motion (s old : State) : (s.pierceAtOnce old).motion = s.motion := by
  unfold pierceAtOnce; split <;> simp

end Sys2Proof.Machine.State
end

