-- ==== Sys2Proof/Laws/Operations.lean ====
section
/-! SUPPORT. What each shared operation does, said once: the equation or the cases of its result. -/

namespace Sys2Proof.Machine

open Sys2Proof

namespace State

/-! ### The job port -/

/-- A command taken while the port is open is carried out, and its response is held. -/
theorem onJobPort_of_open {s : State} (h : portOpen s) (f : State → Reply) :
    s.onJobPort f = (f (s.setPort { s.port with condition := .executing })).2.respond
      (f (s.setPort { s.port with condition := .executing })).1 := by
  rcases h with h | ⟨bytes, h⟩ <;> simp [onJobPort, h]

/-- A command written in EXECUTING or RESPONDING is not taken. -/
theorem onJobPort_of_not_open {s : State} (h : ¬ portOpen s) (f : State → Reply) :
    s.onJobPort f = s.setPort { s.port with ovr := true } := by
  unfold portOpen at h
  unfold onJobPort
  split
  · exact absurd (Or.inl ‹_›) h
  · exact absurd (Or.inr ⟨_, ‹_›⟩) h
  · rfl
  · rfl

/-- Only the last response counts. -/
@[simp] theorem setPort_setPort (s : State) (p q : JobPort) : (s.setPort p).setPort q = s.setPort q := rfl

/-! ### The attention router -/

/-- A line on which no change is under way is left alone at the end of one. -/
theorem settle_line {l : Line} (h : l.fresh = false) : l.settle = l := by simp [Line.settle, h]

/-- Where no change is under way, the end of a change changes nothing. -/
theorem settle_of_quiet {s : State} (h : Quiet s) : s.settle = s := by
  cases s
  obtain ⟨h1, h2⟩ := h
  simp_all [settle, setAttention, settle_line]

/-- After the end of a change none is under way. -/
theorem settle_quiet (s : State) : Quiet s.settle := by
  refine ⟨?_, ?_⟩ <;> simp only [settle, setAttention_attention, Line.settle] <;> split <;> simp_all

/-- A line after a raise: unchanged where the source is not routed or already pending, else with the source pending. -/
theorem raise_line (bit : Mask) (l : Line) :
    (l.route &&& bit = 0 ∨ l.pending &&& bit ≠ 0) ∧ l.raise bit = l
      ∨ (l.route &&& bit ≠ 0 ∧ l.pending &&& bit = 0)
        ∧ l.raise bit = { l with pending := l.pending ||| bit, fresh := l.fresh || l.mode == .pulse } := by
  unfold Line.raise
  by_cases h : l.route &&& bit = 0 ∨ l.pending &&& bit ≠ 0
  · exact .inl ⟨h, if_pos h⟩
  · exact .inr ⟨by push Not at h; exact h, if_neg h⟩

/-! ### Settings to the pump and the jet -/

/-- A SET_PRESSURE to the pump. -/
theorem issue_pressure (p : Nat) (s : State) :
    s.issue (.setPressure p) = s.setPump { s.pump with
      transmit := enqueueMessage (.setPressure p) s.pump.transmit, target := p, ready := false, sag := 0 } := rfl

/-- Any other message to the pump. -/
theorem issue_other {m : PumpMessage} (h : m.isPressure = false) (s : State) :
    s.issue m = s.setPump { s.pump with transmit := enqueueMessage m s.pump.transmit } := by
  cases m <;> first | rfl | simp [PumpMessage.isPressure] at h

/-- The jet-off pair. -/
theorem jetOff_eq (s : State) :
    s.jetOff = (s.setPump { s.pump with
      transmit := enqueueMessage (.setValve .closed) (enqueueMessage (.setAbrasive 0) s.pump.transmit) }).setJsq
      { s.jsq with valve := .closed, abrasive := 0 } := rfl

/-- The jet-on pair. -/
theorem jetOn_eq (rate : Nat) (s : State) :
    s.jetOn rate = (s.setPump { s.pump with
      transmit := enqueueMessage (.setAbrasive rate) (enqueueMessage (.setValve .opened) s.pump.transmit) }).setJsq
      { s.jsq with valve := .opened, abrasive := rate } := rfl

/-- A pressure step: the clamped target and its pressure wait. -/
theorem pressureStep_eq (target : Nat) (s : State) :
    s.pressureStep target = (s.issue (.setPressure (clampPressure s.config target))).setJsq
      { s.jsq with wait := some ⟨clampPressure s.config target, s.config.pressureTimeout.toNat * 1000⟩ } := rfl

/-- Making room takes out only a pressure: whatever is read from the other messages stays. -/
theorem filterMap_dropOutdated {α : Type} (f : PumpMessage → Option α) (hf : ∀ p, f (.setPressure p) = none)
    (list : List PumpMessage) : (dropOutdated list).filterMap f = list.filterMap f := by
  induction list with
  | nil => rfl
  | cons m rest ih =>
    unfold dropOutdated
    split
    · cases m <;> simp_all [PumpMessage.isPressure]
    · simp [List.filterMap_cons, ih]

/-- A message that joins the list stands behind what is read from the others. -/
theorem filterMap_enqueueMessage {α : Type} (f : PumpMessage → Option α) (hf : ∀ p, f (.setPressure p) = none)
    (m : PumpMessage) (list : List PumpMessage) :
    (enqueueMessage m list).filterMap f = list.filterMap f ++ [m].filterMap f := by
  unfold enqueueMessage
  split
  · cases list with
    | nil => rfl
    | cons first rest =>
      rw [List.filterMap_append, List.filterMap_cons, filterMap_dropOutdated f hf, ← List.filterMap_cons]
  · exact List.filterMap_append ..

/-! ### The planning engine -/

/-- The engine's choice: nothing, or the first WAITING_PLAN entry becomes PLANNING with its job in flight. -/
theorem chooseWork_cases (s : State) :
    s.chooseWork = s
      ∨ ∃ e, s.planner.job = none ∧ s.queue.find? (fun x => x.state == .waitingPlan) = some e
        ∧ s.chooseWork = (s.setPlanner { s.planner with
            job := some ⟨.contour, e.contourId, s.sampleInputs e, none, none⟩ }).modifyEntry e.contourId
            (fun x => { x with state := .planning }) := by
  unfold chooseWork
  split
  · exact .inl rfl
  · split
    · exact .inl rfl
    · exact .inr ⟨_, ‹_›, ‹_›, rfl⟩

/-- Dropping a request: nothing, or the job is gone and the engine chooses again. -/
theorem dropRequest_cases (s : State) :
    s.requestOutstanding = false ∧ s.dropRequest = s
      ∨ s.requestOutstanding = true ∧ s.dropRequest = (s.setPlanner { s.planner with job := none }).chooseWork := by
  unfold dropRequest
  split <;> simp_all

/-- Abandoning a contour plan: nothing, or the job is gone. -/
theorem abandonPlan_cases (id : Nat) (s : State) :
    s.abandonPlan id = s
      ∨ ∃ job, s.planner.job = some job ∧ job.kind = .contour ∧ job.contour = id
        ∧ s.abandonPlan id = s.setPlanner { s.planner with job := none } := by
  unfold abandonPlan
  split
  · split
    · rename_i h; exact .inr ⟨_, ‹_›, h.1, h.2, rfl⟩
    · exact .inl rfl
  · exact .inl rfl

/-! ### Activation and rest -/

/-- Activation is tried: nothing, or the head that can be activated is. -/
theorem tryActivate_cases (s : State) :
    s.tryActivate = s
      ∨ ∃ e rest, s.queue = e :: rest ∧ s.jsq.phase = .idle ∧ e.state = .ready ∧ e.commitsPending = 0
        ∧ s.tryActivate = s.activate e := by
  unfold tryActivate
  split
  · split
    · rename_i e rest hq hc
      simp only [canActivate, hq, Bool.and_eq_true, beq_iff_eq] at hc
      exact .inr ⟨e, rest, hq, hc.1.1, hc.1.2, hc.2, rfl⟩
    · exact .inl rfl
  · exact .inl rfl

/-- The ACTIVE entry is the head. -/
theorem activeEntry_eq_some {s : State} {e : Entry} :
    s.activeEntry = some e ↔ ∃ rest, s.queue = e :: rest ∧ e.state = .active := by
  unfold activeEntry
  split
  · split
    · rename_i h; simp_all [eq_comm]
    · rename_i h
      simp only [reduceCtorEq, false_iff, not_exists, not_and]
      rintro _ h' he
      simp_all
  · simp_all

/-! ### The pierce -/

/-- The expiry of a pierce timer: nothing, or the running timer of the ACTIVE entry stops, a pierce is counted, and JSQ steps
on. -/
theorem pierceExpires_cases (s : State) :
    s.pierceExpires = s
      ∨ ∃ e, s.activeEntry = some e ∧ s.jsq.phase = .piercing ∧ s.jsq.pierceMs ≠ none
        ∧ s.pierceExpires
          = (((s.setJsq { s.jsq with pierceMs := none }).countWear Counter.pierce).afterPierce e).settle := by
  unfold pierceExpires
  split
  · exact .inl rfl
  · split
    · rename_i h; exact .inr ⟨_, ‹_›, h.1, h.2, rfl⟩
    · exact .inl rfl

/-- The expiry taken at once: nothing, or the change has started a pierce timer with 0. -/
theorem pierceAtOnce_cases (s old : State) :
    s.pierceAtOnce old = s
      ∨ old.jsq.pierceMs = none ∧ s.jsq.pierceMs = some 0 ∧ s.pierceAtOnce old = s.pierceExpires := by
  unfold pierceAtOnce
  split
  · rename_i h; exact .inr ⟨h.1, h.2, rfl⟩
  · exact .inl rfl

/-- Nothing is taken at once where the change leaves the pierce timer as it was. -/
theorem pierceAtOnce_of_same {s old : State} (h : s.jsq.pierceMs = old.jsq.pierceMs) : s.pierceAtOnce old = s := by
  unfold pierceAtOnce
  rw [if_neg]
  rintro ⟨h1, h2⟩
  rw [h, h1] at h2
  cases h2

/-! ### The words of the statements and the operations -/

/-- The statements' place of a cursor is the model's. -/
theorem placeAt_eq (segs : List SegRecord) (passes : Nat) (c : Cursor) : placeAt segs passes c = cursorPlace segs passes c := by
  cases c <;> rfl

/-- The statements' place of rest is the model's. -/
theorem restPlace_eq (segs : List SegRecord) (passes : Nat) (p : Place) :
    restPlace segs passes p = pastBridge segs passes p := by
  unfold restPlace pastBridge
  split <;> simp [*, placeAt_eq]

/-- The entry that becomes HELD or FAILED is the statements' one. -/
theorem hold_eq (segs : List SegRecord) (cause : Cause) (p : Place) (e : Entry) :
    Entry.hold cause (pastBridge segs e.passes p) e = heldEntry segs cause p e := by
  unfold Entry.hold heldEntry
  by_cases h : e.restartMark = true <;> simp [h, restPlace_eq]

/-- The finished-list entries are the statements' ones. -/
theorem finishedEntry_done (s : State) (e : Entry) : s.finishedEntry e .done = doneRecord (s.segments e) e := rfl

theorem finishedEntry_skipped (s : State) (e : Entry) :
    s.finishedEntry e .skipped = skippedRecord (s.segments e) e := by
  unfold finishedEntry skippedRecord
  cases e.donePlace <;> rfl

/-- The derate factor and the sampled inputs are the statements' ones. -/
theorem derateFactor_eq (w : Wear) : derateFactor w = factorOf w := by
  unfold derateFactor factorOf
  split <;> simp_all

theorem sampleInputs_eq (s : State) (e : Entry) : s.sampleInputs e = sampledFor s e := by
  simp [sampleInputs, sampledFor, derateFactor_eq, effectiveOverride]

/-- The free engine's choice is the statements' one. -/
theorem chooseWork_chooses {s : State} (h : s.planner.job = none) : ChoosesWork s s.chooseWork := by
  have hp : s.planner = { s.planner with job := none } := by rw [← h]
  refine ⟨fun hn => ?_, fun l w r hq hw hl => ?_⟩
  · have hf : s.queue.find? (fun e => e.state == .waitingPlan) = none := by simpa using hn
    simp only [chooseWork, h, hf, true_and]
    exact hp
  · have hf : s.queue.find? (fun e => e.state == .waitingPlan) = some w := by
      rw [hq, List.find?_append, List.find?_eq_none.mpr (by simpa using hl)]
      simp [hw]
    simp only [chooseWork, h, hf, sampleInputs_eq]
    exact ⟨rfl, rfl⟩

/-- The jet-off pair leaves the statements' transmit list, from whatever phase. -/
theorem jetOff_jetShut {s : State} (h : s.jsq.valve = .opened) : jetShut s s.jetOff.pump.transmit :=
  ⟨fun _ => rfl, fun hv => by rw [h] at hv; cases hv⟩

/-- Room on the transmit list is made at a pressure's cost alone, so the settings on it stay and the newest joins behind. -/
theorem valveSettings_enqueueMessage (m : PumpMessage) (list : List PumpMessage) :
    valveSettings (enqueueMessage m list) = valveSettings list ++ valveSettings [m] :=
  filterMap_enqueueMessage _ (fun _ => rfl) m list

theorem abrasiveSettings_enqueueMessage (m : PumpMessage) (list : List PumpMessage) :
    abrasiveSettings (enqueueMessage m list) = abrasiveSettings list ++ abrasiveSettings [m] :=
  filterMap_enqueueMessage _ (fun _ => rfl) m list

/-- A fault finds no entry to bring to rest where none is ACTIVE. -/
theorem takeFault_of_inactive {s : State} (h : s.activeEntry = none) (f : FaultEvent) : s.takeFault f = s := by
  simp [takeFault, h]

end State

end Sys2Proof.Machine
end

