-- ==== Sys2Proof/Laws/Store.lean ====
section
/-! SUPPORT. Every operation on the segment store keeps its canonical form: page numbers strictly rising, no page empty. -/

namespace Sys2Proof.Machine

open Sys2Proof

/-- The form without recursion over neighbours: the head page is not empty and lies below every later one. -/
theorem storeWf_cons (p : Nat) (page : Page) (rest : Store) :
    storeWf ((p, page) :: rest) = true ↔
      page.isEmpty = false ∧ (∀ q ∈ rest.map Prod.fst, p < q) ∧ storeWf rest = true := by
  induction rest generalizing p page with
  | nil => simp [storeWf]
  | cons x rest ih =>
    obtain ⟨q, next⟩ := x
    have hq := ih q next
    simp only [storeWf, Bool.and_eq_true, decide_eq_true_eq, Bool.not_eq_true', List.map_cons, List.mem_cons,
      forall_eq_or_imp]
    constructor
    · rintro ⟨⟨h1, h2⟩, h3⟩
      exact ⟨h2, ⟨h1, fun r hr => lt_trans h1 ((hq.1 h3).2.1 r hr)⟩, h3⟩
    · rintro ⟨h1, ⟨h2, _⟩, h3⟩
      exact ⟨⟨h2, h1⟩, h3⟩

/-- The pages listed after a write are those listed before and the one written. -/
theorem mem_pages_of_putPage {p q : Nat} {page : Page} {store : Store} :
    q ∈ (putPage p page store).map Prod.fst → q = p ∨ q ∈ store.map Prod.fst := by
  induction store with
  | nil => unfold putPage; split <;> simp
  | cons x rest ih =>
    obtain ⟨r, old⟩ := x
    unfold putPage
    split
    · split <;> intro hq <;> simp only [List.map_cons, List.mem_cons] at hq ⊢ <;> tauto
    · split
      · split <;> intro hq <;> simp only [List.map_cons, List.mem_cons] at hq ⊢ <;> tauto
      · simp only [List.map_cons, List.mem_cons]
        rintro (rfl | h)
        · simp
        · rcases ih h with rfl | h' <;> simp_all

/-- Writing a page, or erasing one by writing none of its slots, keeps the form. -/
theorem putPage_wf {store : Store} (p : Nat) (page : Page) (h : storeWf store = true) :
    storeWf (putPage p page store) = true := by
  induction store with
  | nil =>
    unfold putPage
    split
    · rfl
    · rename_i he; simp [storeWf, he]
  | cons x rest ih =>
    obtain ⟨r, old⟩ := x
    obtain ⟨h1, h2, h3⟩ := (storeWf_cons r old rest).1 h
    unfold putPage
    split
    · rename_i hlt
      split
      · exact h
      · rename_i he
        refine (storeWf_cons _ _ _).2 ⟨by simpa using he, ?_, h⟩
        intro q hq
        simp only [List.map_cons, List.mem_cons] at hq
        rcases hq with rfl | hq
        · exact hlt
        · exact lt_trans hlt (h2 q hq)
    · split
      · rename_i heq
        subst heq
        split
        · exact h3
        · rename_i he
          exact (storeWf_cons _ _ _).2 ⟨by simpa using he, h2, h3⟩
      · rename_i hlt hne
        refine (storeWf_cons _ _ _).2 ⟨h1, ?_, ih h3⟩
        intro q hq
        rcases mem_pages_of_putPage hq with rfl | hq
        · omega
        · exact h2 q hq

/-- Erasing the pages of a page list keeps the form. -/
theorem erasePages_wf {store : Store} (pages : List Nat) (h : storeWf store = true) :
    storeWf (erasePages pages store) = true := by
  unfold erasePages
  induction pages generalizing store with
  | nil => exact h
  | cons p rest ih => exact ih (putPage_wf p [] h)

/-- Writing one plan word keeps the form. -/
theorem writeWord_wf {store : Store} (pages : List Nat) (i : Nat) (word : PlanWord) (h : storeWf store = true) :
    storeWf (writeWord pages store i word) = true := by
  unfold writeWord
  split
  · split
    · exact putPage_wf _ _ h
    · exact h
  · exact h

/-- Writing the plan words of a job keeps the form. -/
theorem writeWords_wf {store : Store} (pages : List Nat) (words : List (Nat × PlanWord)) (h : storeWf store = true) :
    storeWf (writeWords pages store words) = true := by
  unfold writeWords
  induction words generalizing store with
  | nil => exact h
  | cons w rest ih => exact ih (writeWord_wf pages w.1 w.2 h)

/-- The store at reset has the form. -/
theorem reset_store_wf : storeWf State.reset.store = true := rfl

end Sys2Proof.Machine
end

