-- ==== Sys2Proof/Tests/Slice0.lean ====
section
/-! SUPPORT. Tests: ill-formed commands, words of the layouts written out from the spec, the spec's worked examples, one step
of each command on a small state, and for each obligation with hypotheses a state and operands that meet them. The expected
values come from the rule or worked case a test names. -/

namespace Sys2Proof.Tests

open Sys2Proof Sys2Proof.Machine

/-! ### Small states -/

/-- The state a command leaves. -/
def after (c : Instr) (s : State) : State :=
  match exec c s with
  | .next t => t
  | .fault _ => s
  | .refused _ => s

/-- The response the port holds. -/
def answer (s : State) : Option Response :=
  match s.port.condition with
  | .responding r _ => some r
  | _ => none

/-- The 30 mm quartz composite of section 4.6's example record. -/
def quartz : Material :=
  ⟨3600, 200, 154, 118, 90, 256, 224, 160, 112, 80, 64, 48, 32, 0, 0, 0, 0, 0, 150, 300, 500, 20000, 400, 120, 128, 360, 120,
    150, 450⟩

def segment (kind role : Byte) (length : BitVec 24) (headingIn headingOut : BitVec 16) (radius : BitVec 24) : SegRecord :=
  ⟨kind, role, if radius = 0 then 0 else 1, 0, length, radius, headingIn, headingOut, 100, 200, 0⟩

/-- Contour 820, the sink corner of chapter 5. -/
def corner : List SegRecord :=
  [segment 0 0 6000 1024 1024 0, segment 0 1 150000 0 0 0, segment 2 1 18850 0 1024 12000, segment 0 1 90000 1024 1024 0,
    segment 0 2 5000 2048 2048 0]

/-- Its plan words, as the worked case tabulates them. -/
def cornerWords : List PlanWord :=
  [⟨0, 400, 560, false, 0⟩, ⟨400, 1217, 2029, false, 0⟩, ⟨1217, 1217, 1217, false, 0⟩, ⟨1217, 400, 2029, false, 0⟩,
    ⟨400, 0, 500, false, 0⟩]

def cornerPage : Page := corner.zipWith (fun r w => ⟨r, some w⟩) cornerWords

/-- An entry of the queue with one page, in a state. -/
def testEntry (id : Nat) (state : EntryState) : Entry where
  contourId := id
  tag := 0x0301
  material := 5
  quality := 3
  passes := 1
  pierceMode := .lowStationary
  closed := false
  startX := 11
  startY := 12
  pages := [0]
  commitsPending := 0
  state := state
  stamp := if state = .ready ∨ state.begun then some ⟨11, 100, 0⟩ else none
  overspeedCount := if state = .ready ∨ state.begun then some 0 else none
  donePlace := if state.begun then some ⟨2, 1⟩ else none
  resumePoint := if state = .held ∨ state = .failed then some ⟨2, 1⟩ else none
  holdCause := if state = .held ∨ state = .failed then some .operator else none
  lastHoldCause := none
  laterFault := if state.begun then some false else none
  resumeFailures := 0
  holdCount := 0
  restartMark := false

/-- A queue of entries over one page of contour 820, with quartz in record 5 at revision 11. -/
def withQueue (queue : List Entry) : State :=
  (((State.reset.setQueue queue).setStore [(0, cornerPage)]).setFreePages [1, 2, 3]).setMaterials
    (State.reset.materials.set 5 ⟨11, some quartz⟩)

/-- A job in flight for contour 820. -/
def testJob (kind : JobKind) : Job := ⟨kind, 820, ⟨quartz, 11, 100, 0, 256, 250000⟩, none, none⟩

/-- Contour 820 ACTIVE in a phase, with segments 0 and 1 done, the cursor before segment 2, and a jet as the phase has it. -/
def active (phase : Phase) : State :=
  ((withQueue [testEntry 820 .active]).setJsq
    { State.reset.jsq with
      phase := phase, contour := some 820
      valve := if phase.jetOpen then .opened else .closed, abrasive := if phase.jetOpen then 450 else 0 }).setStream
    { State.reset.stream with cursor := some (.seg ⟨2, 1⟩), lastExit := some 1217, nextSerial := 5, lastKind := some .seg }

/-- An exchange of an EMPTY record in progress. -/
def exchanging (s : State) : State := s.setMotion { s.motion with exchange := some ⟨⟨none, .empty 0⟩, [], false⟩ }

/-- A controller frame: report kind, override, field, and the check byte (R191). -/
def frame (kind raw : Byte) (field : BitVec 16) : Vector Byte 28 :=
  #v[kind, raw, field.extractLsb' 0 8, field.extractLsb' 8 8, 0, 0, 0, 0, 0, 0, 0, 0, 0, 0, 0, 0, 0, 0, 0, 0, 0, 0, 0, 0, 0, 0,
    0, -(kind + raw + field.extractLsb' 0 8 + field.extractLsb' 8 8)]

/-- A STATUS message: pressure in bytes 2 and 3, fault code and flow state in byte 4, and the check byte (R191). -/
def status (pressure : BitVec 16) (flags : Byte) : Vector Byte 6 :=
  #v[0xA5, 16, pressure.extractLsb' 0 8, pressure.extractLsb' 8 8, flags,
    -(0xA5 + 16 + pressure.extractLsb' 0 8 + pressure.extractLsb' 8 8 + flags)]

/-! ### Ill-formed commands (R28) -/

theorem test_bufWrite_of_no_record_refused : (Instr.bufWrite 0 0 []).wellFormed = false := by decide

theorem test_bufWrite_of_33_records_refused :
    (Instr.bufWrite 0 0 (List.replicate 33 (segment 0 1 1000 0 0 0))).wellFormed = false := by decide

theorem test_bufWrite_of_32_records_taken :
    (Instr.bufWrite 0 0 (List.replicate 32 (segment 0 1 1000 0 0 0))).wellFormed = true := by decide

/-! ### Words of the layouts, written out from R183, R189, R190 and R191 -/

/-- CONTOUR_APPEND of buffer A to contour 210: code 6, length 3, body 0, 210, 0 (worked sequence of chapter 12). -/
theorem test_bytes_contourAppend : decodeCommand 6 [0, 210, 0] = some (.contourAppend 0 210) := by decide

/-- BUF_WRITE of one record: buffer B, start_slot 255, an ARC_CCW of the body with radius 12,000 and dwell 40. -/
theorem test_bytes_bufWrite :
    decodeCommand 2
        [1, 255, 2, 1, 1, 7, 0xA2, 0x49, 0, 0xE0, 0x2E, 0, 0, 0, 0, 4, 0x80, 0xEE, 0x36, 0, 1, 2, 3, 4, 40, 0]
      = some (.bufWrite 1 255 [⟨2, 1, 1, 7, 18850, 12000, 0, 1024, 3600000, 0x04030201, 40⟩]) := by decide

/-- CONTOUR_OPEN of contour 820: tag 0x0301, material 5, quality 3, one pass, pierce mode 0, closed, start, before 0. -/
theorem test_bytes_contourOpen :
    decodeCommand 5 [0x34, 3, 1, 3, 5, 3, 1, 0, 0, 11, 0, 0, 0, 12, 0, 0, 0, 0, 0]
      = some (.contourOpen 820 0x0301 5 3 1 0 0 11 12 0) := by decide

theorem test_bytes_finishedRead : decodeCommand 17 [16] = some (.finishedRead 16) := by decide

theorem test_bytes_matInvalidate : decodeCommand 20 [23] = some (.matInvalidate 23) := by decide

theorem test_bytes_configSet :
    decodeCommand 21 [0x80, 0xEE, 0x36, 0, 0x20, 0x0B, 0x20, 0, 0, 0, 0x7C, 1, 0, 0, 5, 30, 20, 0xE8, 3, 200, 0, 0x90, 0xD0, 3]
      = some (.configSet State.powerOnConfig) := by decide

theorem test_bytes_wearLoad : decodeCommand 25 [3, 0x87, 0xD6, 0x12, 0] = some (.wearLoad 3 1234567) := by decide

theorem test_bytes_routeSet : decodeCommand 28 [0xFF, 0x7F, 0x10, 0, 0, 1] = some (.routeSet 0x7FFF 0x0010 0 1) := by decide

theorem test_bytes_hold : decodeCommand 14 [] = some .hold := by decide

theorem test_bytes_unknown_code : decodeCommand 33 [] = none := by decide

/-- A table whose rows give no bits spells no command. -/
theorem test_no_word_spells_a_command : decodeTableWord 8 14 = none := by decide

/-- SEG_DONE of serial 258 at override 100: bytes 1, 100, 2, 1 and the check byte 152. -/
theorem test_frame_segDone : decodeFrame (frame 1 100 258) = some (100, .segDone 258) := by decide

theorem test_frame_bad_check : decodeFrame ((frame 1 100 258).set 27 0) = none := by decide

theorem test_frame_kind_11 : decodeFrame (frame 11 100 0) = none := by decide

/-- TRAVERSE with serial 1: kind 2, target x 100, y 200, speed 250,000, check. -/
theorem test_frame_traverse :
    (Placed.mk (some 1) (.control (.traverse 100 200 250000))).frame
      = [2, 1, 0, 100, 0, 0, 0, 200, 0, 0, 0, 0x90, 0xD0, 3, 0, 0, 0, 0, 0, 0, 0, 0, 0, 0, 0, 0, 0, 0x6E] := by decide

/-- SET_PRESSURE 360: lead byte, kind 1, 360 low byte first, 0, check. -/
theorem test_message_pressure : (PumpMessage.setPressure 360).bytes = [0xA5, 1, 0x68, 1, 0, 0xF1] := by decide

/-- A STATUS of 305 MPa, fault code 2, flow LOW; ignored bits set. -/
theorem test_status_decodes : decodeStatus (status 305 0xDA).toList = some ⟨305, 2, .low⟩ := by decide

theorem test_status_flow_3_malformed : decodeStatus (status 305 0x30).toList = none := by decide

/-- Pressures of 600 and 601, fault codes of 4 and 5, bits 3 and 6 of the flags, which stand for nothing, and a wrong kind. -/
theorem test_status_fields_at_their_ends :
    [status 600 4, status 601 0, status 0 5, status 300 0x6C, (status 300 0).set 1 17].map (fun m => decodeStatus m.toList)
      = [some ⟨600, 4, .ok⟩, none, none, some ⟨300, 4, .noFlow⟩, none] := by decide

/-! ### The worked cases of chapters 3, 4 and 5 -/

/-- Contour 820 at quality 3, wear level 1 with factor 240, and an override. -/
def cornerInput (override : Nat) : PlanInput := ⟨corner, 1, 3, ⟨quartz, 11, override, 1, 240, 250000⟩⟩

/-- The contour plan of the quartz sink corner. -/
theorem test_plan_of_sink_corner :
    jobWords (cornerInput 100) (testJob .contour) = (List.range 5).zip cornerWords := by decide

/-- The pendant hold: the search stops at boundary 3, and the STOP job writes segment 2. -/
theorem test_stop_in_sink_corner :
    stopSearch (cornerInput 100) (fun i => (cornerWords[i]?).map PlanWord.exit) ⟨.seg ⟨2, 1⟩, 1217⟩ = ⟨[2], .seg ⟨3, 1⟩⟩
      ∧ jobWords (cornerInput 100)
          { testJob .stop with fixed := some ⟨.seg ⟨2, 1⟩, 1217⟩, stop := some ⟨[2], .seg ⟨3, 1⟩⟩ }
        = [(2, ⟨1217, 0, 1217, false, 0⟩)] := by decide

/-- The override fall to 50: segment 2 is flagged. -/
theorem test_override_fall_in_sink_corner :
    jobWords (cornerInput 50) { testJob .remainder with fixed := some ⟨.seg ⟨2, 1⟩, 1217⟩ }
      = [(2, ⟨1217, 608, 1217, true, 0⟩), (3, ⟨608, 400, 1014, false, 0⟩), (4, ⟨400, 0, 500, false, 0⟩)] := by decide

/-- Contour 821: the descent that must be raised. -/
theorem test_descent_raised :
    jobWords
        ⟨[segment 0 0 6000 1024 1024 0, segment 0 1 200000 0 0 0, segment 0 1 4000 0 0 0, segment 2 1 18850 0 1024 12000,
          segment 0 1 90000 1024 1024 0, segment 0 2 5000 2048 2048 0], 1, 3, ⟨quartz, 11, 50, 1, 240, 250000⟩⟩
        { testJob .remainder with fixed := some ⟨.seg ⟨2, 1⟩, 1697⟩ }
      = [(2, ⟨1697, 1217, 1697, true, 0⟩), (3, ⟨1217, 608, 1217, true, 0⟩), (4, ⟨608, 400, 1014, false, 0⟩),
        (5, ⟨400, 0, 500, false, 0⟩)] := by decide +kernel

/-- Contour 305, the tap hole of three passes: two lead-ins, five body segments, a lead-out. -/
def tapHole : List SegRecord :=
  [segment 0 0 1000 0 0 0, segment 0 0 1000 0 0 0, segment 0 1 1000 0 0 0, segment 0 1 1000 0 0 0, segment 3 1 1000 0 0 0,
    segment 0 1 1000 0 0 0, segment 0 1 1000 0 0 0, segment 0 2 1000 0 0 0]

theorem test_cut_order_of_tap_hole :
    successor tapHole 3 ⟨6, 1⟩ = .seg ⟨2, 2⟩ ∧ successor tapHole 3 ⟨6, 3⟩ = .seg ⟨7, 3⟩ ∧ successor tapHole 3 ⟨7, 3⟩ = .fin
      ∧ predecessor tapHole ⟨2, 3⟩ = some ⟨6, 2⟩ ∧ predecessor tapHole ⟨5, 2⟩ = some ⟨4, 2⟩
      ∧ structureFault true 3 tapHole = none := by decide

/-- Segment 37 over the page list 40, 42 with counts 32 and 8 is slot 5 of page 42. -/
theorem test_segment_37 :
    locate [(40, List.replicate 32 ⟨segment 0 1 1 0 0 0, none⟩), (42, List.replicate 8 ⟨segment 0 1 1 0 0 0, none⟩)] [40, 42] 37
      = some (42, 5) := by decide +kernel

/-- With pump_p_min 80 and pump_p_max 340: 120 stays, 360 becomes 340, 0 becomes 80 (section 4.6). -/
theorem test_pressure_clamp :
    clampPressure { State.powerOnConfig with pumpPMin := 80, pumpPMax := 340 } 120 = 120
      ∧ clampPressure { State.powerOnConfig with pumpPMin := 80, pumpPMax := 340 } 360 = 340
      ∧ clampPressure { State.powerOnConfig with pumpPMin := 80, pumpPMax := 340 } 0 = 80
      ∧ materialFault quartz = none := by decide

/-! ### One step of each command -/

theorem test_powerOnReset : (after .powerOnReset (active .cutting)).queue = [] := by decide

theorem test_jobReset_shuts_and_aborts :
    (after .jobReset (active .cutting)).stream.due = [.abort]
      ∧ (after .jobReset (active .cutting)).jsq.valve = .closed := by decide

theorem test_commandByteWrite_while_responding_sets_ovr :
    (after (.commandByteWrite false 7) (after .hold State.reset)).port.ovr = true := by decide

theorem test_commandByteWrite_first_byte :
    (after (.commandByteWrite true 6) State.reset).port.condition = .receiving [6] := by decide

theorem test_commandByteGap :
    answer (after .commandByteGap (State.reset.setPort ⟨.receiving [6, 3, 0, 0], false, 0⟩)) = some ⟨.badCommand, .empty⟩ := by
  decide

theorem test_statusByteRead_clears_ovr :
    (after .statusByteRead (State.reset.setPort ⟨.responding ⟨.ok, .empty⟩ 0, true, 0⟩)).port.dataOut = 0x0B
      ∧ (after .statusByteRead (State.reset.setPort ⟨.responding ⟨.ok, .empty⟩ 0, true, 0⟩)).port.ovr = false := by decide

theorem test_responseByteRead_outside_responding : (after .responseByteRead State.reset).port.dataOut = 0 := by decide

theorem test_responseByteRead_status_byte_first :
    (after .responseByteRead (State.reset.setPort ⟨.responding ⟨.badCommand, .empty⟩ 0, false, 0⟩)).port
      = ⟨.responding ⟨.badCommand, .empty⟩ 1, false, 12⟩ := by decide

theorem test_jobPortWriteIgnored : after (.jobPortWriteIgnored 9) State.reset = State.reset := rfl

theorem test_bufClear_of_third_buffer : answer (after (.bufClear 2) State.reset) = some (badField 0) := by decide

theorem test_bufWrite_wraps :
    (after (.bufWrite 0 31 [segment 0 1 1 0 0 0, segment 0 1 2 0 0 0]) State.reset).bufA.pointer = 1 := by decide

theorem test_bufRead_slot_32 : answer (after (.bufRead 0 32) State.reset) = some (badField 1) := by decide

theorem test_commitStatus_fresh : answer (after (.commitStatus 1) State.reset)
    = some ⟨.ok, .commitStatus ⟨.free, none, none⟩⟩ := by decide

theorem test_contourOpen_before_active_head_goes_behind_it :
    ((after (.contourOpen 9 0 5 1 1 0 1 0 0 820) (withQueue [testEntry 820 .active, testEntry 7 .loading])).queue.map
      Entry.contourId) = [820, 9, 7] := by decide

theorem test_contourOpen_names_pass_field :
    answer (after (.contourOpen 9 0 5 1 5 0 1 0 0 0) (withQueue [])) = some (badField 6) := by decide

theorem test_contourAppend_takes_lowest_free_page :
    answer (after (.contourAppend 0 820)
      ((withQueue [testEntry 820 .loading]).setBufA ⟨State.reset.bufA.slots.set 0 (some (segment 0 1 1 0 0 0)), 1, .free, none⟩))
      = some ⟨.ok, .pageAndState 1 .committing⟩ := by decide

theorem test_contourReplace_of_active_refused :
    answer (after (.contourReplace 0 820 0) (active .cutting)) = some (plainRefusal .wrongState) := by decide

theorem test_contourClose_starts_plan :
    ((after (.contourClose 820) (withQueue [testEntry 820 .loading])).planner.job.map Job.contour) = some 820 := by decide

theorem test_contourDelete_of_held_refused :
    answer (after (.contourDelete 820) (withQueue [testEntry 820 .held])) = some (plainRefusal .wrongState) := by decide

theorem test_contourMove_to_tail :
    ((after (.contourMove 1 0) (withQueue [testEntry 1 .loading, testEntry 2 .loading])).queue.map Entry.contourId)
      = [2, 1] := by decide

theorem test_contourQuery_missing : answer (after (.contourQuery 5) State.reset) = some (plainRefusal .notFound) := by decide

theorem test_queueList : answer (after .queueList (active .cutting)) = some ⟨.ok, .queue [(820, .active)]⟩ := by decide

theorem test_filterSkip_by_mask :
    (after (.filterSkip 0x0300 0xFF00) (withQueue [testEntry 1 .active, testEntry 2 .ready])).queue.map Entry.contourId
      = [1] := by decide

theorem test_finishedRead_of_none : answer (after (.finishedRead 1) State.reset) = some ⟨.ok, .finished []⟩ := by decide

/-- The worked sequence of chapter 4: a write of record 5 returns the READY and the PLANNING user. -/
theorem test_matWrite_returns_users :
    answer (after (.matWrite 5 { quartz with slope := 100 })
      (withQueue [testEntry 602 .ready, testEntry 603 .planning, testEntry 604 .loading]))
      = some ⟨.ok, .materialWritten 12 2⟩ := by decide

theorem test_matWrite_of_record_in_use :
    answer (after (.matWrite 5 quartz) (active .cutting)) = some ⟨.inUse, .refusal ⟨none, some 820, none, none⟩⟩ := by decide

theorem test_matRead : answer (after (.matRead 5) (active .cutting))
    = some ⟨.ok, .material ⟨11, 1, some 820, some quartz⟩⟩ := by decide

theorem test_matInvalidate_keeps_revision :
    (after (.matInvalidate 5) (withQueue [])).materials[5] = ⟨11, none⟩ := by decide

theorem test_configSet_names_pump_p_min :
    answer (after (.configSet { State.powerOnConfig with pumpPMin := 200, pumpPMax := 100 }) State.reset)
      = some (badField 8) := by decide

theorem test_configRead : answer (after .configRead State.reset) = some ⟨.ok, .config State.powerOnConfig⟩ := by decide

theorem test_wearConfig_of_new_source_restarts :
    (after (.wearConfig 1 3 7) (State.reset.setWear { State.reset.wear with c1 := ⟨.pierces, 5, 0, 0, false⟩ })).wear.c1
      = ⟨.cutLength, 0, 0, 7, false⟩ := by decide

theorem test_wearLevels_used_order :
    answer (after (.wearLevels 0 5 0 256 256 256) State.reset) = some (badField 4) := by decide

/-- The worked sequence of chapter 11: 180,000 reaches T1. -/
theorem test_wearLoad_reaches_threshold :
    (after (.wearLoad 0 180000)
      (State.reset.setWear { State.reset.wear with t1 := 180000, t2 := 288000, t3 := 360000 })).wear.level = 1 := by decide

theorem test_wearReset_of_counter_4 : answer (after (.wearReset 4) State.reset) = some (badField 0) := by decide

theorem test_wearRead : answer (after .wearRead State.reset) = some ⟨.ok, .wear State.reset.wear⟩ := by decide

theorem test_routeSet_mode_2 : answer (after (.routeSet 0 0 0 2) State.reset) = some (badField 5) := by decide

theorem test_eventsRead : answer (after .eventsRead State.reset)
    = some ⟨.ok, .events ⟨0, 0, 0x7FFF, 0x05F0, .level, .level⟩⟩ := by decide

/-- The worked sequence of chapter 12: an acknowledgement of source 1 leaves source 5. -/
theorem test_eventsAck :
    answer (after (.eventsAck 1)
      (State.reset.setAttention ⟨{ State.reset.attention.jatn with pending := 0x0011 }, State.reset.attention.matn⟩))
      = some ⟨.ok, .jatnSet 0x0010⟩ := by decide

theorem test_status_of_reset :
    ((answer (after .status State.reset)).map Response.status) = some .ok := by decide

theorem test_commitComplete_of_deleted_entry :
    (after .commitComplete (State.reset.setEngine [⟨.append, .a, 9, false, 1, 40⟩])).bufA.last
      = some ⟨.notFound, .append, 9, 40⟩ := by decide

theorem test_contourPlanComplete_activates_head :
    (after .contourPlanComplete ((withQueue [testEntry 820 .planning]).setPlanner ⟨some (testJob .contour), false⟩)).jsq.phase
      = .positioning := by decide

theorem test_activeJobComplete_opens_gate :
    (after .activeJobComplete
      ((active .cutting).setPlanner ⟨some { testJob .remainder with fixed := some ⟨.seg ⟨2, 1⟩, 1217⟩ }, false⟩)).planner.job
      = none := by decide

/-- A cutting segment is sent in CUTTING: the cursor moves to segment 3 and the last exit sent is 1217. -/
theorem test_motionFrameStart_sends_segment :
    (after .motionFrameStart (active .cutting)).stream.cursor = some (.seg ⟨3, 1⟩)
      ∧ (after .motionFrameStart (active .cutting)).stream.nextSerial = 6 := by decide

theorem test_motionFrameStart_in_positioning_sends_empty :
    ((after .motionFrameStart (active .positioning)).motion.exchange.map fun x => x.placed.serial) = some none := by decide

theorem test_motionFrameComplete_clamps_override :
    (after (.motionFrameComplete (frame 0 255 0)) (exchanging State.reset)).motion.override = 150 := by decide

theorem test_motionFrameComplete_hold_request :
    (after (.motionFrameComplete (frame 4 100 0)) (exchanging (active .cutting))).jsq.phase = .holding := by decide

theorem test_motionFrameCutShort_repeats :
    (after .motionFrameCutShort (exchanging State.reset)).stream.again = some ⟨none, .empty 0⟩ := by decide

theorem test_motionLinkTimeout_in_cutting_holds :
    ((after .motionLinkTimeout (active .cutting)).queue.map fun e => (e.state, e.holdCause))
      = [(.held, some .motionLinkFault)] := by decide

theorem test_pressureWaitExpiry :
    ((after .pressureWaitExpiry
      ((active .positioning).setJsq { (active .positioning).jsq with wait := some ⟨120, 0⟩ })).queue.map Entry.holdCause)
      = [some .pressureTimeout] := by decide

theorem test_pierceTimerExpiry_steps_to_cut_pressure :
    (after .pierceTimerExpiry
      ((active .piercing).setJsq { (active .piercing).jsq with pierceMs := some 0, startMode := some .lowStationary })).pump.target
      = 360 := by decide

theorem test_pumpMessageTransmitted_ends_bridge_stop :
    (after .pumpMessageTransmitted
      ((active .bridgeStop).setPump { (active .bridgeStop).pump with transmit := [.setValve .closed] })).jsq.phase
      = .bridgeTravel := by decide

/-- The worked sequence of chapter 10: the second low report in a row is a sag, and the contour is aborted. -/
theorem test_pumpStatus_second_sag_aborts :
    (after (.pumpStatus (status 296 0x10))
      ((active .cutting).setPump { (active .cutting).pump with target := 340, ready := true, sag := 1 })).jsq.phase
      = .aborting := by decide

/-- A pierce_time of 0 expires as soon as its timer is started (R65, R118): the report that opens the jet ends in CUT_PRESSURE,
with the pierce counted. -/
theorem test_pumpStatus_pierce_time_0_at_once :
    (let s := ((active .positioning).setMaterials
        (State.reset.materials.set 5 ⟨11, some { quartz with pierceTime := 0 }⟩)).setJsq
      { (active .positioning).jsq with
        arrived := some true, startMode := some .lowStationary, wait := some ⟨120, 900⟩ }
    let t := after (.pumpStatus (status 120 0)) (s.setPump { s.pump with target := 120 })
    (t.jsq.phase, t.jsq.pierceMs, t.jsq.valve, t.wear.c1.value, t.pump.target)) = (.cutPressure, none, .opened, 1, 360) := by
  decide

theorem test_pumpByteReceived_waits_for_lead :
    (after (.pumpByteReceived 16) State.reset).pump.assembly = none
      ∧ (after (.pumpByteReceived 0xA5) State.reset).pump.assembly = some ⟨[0xA5], 5⟩ := by decide

theorem test_pumpAssemblyTimeout :
    (after .pumpAssemblyTimeout (after (.pumpByteReceived 0xA5) State.reset)).pump.assembly = none := by decide

theorem test_pumpReportTimeout : (after .pumpReportTimeout State.reset).pump.link = .silent := by decide

theorem test_wearTimeUnit :
    (after (.wearTimeUnit 2)
      ((active .cutting).setWear { State.reset.wear with c2 := ⟨.valveTime, 4, 99, 0, false⟩ })).wear.c2.value = 5 := by decide

theorem test_millisecondTick_counts_open_valve :
    (after .millisecondTick (active .cutting)).wear.c2.remainder = 1
      ∧ (after .millisecondTick (active .positioning)).wear.c2.remainder = 0 := by decide

/-- JATN in PULSE mode with a pulse state. -/
def pulsing (p : Pulse) : State :=
  State.reset.setAttention ⟨{ State.reset.attention.jatn with mode := .pulse, pulse := p }, State.reset.attention.matn⟩

theorem test_attentionPulseEnd_owed : (after (.attentionPulseEnd .jatn) (pulsing (.high true))).attention.jatn.pulse = .gap := by
  decide

theorem test_attentionPulseGapEnd :
    (after (.attentionPulseGapEnd .jatn) (pulsing .gap)).attention.jatn.pulse = .high false := by decide

theorem test_hold_of_empty_queue : answer (after .hold State.reset) = some (plainRefusal .wrongState) := by decide

theorem test_resume_refused_by_fault_code :
    answer (after .resume ((withQueue [testEntry 820 .held]).setPump
      { State.reset.pump with report := some ⟨190, 2, .noFlow⟩ })) = some (plainRefusal .notReady) := by decide

theorem test_skip_of_held_finishes_it :
    ((after .skip (withQueue [testEntry 820 .held])).finished.map fun f => (f.contourId, f.outcome, f.segmentsDone))
      = [(820, .skipped, 2)] := by decide

/-- With no command waiting the part idles. -/
theorem test_step_idles : step State.reset = .next State.reset := rfl

/-! ### Witnesses: states and operands that meet the hypotheses of each obligation, clause by clause

A theorem `witness_<obligation>` gives, for each clause of it, operands that meet its hypotheses together, at a boundary of
their range where there is one. -/

theorem portOpen_reset : portOpen State.reset := .inl rfl

theorem portOpen_withQueue (queue : List Entry) : portOpen (withQueue queue) := .inl rfl

theorem portOpen_active (phase : Phase) : portOpen (active phase) := .inl rfl

theorem quiet_reset : Quiet State.reset := ⟨rfl, rfl⟩

theorem quiet_active (phase : Phase) : Quiet (active phase) := ⟨rfl, rfl⟩

theorem withQueue_queue (queue : List Entry) : (withQueue queue).queue = queue := rfl

theorem active_queue (phase : Phase) : (active phase).queue = [testEntry 820 .active] := rfl

theorem active_jsq (phase : Phase) : (active phase).jsq.phase = phase := rfl

theorem queueLaw_one (e : Entry) : QueueLaw (withQueue [e]) := by
  refine ⟨?_, ?_, ?_, Nat.zero_le _⟩ <;> simp [withQueue_queue]

theorem queueLaw_active (phase : Phase) : QueueLaw (active phase) := queueLaw_one (testEntry 820 .active)

/-- The laws of the jet hold over one ACTIVE entry in a phase of a contour being cut, with the jet as the phase has it. -/
theorem jetSafe_one (s : State) (e : Entry) (hq : s.queue = [e]) (he : e.state = .active) (hf : s.finished = [])
    (hj : ∀ job, s.planner.job = some job → job.kind ≠ .contour) (hi : s.jsq.phase ≠ .idle) (hfin : s.jsq.phase ≠ .finishing)
    (hv : s.jsq.valve = if s.jsq.phase.jetOpen then .opened else .closed)
    (ha : s.jsq.abrasive = if s.jsq.phase.jetOpen then 450 else 0) : JetSafe s := by
  have hact : s.activeEntry = some e := by simp [State.activeEntry, hq, he]
  refine ⟨⟨by simp [hq], by simp [hq], by simp [hq], by simp [hf]⟩, ⟨by simp [hact, hi, hfin], ?_, ?_, ?_⟩, ?_, ?_⟩
  · intro ho
    cases h : s.jsq.phase.jetOpen <;> simp_all
  · intro job h hk
    exact absurd hk (hj job h)
  · intro x hx hs
    rw [hq, List.mem_singleton] at hx
    subst hx
    rw [he] at hs
    cases hs
  · intro hc
    cases h : s.jsq.phase.jetOpen <;> simp_all
  · simp [ShutLaw, hact]

theorem jetSafe_active (phase : Phase) (h : phase ≠ .idle) (h' : phase ≠ .finishing) : JetSafe (active phase) :=
  jetSafe_one (active phase) (testEntry 820 .active) rfl rfl rfl (fun _ hj => nomatch hj) h h' rfl rfl

/-- And over a queue whose head is HELD, with JSQ in IDLE. -/
theorem jetSafe_held : JetSafe (withQueue [testEntry 820 .held]) := by
  refine ⟨queueLaw_one _, ⟨by decide, by decide, ?_, ?_⟩, by unfold JetLaw; decide, by unfold ShutLaw; decide⟩
  · intro job hj; cases hj
  · intro e he hs
    rw [withQueue_queue, List.mem_singleton] at he
    subst he
    cases hs

theorem witness_StepRunsFrontCommand : State.reset.pending = [] := rfl

theorem witness_EveryCommandAnswers : Quiet State.reset ∧ exec .hold State.reset = .next (after .hold State.reset) :=
  ⟨quiet_reset, rfl⟩

theorem witness_JobResetClearsWork : portOpen (active .cutting) ∧ portOpen (State.reset.setPort ⟨.receiving [32, 0], true, 0⟩) :=
  ⟨portOpen_active _, .inr ⟨_, rfl⟩⟩

/-- Lengths 771, 770, 1 and 0; a body at its last byte and before it; every condition. -/
theorem witness_CommandBytesCounted :
    State.reset.port.condition = .waitHeader
      ∧ 770 < (join2 0x03 0x03).toNat ∧ (join2 0x02 0x03).toNat = 770 ∧ (join2 0x01 0).toNat = 1
      ∧ ((join2 0 0).toNat = 0 ∧ decodeCommand 1 [] = none)
      ∧ ([] : List Byte).length + 1 < (join2 3 0).toNat
      ∧ (([] : List Byte).length + 1 = (join2 1 0).toNat ∧ decodeCommand 14 ([] ++ [7]) = none)
      ∧ (State.reset.setPort ⟨.receiving [6], false, 0⟩).port.condition = .receiving [6]
      ∧ (State.reset.setPort ⟨.executing, false, 0⟩).port.condition = .executing
      ∧ (State.reset.setPort ⟨.responding ⟨.ok, .empty⟩ 0, false, 0⟩).port.condition = .responding ⟨.ok, .empty⟩ 0 := by
  decide

/-- The longest command, of 770 body bytes, and the shortest. -/
theorem witness_WholeCommandRunsItsRow :
    State.reset.port.condition = .waitHeader
      ∧ (Instr.bufWrite 1 255 (List.replicate 32 (segment 0 1 1000 0 0 0))).wellFormed = true
      ∧ (encodeCommand (.bufWrite 1 255 (List.replicate 32 (segment 0 1 1000 0 0 0)))).isSome = true
      ∧ Instr.hold.wellFormed = true ∧ encodeCommand .hold = some (14, []) := by decide

theorem witness_CommandCodecRoundTrip :
    (Instr.contourClose 65535).wellFormed = true ∧ encodeCommand (.contourClose 65535) = some (8, [255, 255])
      ∧ decodeCommand 8 [255, 255] = some (.contourClose 65535) := by decide

/-- A response of three bytes: its first and its last byte; a condition other than RESPONDING. -/
theorem witness_PortReads :
    0 + 1 < (⟨.busy, .empty⟩ : Response).bytes.length ∧ (⟨.busy, .empty⟩ : Response).bytes.length ≤ 2 + 1
      ∧ ∀ r k, State.reset.port.condition ≠ .responding r k :=
  ⟨by decide, by decide, by intro r k h; cases h⟩

theorem witness_RefusalChangesNothing :
    (encodeCommand .hold).isSome = true ∧ portOpen State.reset ∧ exec .hold State.reset = .next (after .hold State.reset)
      ∧ (after .hold State.reset).port.condition = .responding (plainRefusal .wrongState) 0
      ∧ (plainRefusal .wrongState).status ≠ .ok :=
  ⟨rfl, portOpen_reset, rfl, rfl, by decide⟩

/-- Buffer numbers 2, 0 and 1, a FREE buffer and one that is committing. -/
theorem witness_BufClearEmptiesBuffer :
    portOpen State.reset ∧ (2 : Byte) ≠ 0 ∧ (2 : Byte) ≠ 1 ∧ BufferName.ofByte 0 = some .a ∧ BufferName.ofByte 1 = some .b
      ∧ (State.reset.buffer .b).state = .free
      ∧ ((State.reset.setBufA { State.freshBuffer with state := .committing }).buffer .a).state ≠ .free :=
  ⟨portOpen_reset, by decide⟩

/-- One record from slot 31 on, and 32 records from the write pointer on. -/
theorem witness_BufWriteFillsSlots :
    portOpen State.reset ∧ BufferName.ofByte 1 = some .b ∧ (State.reset.buffer .b).state = .free
      ∧ (1 ≤ [segment 0 1 1 0 0 0].length ∧ [segment 0 1 1 0 0 0].length ≤ 32
        ∧ ((31 : Byte).toNat ≤ 31 ∧ 31 = (31 : Byte).toNat))
      ∧ (1 ≤ (List.replicate 32 (segment 0 1 1 0 0 0)).length ∧ (List.replicate 32 (segment 0 1 1 0 0 0)).length ≤ 32
        ∧ ((255 : Byte) = 255 ∧ 0 = (State.reset.buffer .b).pointer.val)) :=
  ⟨portOpen_reset, by decide⟩

theorem witness_BufReadReturnsSlot :
    portOpen State.reset ∧ (2 : Byte) ≠ 0 ∧ (2 : Byte) ≠ 1 ∧ BufferName.ofByte 1 = some .b ∧ 31 < (32 : Byte).toNat
      ∧ (31 : Byte).toNat < 32 :=
  ⟨portOpen_reset, by decide⟩

/-- A state with a buffer that holds one record, over one entry. -/
def staged (e : Entry) (b : Buffer) : State := (withQueue [e]).setBufA b

/-- A buffer with slot 0 filled. -/
def filled : Buffer := ⟨State.freshBuffer.slots.set 0 (some (segment 0 1 1 0 0 0)), 1, .free, none⟩

/-- An append to a LOADING entry whose page list has room for one page more, and a replace at position 0 of a READY entry. -/
theorem witness_CommitsAccepted :
    portOpen (staged { testEntry 820 .loading with pages := List.range 31 } filled) ∧ BufferName.ofByte 0 = some .a
      ∧ (let s := staged { testEntry 820 .loading with pages := List.range 31 } filled
        ∃ e, s.entry (820 : BitVec 16).toNat = some e ∧ (s.buffer .a).state = .free ∧ (s.buffer .a).fill = some 1
          ∧ e.state = .loading ∧ e.pages.length
            + s.engine.countP (fun c => c.kind == .append && c.contour == (820 : BitVec 16).toNat && c.bound) < 32
          ∧ s.freePages = 1 :: [2, 3])
      ∧ (let s := staged (testEntry 820 .ready) filled
        ∃ e, s.entry (820 : BitVec 16).toNat = some e ∧ e.state ∈ [.loading, .waitingPlan, .planning, .ready]
          ∧ e.pages[(0 : Byte).toNat]? = some 0 ∧ (s.buffer .a).fill = some 1) :=
  ⟨.inl rfl, rfl, ⟨_, rfl, by decide⟩, ⟨_, rfl, by decide⟩⟩

/-- Each refusal of a write and of a commit request. -/
theorem witness_CommitRefusals :
    portOpen (staged (testEntry 820 .loading) filled)
      ∧ (([] : List SegRecord).length = 0 ∧ 32 < (List.replicate 33 (segment 0 1 1 0 0 0)).length)
      ∧ ((2 : Byte) ≠ 0 ∧ (2 : Byte) ≠ 1) ∧ BufferName.ofByte 0 = some .a ∧ (31 < (32 : Byte).toNat ∧ (32 : Byte) ≠ 255)
      ∧ (staged (testEntry 820 .loading) { filled with state := .commitWaiting }).bufA.state ≠ .free
      ∧ (staged (testEntry 820 .loading) filled).entry 9 = none
      ∧ (staged (testEntry 820 .ready) filled).entry 820 = some (testEntry 820 .ready)
      ∧ (staged (testEntry 820 .loading) State.freshBuffer).bufA.fill = none
      ∧ 32 ≤ ({ testEntry 820 .loading with pages := List.range 32 } : Entry).pages.length
      ∧ ((staged (testEntry 820 .loading) filled).setFreePages []).freePages = []
      ∧ EntryState.failed ∈ [EntryState.active, .held, .failed]
      ∧ (testEntry 820 .ready).pages.length ≤ (1 : Byte).toNat :=
  ⟨.inl rfl, by decide⟩

/-- A state with one commit in the engine. -/
def committing (kind : CommitKind) (bound : Bool) (e : Entry) (b : Buffer) : State :=
  (staged e { b with state := .committing }).setEngine [⟨kind, .a, 820, bound, 1, 0⟩]

/-- A buffer whose one record is a body line, valid on its own but no contour with a bridge, and one whose record is bad. -/
def bridgeOnly : Buffer := { filled with slots := filled.slots.set 0 (some (segment 3 1 1 0 0 0)) }

def badRecord : Buffer := { filled with slots := filled.slots.set 0 (some (segment 4 1 1 0 0 0)) }

theorem queueLaw_committing (kind : CommitKind) (bound : Bool) (e : Entry) (b : Buffer) :
    QueueLaw (committing kind bound e b) :=
  queueLaw_one e

/-- An append and a replace of a LOADING entry, and a replace of a READY one that passes the structure checks. -/
theorem witness_CommitCompletesOk :
    (∀ kind e b, QueueLaw (committing kind true e b) ∧ (committing kind true e b).engine = ⟨kind, .a, 820, true, 1, 0⟩ :: [])
      ∧ (committing .append true (testEntry 820 .loading) filled).entry 820 = some (testEntry 820 .loading)
      ∧ (committing .replace true (testEntry 820 .ready) filled).entry 820 = some (testEntry 820 .ready)
      ∧ firstRecordFault State.powerOnConfig 0 (leadingRecords (filled.slots.toList.take 1)) = none
      ∧ (testEntry 820 .ready).state ∈ [EntryState.waitingPlan, .planning, .ready]
      ∧ structureFault false 1
        (segmentsOf (putPage 0 (freshPage (leadingRecords (filled.slots.toList.take 1))) [(0, cornerPage)]) [0]) = none :=
  ⟨fun kind e b => ⟨queueLaw_committing kind true e b, rfl⟩, by decide⟩

/-- The engine free, with a plan in flight for the replaced PLANNING entry, for another entry, and with an active request;
another entry that waits; and a second commit that waits. -/
theorem witness_CommitCompletesOk_engine :
    ((committing .replace true (testEntry 820 .planning) filled).planner.job = none
        ∧ (committing .replace true (testEntry 820 .planning) filled).entry 820 = some (testEntry 820 .planning)
        ∧ (testEntry 820 .planning).state ∈ [EntryState.waitingPlan, .planning, .ready]
        ∧ (testJob .contour).kind = .contour ∧ (testJob .contour).contour = 820 ∧ (testJob .stop).kind ≠ .contour
        ∧ ({ testJob .contour with contour := 9 } : Job).contour ≠ 820)
      ∧ QueueLaw (withQueue [testEntry 820 .loading, testEntry 9 .waitingPlan])
      ∧ (testEntry 9 .waitingPlan ∈ [testEntry 820 .loading, testEntry 9 .waitingPlan]
        ∧ (testEntry 9 .waitingPlan).contourId ≠ 820)
      ∧ ([testEntry 820 .loading, testEntry 9 .waitingPlan] = [testEntry 820 .loading] ++ testEntry 9 .waitingPlan :: []
        ∧ ∀ x ∈ [testEntry 820 .loading], x.state ≠ .waitingPlan)
      ∧ ∀ d ∈ ([⟨.append, .b, 9, true, 1, 3⟩] : List Commit), d.buffer ≠ .a :=
  ⟨by decide, by unfold QueueLaw; decide, by decide, by decide, by decide⟩

/-- An entry that has left, a record that fails in slot 0, and a replace that would leave only a bridge. -/
theorem witness_FailedCommitChangesNoPage :
    (committing .append false (testEntry 820 .loading) filled).engine = ⟨.append, .a, 820, false, 1, 0⟩ :: []
      ∧ (committing .append true (testEntry 9 .loading) filled).entry 820 = none
      ∧ ((committing .append true (testEntry 820 .loading) badRecord).entry 820 = some (testEntry 820 .loading)
        ∧ firstRecordFault State.powerOnConfig 0 (leadingRecords (badRecord.slots.toList.take 1)) = some (0, .badKind))
      ∧ (firstRecordFault State.powerOnConfig 0 (leadingRecords (bridgeOnly.slots.toList.take 1)) = none
        ∧ structureFault false 1
          (segmentsOf (putPage 0 (freshPage (leadingRecords (bridgeOnly.slots.toList.take 1))) [(0, cornerPage)]) [0])
          = some (.bridgePlacement, some 0)) := by decide

/-- The table of R25 at its ends: a length of 0 and one too long; radii of 499 and 500; sweeps of 0, 2047 and 2048; the bed's
limits; dwells of 2000 and 2001; and a record with two faults, which names the first. -/
theorem witness_FailedCommitChangesNoPage_table :
    [segment 0 1 0 0 0 0, segment 0 1 4194304 0 0 0, segment 1 1 9 0 1 499, segment 2 1 9 0 2047 500, segment 2 1 9 0 2048 500,
        segment 1 1 9 7 7 500, { segment 0 1 1 0 0 0 with endX := 3600000 }, { segment 0 1 1 0 0 0 with endX := 3600001 },
        { segment 0 1 1 0 0 0 with dwellPresence := 1, dwellField := 2000 },
        { segment 0 1 1 0 0 0 with dwellPresence := 1, dwellField := 2001 }, segment 0 3 0 0 1 0].map
      (recordFault State.powerOnConfig)
    = [some .badLength, some .badLength, some .badRadius, none, some .badSweep, some .badSweep, none, some .xOutOfBed, none,
        some .badDwell, some .badRole] := by decide

theorem witness_StoreFormKept :
    exec .hold State.reset = .next (after .hold State.reset) ∧ StoreForm State.reset ∧ storeWf [(0, cornerPage)] = true :=
  ⟨rfl, rfl, rfl⟩

theorem witness_WalkFindsAndWritesWords :
    storeWf [(0, cornerPage), (255, cornerPage)] = true ∧ [255, 0].Nodup
      ∧ (([(9, ⟨0, 0, 0, false, 0⟩), (0, ⟨0, 0, 0, false, 0⟩)] : List (Nat × PlanWord)).map Prod.fst).Nodup
      ∧ (slotAt [(0, cornerPage), (255, cornerPage)] [255, 0] 9).isSome = true := by decide

/-- The wrap of the body, and a lead-in segment in pass 1. -/
theorem witness_PredecessorUndoesSuccessor :
    (6 < tapHole.length ∧ 1 ≤ 1 ∧ (6 < firstBody tapHole → 1 = 1) ∧ successor tapHole 3 ⟨6, 1⟩ = .seg ⟨2, 2⟩)
      ∧ (0 < firstBody tapHole ∧ successor tapHole 3 ⟨0, 1⟩ = .seg ⟨1, 1⟩) := by decide

theorem pagesPlaced_reset : PagesPlaced State.reset := by
  unfold PagesPlaced
  simp [heldPages, State.reset, State.allPages]

theorem witness_PagesPlacedKept :
    exec .hold State.reset = .next (after .hold State.reset) ∧ QueueLaw State.reset ∧ PagesPlaced State.reset :=
  ⟨rfl, by unfold QueueLaw; decide, pagesPlaced_reset⟩

theorem witness_QueueLawKept : exec .hold (active .cutting) = .next (after .hold (active .cutting)) ∧ QueueLaw (active .cutting) :=
  ⟨rfl, queueLaw_active _⟩

/-- The limits of the header's fields, a place before an entry, and an entry that is not the named one. -/
theorem witness_ContourOpenedAndPlaced :
    portOpen (active .cutting) ∧ Quiet (active .cutting) ∧ 1 ≤ (65535 : BitVec 16).toNat ∧ (5 : Fin 24).val = (5 : Byte).toNat
      ∧ 1 ≤ (5 : Byte).toNat ∧ (4 : Byte).toNat ≤ 4 ∧ PierceMode.ofByte 2 = some .edgeStart ∧ (1 : Byte) ≠ 0
      ∧ (3600000 : BitVec 32).toNat ≤ (active .cutting).config.bedXMax.toNat
      ∧ (2100000 : BitVec 32).toNat ≤ (active .cutting).config.bedYMax.toNat ∧ (active .cutting).queue.length < 48
      ∧ (active .cutting).entry 65535 = none ∧ ((active .cutting).materials[(5 : Fin 24)]).fields ≠ none
      ∧ (active .cutting).entry (820 : BitVec 16).toNat ≠ none
      ∧ ∀ y ∈ [testEntry 7 .active], y.contourId ≠ (testEntry 820 .loading).contourId :=
  ⟨portOpen_active _, quiet_active _, by decide⟩

/-- Each check of CONTOUR_CLOSE, and both acceptances. -/
theorem witness_ContourClosed :
    portOpen (withQueue [testEntry 820 .loading]) ∧ (withQueue []).entry 820 = none
      ∧ (withQueue [testEntry 820 .loading]).entry 820 = some (testEntry 820 .loading)
      ∧ (withQueue [testEntry 820 .held]).entry 820 = some (testEntry 820 .held) ∧ (testEntry 820 .held).state ≠ .loading
      ∧ ({ testEntry 820 .loading with commitsPending := 1 } : Entry).commitsPending ≠ 0
      ∧ structureFault false 1 ((withQueue []).segments { testEntry 820 .loading with pages := [] }) = some (.noSegments, none)
      ∧ structureFault false 1 ((withQueue []).segments (testEntry 820 .loading)) = none
      ∧ (active .cutting).planner.job = none
      ∧ ((withQueue [testEntry 820 .loading]).setPlanner ⟨some (testJob .stop), false⟩).planner.job = some (testJob .stop)
      ∧ ∀ x ∈ (withQueue [testEntry 820 .loading]).queue, x.state ≠ .waitingPlan :=
  ⟨portOpen_withQueue _, by decide⟩

/-- Each row of R5's table, by a contour that fails it and no row before it; a bridge at each place it may not take. -/
theorem witness_StructureChecksMean :
    structureFault false 1 [] = some (.noSegments, none)
      ∧ structureFault false 1 [segment 0 1 1 0 0 0, segment 3 0 1 0 0 0] = some (.roleOrder, some 1)
      ∧ structureFault false 2 [segment 3 0 1 0 0 0] = some (.roleOrder, none)
      ∧ [[segment 3 0 1 0 0 0, segment 0 1 1 0 0 0], [segment 3 1 1 0 0 0, segment 0 1 1 0 0 0],
          [segment 0 1 1 0 0 0, segment 3 1 1 0 0 0], [segment 0 1 1 0 0 0, segment 3 1 1 0 0 0, segment 3 1 1 0 0 0,
            segment 0 1 1 0 0 0]].map (structureFault false 2)
        = [some (.bridgePlacement, some 0), some (.bridgePlacement, some 0), some (.bridgePlacement, some 1),
          some (.bridgePlacement, some 1)]
      ∧ structureFault false 2 [segment 0 1 1 0 0 0] = some (.multipassOpen, none)
      ∧ structureFault true 2 [segment 0 1 1 0 0 0, segment 0 2 1 0 0 0] = some (.multipassLeads, none)
      ∧ structureFault false 1 [segment 0 1 1 0 0 0] = none := by decide

theorem witness_ContourDeleted :
    portOpen (withQueue [testEntry 820 .ready]) ∧ QueueLaw (withQueue [testEntry 820 .ready])
      ∧ (withQueue [testEntry 820 .ready]).entry (820 : BitVec 16).toNat = some (testEntry 820 .ready)
      ∧ (testEntry 820 .ready).state ∈ [EntryState.loading, .waitingPlan, .planning, .ready]
      ∧ ((withQueue [testEntry 1 .active, testEntry 820 .ready]).queue.head?).map Entry.contourId ≠ some 820 :=
  ⟨portOpen_withQueue _, queueLaw_one _, by decide⟩

/-- A move to the tail, before another entry, and before itself. -/
theorem witness_ContourMoved :
    portOpen (withQueue [testEntry 1 .loading, testEntry 2 .ready]) ∧ Quiet (withQueue [testEntry 1 .loading, testEntry 2 .ready])
      ∧ QueueLaw (withQueue [testEntry 1 .loading, testEntry 2 .ready])
      ∧ (withQueue [testEntry 1 .loading, testEntry 2 .ready]).entry (1 : BitVec 16).toNat = some (testEntry 1 .loading)
      ∧ (withQueue [testEntry 1 .loading, testEntry 2 .ready]).entry (2 : BitVec 16).toNat ≠ none
      ∧ (∀ h, [testEntry 1 .loading, testEntry 2 .ready].head? = some h →
        ¬ ((withQueue []).jsq.phase = .idle ∧ h.state = .ready ∧ h.commitsPending = 0)) :=
  ⟨.inl rfl, ⟨rfl, rfl⟩, by unfold QueueLaw; decide, rfl, by decide, by intro h hh; cases hh; decide⟩

theorem witness_FilterSkipRemovesMatches :
    portOpen (withQueue [testEntry 1 .active, testEntry 2 .ready]) ∧ QueueLaw (withQueue [testEntry 1 .active, testEntry 2 .ready])
      ∧ (testEntry 2 .ready).donePlace = none
      ∧ ((withQueue [testEntry 1 .active, testEntry 2 .ready]).queue.countP fun e =>
        decide (e.state ∈ [EntryState.loading, .waitingPlan, .planning, .ready])
          && decide (BitVec.ofNat 16 e.tag &&& 0xFFFF = 0x0301 &&& 0xFFFF)) = 1 :=
  ⟨.inl rfl, by unfold QueueLaw; decide, rfl, by decide⟩

/-- A field out of range with those before it in range; a full queue; a duplicate; a record INVALID; a before_id missing. -/
theorem witness_QueueRefusals :
    portOpen (withQueue [testEntry 820 .held])
      ∧ (∀ g ∈ [(⟨0, 1, 1, 65535⟩ : FieldCheck)], g.low ≤ g.value ∧ g.value ≤ g.high)
      ∧ ¬ ((⟨4, (24 : Byte).toNat, 0, 23⟩ : FieldCheck).low ≤ 24 ∧ 24 ≤ 23)
      ∧ 48 ≤ (withQueue (List.replicate 48 (testEntry 1 .loading))).queue.length
      ∧ (withQueue [testEntry 820 .held]).entry 820 ≠ none ∧ (withQueue [testEntry 820 .held]).entry 9 = none
      ∧ (∀ m : Fin 24, m.val = (4 : Byte).toNat → ((withQueue []).materials[m]).fields = none)
      ∧ (withQueue [testEntry 820 .held]).entry 820 = some (testEntry 820 .held)
      ∧ (testEntry 820 .held).state ∈ [EntryState.active, .held, .failed]
      ∧ (testEntry 820 .loading).state ∈ [EntryState.loading, .waitingPlan, .planning, .ready] :=
  ⟨portOpen_withQueue _, by decide⟩

theorem witness_ReadsChangeNothing :
    portOpen (active .cutting) ∧ BufferName.ofByte 1 = some .b
      ∧ (active .cutting).entry (820 : BitVec 16).toNat = some (testEntry 820 .active) ∧ (23 : Fin 24).val = (23 : Byte).toNat
      ∧ ((2 : Byte) ≠ 0 ∧ (2 : Byte) ≠ 1) ∧ 23 < (24 : Byte).toNat :=
  ⟨portOpen_active _, by decide⟩

theorem witness_FinishedReadTakesOldest :
    portOpen State.reset ∧ (0 : Byte).toNat = 0 ∧ 16 < (17 : Byte).toNat ∧ 1 ≤ (1 : Byte).toNat ∧ (16 : Byte).toNat ≤ 16
      ∧ State.reset.finished.length ≤ 16 ∧ State.reset.attention.jatn.route &&& Source.contourEnd.bit ≠ 0 :=
  ⟨portOpen_reset, by decide⟩

/-- A write with planned users, one with an active request outstanding, and each refusal. -/
theorem witness_MaterialCommands :
    portOpen (withQueue [testEntry 602 .ready]) ∧ (23 : Fin 24).val = (23 : Byte).toNat ∧ materialFault quartz = none
      ∧ (∀ e ∈ (withQueue [testEntry 602 .ready]).queue, e.state.begun = true → e.material ≠ 5)
      ∧ (∃ job, ((withQueue [testEntry 602 .ready]).setPlanner ⟨some (testJob .stop), true⟩).planner.job = some job
        ∧ job.kind ≠ .contour)
      ∧ 23 < (24 : Byte).toNat ∧ materialFault { quartz with vSep := 99 } = some 1
      ∧ materialFault { quartz with cf1 := 257 } = some 13 ∧ materialFault { quartz with qf3 := 201 } = some 5
      ∧ materialFault { quartz with dw7 := 299 } = some 41 ∧ materialFault { quartz with vFloor := 3601 } = some 46
      ∧ materialFault { quartz with vFloor := 3600 } = none
      ∧ (active .cutting).queue = [] ++ testEntry 820 .active :: [] ∧ (testEntry 820 .active).state.begun = true
      ∧ (testEntry 820 .active).material = 5
      ∧ (∀ x ∈ (withQueue [testEntry 602 .ready]).queue, x.state.begun = true → x.material ≠ 5)
      ∧ ∀ x ∈ (withQueue [testEntry 602 .ready]).queue, x.material ≠ 6 :=
  ⟨portOpen_withQueue _, by decide, by decide, by decide, ⟨_, rfl, by decide⟩, by decide⟩

/-- A write with the engine idle, with a plan in flight for a PLANNING user and for an entry that does not use the record, and
with a waiting entry that does not use it. -/
theorem witness_MaterialCommands_engine :
    (withQueue [testEntry 602 .ready]).planner.job = none
      ∧ (∀ x ∈ ((withQueue [testEntry 602 .loading]).queue), x.state ≠ .waitingPlan)
      ∧ ((testJob .contour).kind = .contour ∧ testEntry 820 .planning ∈ [testEntry 820 .planning]
        ∧ (testEntry 820 .planning).contourId = (testJob .contour).contour ∧ (testEntry 820 .planning).material = 5)
      ∧ (∀ e ∈ [{ testEntry 820 .planning with material := 6 }, testEntry 602 .ready],
        (decide (e.state ∈ [EntryState.waitingPlan, .planning, .ready]) && decide (e.material = 5)) = true → e.state = .planning →
          e.contourId ≠ (testJob .contour).contour)
      ∧ QueueLaw (withQueue [testEntry 602 .ready, { testEntry 603 .waitingPlan with material := 6 }])
      ∧ [testEntry 602 .ready, { testEntry 603 .waitingPlan with material := 6 }]
        = [testEntry 602 .ready] ++ { testEntry 603 .waitingPlan with material := 6 } :: [] :=
  ⟨rfl, by decide, by decide, by decide, by unfold QueueLaw; decide, rfl⟩

/-- Each check of CONFIG_SET, and an acceptance with and without entries. -/
theorem witness_ConfigReplaced :
    portOpen (active .cutting) ∧ configFault { State.powerOnConfig with readyBand := 21 } = some 14
      ∧ configFault State.powerOnConfig = none ∧ (∃ e ∈ (active .cutting).queue, e.state ∈ [.active, .held, .failed])
      ∧ (withQueue [testEntry 820 .ready]).queue ≠ []
      ∧ configFault { State.powerOnConfig with bedXMax := 1000000 } = none
      ∧ ({ State.powerOnConfig with bedXMax := 1000000 } : MachineConfig).bedXMax ≠ (withQueue []).config.bedXMax
      ∧ (∀ e ∈ (withQueue [testEntry 820 .ready]).queue, e.state ∈ [.loading, .waitingPlan, .planning, .ready])
      ∧ (withQueue []).queue = [] :=
  ⟨portOpen_active _, by decide⟩

theorem witness_TablesInForceKept :
    exec (.configSet { State.powerOnConfig with idlePressure := 420 }) State.reset
        = .next (after (.configSet { State.powerOnConfig with idlePressure := 420 }) State.reset)
      ∧ configFault State.reset.config = none
      ∧ (after (.configSet { State.powerOnConfig with idlePressure := 420 }) State.reset).config ≠ State.reset.config
      ∧ configFault { State.powerOnConfig with pumpPMin := 200, pumpPMax := 200 } = none ∧ MaterialsValid (active .cutting) :=
  ⟨rfl, by decide, by decide, by decide, by unfold MaterialsValid; decide⟩

theorem wearLaw_reset : WearLaw State.reset := by unfold WearLaw; decide

/-- Counters 3 and 4, sources 3 and 4, limits and thresholds at their ends. -/
theorem witness_WearCommandsSet :
    portOpen State.reset ∧ WearLaw State.reset ∧ 3 < (4 : Byte).toNat ∧ (3 : Fin 4).val = (3 : Byte).toNat
      ∧ WearSource.ofByte 3 = some .cutLength
      ∧ wearLevelsFault 0 1 0 256 256 256 = some 4 ∧ wearLevelsFault 1 1 9 0 1 1 = some 12
      ∧ ((∀ d ∈ [(256 : BitVec 16), 1, 1], 1 ≤ d.toNat ∧ d.toNat ≤ 256) ∧ ((5 : BitVec 32) = 0 → (5 : BitVec 32) = 0)
        ∧ ((5 : BitVec 32) = 0 → (4294967295 : BitVec 32) = 0) ∧ ((5 : BitVec 32) ≠ 0 → (5 : BitVec 32).toNat ≤ (5 : BitVec 32).toNat)
        ∧ ((4294967295 : BitVec 32) ≠ 0 → (5 : BitVec 32).toNat ≤ (4294967295 : BitVec 32).toNat)
        ∧ (1 : BitVec 16).toNat ≤ (256 : BitVec 16).toNat ∧ (1 : BitVec 16).toNat ≤ (1 : BitVec 16).toNat) :=
  ⟨portOpen_reset, wearLaw_reset, by decide, by decide, by decide, by decide, by decide, by simp⟩

/-- Each check of WEAR_LEVELS, by thresholds and factors that fail it and none before it. -/
theorem witness_WearCommandsSet_levels :
    [wearLevelsFault 0 0 0 0 0 0, wearLevelsFault 0 0 0 256 257 1, wearLevelsFault 0 0 0 256 1 257, wearLevelsFault 0 1 1 1 1 1,
        wearLevelsFault 5 0 1 1 1 1, wearLevelsFault 5 4 3 1 1 1, wearLevelsFault 5 5 4 1 2 1, wearLevelsFault 5 5 5 1 2 3,
        wearLevelsFault 5 5 5 2 2 3, wearLevelsFault 5 5 5 2 2 2]
      = [some 12, some 14, some 16, some 4, some 8, some 4, some 8, some 14, some 16, none] := by decide

/-- A valve counter that runs, at remainder 99 and at 0, and one that does not. -/
theorem witness_TimeCounts :
    WearLaw (active .cutting) ∧ timeRuns (active .cutting) ⟨.valveTime, 4, 99, 0, false⟩
      ∧ timeRuns (active .cutting) ((active .cutting).wear.counter 2) ∧ ¬ timeRuns State.reset (State.reset.wear.counter 2)
      ∧ WearLaw ((active .cutting).setWear { State.reset.wear with c2 := ⟨.valveTime, 4294967295, 99, 0, false⟩ }) :=
  ⟨by unfold WearLaw; decide, by unfold timeRuns; decide, by unfold timeRuns; decide, by unfold timeRuns; decide, by
    unfold WearLaw; decide⟩

/-- The tick that brings a counter to its limit, and one that brings none. -/
theorem witness_TimeCounts_limit :
    (afterMillisecond ⟨.valveTime, 4, 99, 5, false⟩).due = true ∧ (afterMillisecond ⟨.valveTime, 4, 98, 5, false⟩).due = false
      ∧ (afterMillisecond ⟨.valveTime, 5, 98, 5, true⟩).due = true ∧ Quiet (active .cutting) :=
  ⟨rfl, rfl, rfl, quiet_active _⟩

theorem witness_WearLawKept :
    exec (.wearReset 0) (State.reset.setWear { State.reset.wear with c0 := ⟨.pierces, 9, 0, 0, false⟩ })
        = .next (after (.wearReset 0) (State.reset.setWear { State.reset.wear with c0 := ⟨.pierces, 9, 0, 0, false⟩ }))
      ∧ WearLaw (State.reset.setWear { State.reset.wear with c0 := ⟨.pierces, 9, 0, 0, false⟩ })
      ∧ ((after (.wearReset 0) (State.reset.setWear { State.reset.wear with c0 := ⟨.pierces, 9, 0, 0, false⟩ })).wear.counter 0).value
        < 9 :=
  ⟨rfl, by unfold WearLaw; decide, by decide⟩

/-- Modes 0, 1 and 2; a pulse that is not in the gap; a source routed and not routed, pending and not. -/
theorem witness_AttentionRouterActs :
    portOpen State.reset ∧ Quiet State.reset ∧ 1 < (2 : Byte).toNat ∧ (1 : Byte).toNat ≤ 1 ∧ LineMode.ofByte 0 = some .level
      ∧ LineMode.ofByte 1 = some .pulse ∧ Pulse.high true ≠ .gap
      ∧ State.reset.attention.matn.route &&& Source.commitDone.bit = 0
      ∧ (0x0010 : Mask) &&& Source.held.bit ≠ 0
      ∧ (State.reset.attention.jatn.route &&& Source.abrasiveLow.bit ≠ 0
        ∧ State.reset.attention.jatn.pending &&& Source.abrasiveLow.bit = 0) :=
  ⟨portOpen_reset, quiet_reset, by decide⟩

theorem witness_ProfileIsHighest :
    [0, 400, 0].length = [720, 600].length + 1 ∧ (profile [0, 400, 0] [720, 600])[1]? = some 400 := by decide

/-- The contour speed, the ceilings and the corners of contour 820, as the worked case tabulates them. -/
theorem witness_ProfileIsHighest_limits :
    contourSpeed (cornerInput 100) = 2029 ∧ corner.map (ceiling quartz 2029) = [1014, 2029, 1217, 2029, 1014]
      ∧ ((cornerInput 100).quality, 154) ∈ [(1, 256), (2, 200), (3, 154), (4, 118), (5, 90)]
      ∧ corner[0]? = some (segment 0 0 6000 1024 1024 0) ∧ corner[1]? = some (segment 0 1 150000 0 0 0)
      ∧ cornerOf quartz 2029 (segment 0 0 6000 1024 1024 0) (segment 0 1 150000 0 0 0) 400 0
      ∧ (cornerInput 100).passes ≤ 1 :=
  ⟨by decide, by decide, by decide, rfl, rfl, ⟨3072, 4, 80, by decide⟩, by decide⟩

/-- Turns of 1791 and 1792, the ends of classes 6 and 7, the half circle, and 2305, which is 1791 the other way. -/
theorem witness_ProfileIsHighest_classes :
    cornerOf quartz 2029 (segment 0 1 1 0 0 0) (segment 0 1 1 1791 0 0) 400 300
      ∧ cornerOf quartz 2029 (segment 0 1 1 0 0 0) (segment 0 1 1 1792 0 0) 400 500
      ∧ cornerOf quartz 2029 (segment 0 1 1 0 0 0) (segment 0 1 1 2048 0 0) 400 500
      ∧ cornerOf quartz 2029 (segment 0 1 1 0 0 0) (segment 0 1 1 2305 0 0) 400 300 :=
  ⟨⟨1791, 6, 48, by decide⟩, ⟨1792, 7, 32, by decide⟩, ⟨2048, 7, 32, by decide⟩, ⟨2305, 6, 48, by decide⟩⟩

/-- Contour 305 in three passes. -/
def tapInput : PlanInput := ⟨tapHole, 3, 3, ⟨quartz, 11, 100, 1, 240, 250000⟩⟩

/-- The junction of the tap hole, capped by half its body; a body boundary that is no junction; both ends of the bridge. -/
theorem witness_ProfileIsHighest_junction :
    (tapHole = tapHole.take 2 ++ (tapHole.drop 2).take 5 ++ tapHole.drop 7 ∧ structureFault true 3 tapHole = none
        ∧ (∀ r ∈ tapHole.take 2, segRole r = .leadIn) ∧ (∀ r ∈ (tapHole.drop 2).take 5, segRole r = .body)
        ∧ (∀ r ∈ tapHole.drop 7, segRole r = .leadOut) ∧ ((tapHole.take 2).getLast?).isSome = true
        ∧ (((tapHole.drop 2).take 5).head?).isSome = true ∧ (((tapHole.drop 2).take 5).getLast?).isSome = true
        ∧ ((tapHole.drop 7).head?).isSome = true)
      ∧ cornerOf quartz 2029 (segment 0 0 1000 0 0 0) (segment 0 1 1000 0 0 0) 1014 0
      ∧ cornerOf quartz 2029 (segment 0 1 1000 0 0 0) (segment 0 1 1000 0 0 0) 2029 0
      ∧ boundary tapInput 2 = ⟨299, 0⟩ ∧ segRole (segment 0 1 1000 0 0 0) = segRole (segment 0 1 1000 0 0 0)
      ∧ boundary tapInput 3 = ⟨2029, 0⟩ ∧ boundary tapInput 4 = ⟨0, 0⟩ ∧ boundary tapInput 5 = ⟨0, 0⟩ :=
  ⟨by decide, ⟨0, 0, 256, by decide⟩, ⟨0, 0, 256, by decide⟩, by decide⟩

/-- A cutting segment of a REMAINDER with a fixed value above the new limits. -/
theorem witness_RampLaw :
    (2, (⟨1217, 608, 1217, true, 0⟩ : PlanWord))
        ∈ jobWords (cornerInput 50) { testJob .remainder with fixed := some ⟨.seg ⟨2, 1⟩, 1217⟩ }
      ∧ isBridge (corner.getD 2 blankRecord) = false := by decide

/-- A bridge's word, a STOP of two segments with none flagged, and a RESUME from a fixed value of 0. -/
theorem witness_RampLaw_jobs :
    jobWords tapInput { testJob .resume with fixed := some ⟨.seg ⟨3, 3⟩, 0⟩ }
        = [(3, ⟨0, 0, 60, false, 0⟩), (4, ⟨0, 0, 65535, false, 0⟩), (5, ⟨0, 120, 120, false, 0⟩), (6, ⟨120, 120, 180, false, 0⟩),
          (7, ⟨120, 0, 120, false, 0⟩)]
      ∧ isBridge (tapInput.segs.getD 4 blankRecord) = true
      ∧ jobWords tapInput { testJob .stop with fixed := some ⟨.seg ⟨2, 1⟩, 80⟩, stop := some ⟨[2, 3], .seg ⟨4, 1⟩⟩ }
        = [(2, ⟨80, 120, 160, false, 0⟩), (3, ⟨120, 0, 120, false, 0⟩)]
      ∧ materialFault tapInput.inputs.material = none := by decide

/-- A contour plan of one pass, and of two passes over a closed body. -/
theorem witness_WholePlanJoinsWithinLimits :
    (testJob .contour).kind = .contour ∧ (testJob .activation).kind = .activation ∧ (testJob .contour).fixed = none
      ∧ materialFault (cornerInput 100).inputs.material = none
      ∧ (jobWords { cornerInput 100 with passes := 2 } (testJob .contour))[0]? = some (0, ⟨0, 400, 560, false, 0⟩)
      ∧ corner[1]? = some (segment 0 1 150000 0 0 0) ∧ 1 < ({ cornerInput 100 with passes := 2 } : PlanInput).passes
      ∧ 0 < bodyCount corner := by decide

/-- A REMAINDER in pass 1 of 2, with its fixed boundary before the first body segment: the wrap joins. A STOP over one segment. -/
theorem witness_WholePlanJoinsWithinLimits_jobs :
    (let c := { cornerInput 100 with passes := 2 }
    let job := { testJob .remainder with fixed := some ⟨.seg ⟨1, 1⟩, 300⟩ }
    1 < c.passes ∧ 1 < 2 ∧ 0 < bodyCount c.segs ∧ 1 ≤ lastBody c.segs ∧ lastBody c.segs = 3 ∧ firstBody c.segs = 1
      ∧ isBridge (c.segs.getD 3 blankRecord) = false ∧ isBridge (c.segs.getD 1 blankRecord) = false
      ∧ (jobWords c job).map Prod.fst = [1, 2, 3, 4])
      ∧ (jobWords (cornerInput 100)
          { testJob .stop with fixed := some ⟨.seg ⟨2, 1⟩, 1217⟩, stop := some ⟨[2], .seg ⟨3, 1⟩⟩ }).head?
        = some (2, ⟨1217, 0, 1217, false, 0⟩) := by decide

/-- A REMAINDER in the last pass, and the chain of a STOP; the highest speed at a boundary and the descent from a fixed value
above it, as contour 821 has them after its override fell. -/
theorem witness_WholePlanJoinsWithinLimits_exact :
    ((1 ≤ (⟨2, 1⟩ : Place).pass ∧ (List.range corner.length).drop 2 = [2, 3, 4])
        ∧ ({ testJob .stop with stop := some ⟨[2], .seg ⟨3, 1⟩⟩ } : Job).stop = some ⟨[2], .seg ⟨3, 1⟩⟩)
      ∧ highestAt [1697, 608, 608, 400, 0] [480, 2262, 10800, 600] 0 1088
      ∧ descendsAt 1697 [1697, 608, 608, 400, 0] [480, 2262, 10800, 600] 1 1217 := by
  have highest (k b l : Nat) (hl : [1697, 608, 608, 400, 0][l]? = some (b - between [480, 2262, 10800, 600] k l))
      (hb : b = b - between [480, 2262, 10800, 600] k l + between [480, 2262, 10800, 600] k l)
      (h : ∀ l : Fin 5, b ≤ [1697, 608, 608, 400, 0][l] + between [480, 2262, 10800, 600] k l) :
      highestAt [1697, 608, 608, 400, 0] [480, 2262, 10800, 600] k b := by
    refine ⟨fun l u hu => ?_, l, _, hl, hb⟩
    obtain ⟨hlt, rfl⟩ := List.getElem?_eq_some_iff.mp hu
    exact h ⟨l, hlt⟩
  exact ⟨by decide, highest 0 1088 1 rfl rfl (by decide), 608, highest 1 608 1 rfl rfl (by decide), rfl⟩

/-- A fixed value of 0, and one of 1217 before segment 2. -/
theorem witness_StopSearchFindsFirst :
    (⟨.seg ⟨2, 1⟩, 0⟩ : FixedPoint).value = 0 ∧ 2 < (cornerInput 100).segs.length ∧ 1 ≤ (cornerInput 100).passes
      ∧ 0 < (⟨.seg ⟨2, 1⟩, 1217⟩ : FixedPoint).value := by decide

/-- The head, and another entry, PLANNING with its job in flight. -/
def planning (queue : List Entry) : State := (withQueue queue).setPlanner ⟨some (testJob .contour), false⟩

/-- A plan of the head with JSQ in IDLE, and of an entry behind a HELD one. -/
theorem witness_ContourPlanCompletes :
    (QueueLaw (planning [testEntry 820 .planning]) ∧ (planning [testEntry 820 .planning]).planner.job = some (testJob .contour)
        ∧ (testJob .contour).kind = .contour
        ∧ (planning [testEntry 820 .planning]).entry (testJob .contour).contour = some (testEntry 820 .planning)
        ∧ (planning [testEntry 820 .planning]).queue = testEntry 820 .planning :: []
        ∧ (planning [testEntry 820 .planning]).jsq.phase = .idle ∧ (testEntry 820 .planning).commitsPending = 0
        ∧ (planning [testEntry 820 .planning]).motion.link = .ok ∧ (planning [testEntry 820 .planning]).pump.link = .ok)
      ∧ (QueueLaw (planning [testEntry 1 .held, testEntry 820 .planning])
        ∧ (planning [testEntry 1 .held, testEntry 820 .planning]).entry (testJob .contour).contour
          = some (testEntry 820 .planning)
        ∧ ((planning [testEntry 1 .held, testEntry 820 .planning]).queue.head?).map Entry.contourId
          ≠ some (testJob .contour).contour) :=
  ⟨⟨queueLaw_one _, by decide⟩, by unfold QueueLaw; decide, by decide⟩

/-- The same plan over a silent motion link, and over a silent pump link alone. -/
theorem witness_ContourPlanCompletes_silent :
    JetLaw (planning [testEntry 820 .planning])
      ∧ ((planning [testEntry 820 .planning]).setMotion { State.reset.motion with link := .silent }).motion.link = .silent
      ∧ ((planning [testEntry 820 .planning]).setPump { State.reset.pump with link := .silent }).motion.link = .ok
      ∧ ((planning [testEntry 820 .planning]).setPump { State.reset.pump with link := .silent }).pump.link = .silent :=
  ⟨fun _ => rfl, rfl, rfl, rfl⟩

/-- A STOP job in flight in HOLDING, with its stop place. -/
def stopping (place : Place) : State :=
  ((active .holding).setPlanner ⟨some { testJob .stop with stop := some ⟨[], .seg place⟩ }, true⟩).setJsq
    { (active .holding).jsq with stopEnding := some .held, stopCause := some .operator }

/-- A stop place away from the cursor, one at it with an empty window, and a REMAINDER in CUTTING. -/
theorem witness_ActiveJobCompletes :
    (∀ place, QueueLaw (stopping place) ∧ (stopping place).queue = testEntry 820 .active :: []
        ∧ (stopping place).planner.job = some { testJob .stop with stop := some ⟨[], .seg place⟩ }
        ∧ (stopping place).jsq.phase = .holding)
      ∧ (testJob .stop).kind = .stop ∧ (testJob .stop).kind ≠ .contour ∧ (testEntry 820 .active).state = .active
      ∧ (stopping ⟨3, 1⟩).stream.cursor ≠ some (.seg ⟨3, 1⟩)
      ∧ ((stopping ⟨2, 1⟩).stream.cursor = some (.seg ⟨2, 1⟩) ∧ (stopping ⟨2, 1⟩).stream.window = []
        ∧ (stopping ⟨2, 1⟩).jsq.stopEnding = some .held ∧ (stopping ⟨2, 1⟩).jsq.stopCause = some .operator)
      ∧ ((stopping ⟨2, 1⟩).setJsq { (stopping ⟨2, 1⟩).jsq with stopEnding := some .skipped }).jsq.stopEnding = some .skipped
      ∧ (((active .cutting).setPlanner ⟨some (testJob .remainder), false⟩).planner.job = some (testJob .remainder)
        ∧ (testJob .remainder).kind ≠ .contour ∧ (active .cutting).jsq.phase ≠ .holding ∧ (testJob .remainder).stop = none) :=
  ⟨fun _ => ⟨queueLaw_one (testEntry 820 .active), rfl, rfl, rfl⟩, by decide⟩

theorem witness_HoldBringsToRest :
    (portOpen State.reset ∧ Quiet State.reset ∧ State.reset.activeEntry = none)
      ∧ ∀ phase, phase ≠ .idle → phase ≠ .finishing →
        portOpen (active phase) ∧ Quiet (active phase) ∧ JetSafe (active phase)
          ∧ (active phase).queue = testEntry 820 .active :: [] ∧ (testEntry 820 .active).state = .active
          ∧ (active phase).jsq.phase = phase ∧ (active phase).stream.cursor = some (.seg ⟨2, 1⟩) :=
  ⟨⟨portOpen_reset, quiet_reset, rfl⟩, fun phase h h' =>
    ⟨portOpen_active _, quiet_active _, jetSafe_active phase h h', rfl, rfl, rfl, rfl⟩⟩

/-- What the hold then gives (R155, R164): past a bridge at segment 4 of the tap hole; at a third failed resume FAILED; at END
the segment count in the last pass. -/
theorem witness_HoldBringsToRest_place :
    restPlace tapHole 3 ⟨4, 1⟩ = ⟨5, 1⟩ ∧ restPlace tapHole 3 ⟨3, 1⟩ = ⟨3, 1⟩ ∧ placeAt tapHole 3 .fin = ⟨8, 3⟩
      ∧ (heldEntry corner .operator ⟨2, 1⟩ { testEntry 820 .active with restartMark := true, resumeFailures := 2 }).state
        = .failed
      ∧ (heldEntry corner .operator ⟨2, 1⟩ { testEntry 820 .active with restartMark := true, resumeFailures := 1 }).state
        = .held := by decide

/-- A queue with no begun head, a HELD head, and an ACTIVE head (as in the witness of a hold). -/
theorem witness_SkipTakesHeadOut :
    (portOpen (withQueue [testEntry 820 .ready]) ∧ (withQueue [testEntry 820 .ready]).queue.head? = some (testEntry 820 .ready)
        ∧ (testEntry 820 .ready).state.begun = false)
      ∧ (portOpen (withQueue [testEntry 820 .held]) ∧ Quiet (withQueue [testEntry 820 .held])
        ∧ JetSafe (withQueue [testEntry 820 .held]) ∧ (withQueue [testEntry 820 .held]).queue = testEntry 820 .held :: []
        ∧ (testEntry 820 .held).state = .held) :=
  ⟨⟨.inl rfl, rfl, rfl⟩, .inl rfl, ⟨rfl, rfl⟩, jetSafe_held, rfl, rfl⟩

/-- No next head that can be activated, or one still to be committed; a CONTOUR_BEGIN untold, and one already sent. -/
theorem witness_SkipTakesHeadOut_due :
    ¬ headReady [] ∧ ¬ headReady [{ testEntry 821 .ready with commitsPending := 1 }] ∧ headReady [testEntry 821 .ready]
      ∧ ([.halt, .contourBegin 820, .traverse 1 2 3, .halt] : List Control)
        = [.halt] ++ .contourBegin 820 :: [.traverse 1 2 3, .halt]
      ∧ Control.contourBegin 820 ∉ [Control.halt] ∧ dueBehindSkip 820 [.halt] [.halt] :=
  ⟨fun ⟨_, h, _⟩ => (nomatch h), fun ⟨_, h, _, hp⟩ => (by cases h; cases hp), ⟨_, rfl, rfl, rfl⟩, rfl, by decide,
    ⟨fun _ => rfl, fun l r h _ =>
      absurd (h ▸ List.mem_append_right l (List.mem_cons_self ..) : Control.contourBegin 820 ∈ [Control.halt]) (by decide)⟩⟩

/-- A HELD head with a resume point behind a segment, one at the contour's start, and each refusal. -/
theorem witness_ResumeRestartsHead :
    portOpen (withQueue [testEntry 820 .held]) ∧ JetSafe (withQueue [testEntry 820 .held])
      ∧ (∀ e rest, (withQueue []).queue = e :: rest → e.state ≠ .held)
      ∧ (∃ r, ((withQueue [testEntry 820 .held]).setPump
        { State.reset.pump with report := some ⟨190, 2, .noFlow⟩ }).pump.report = some r ∧ r.code ≠ 0)
      ∧ (∀ r, (withQueue [testEntry 820 .held]).pump.report = some r → r.code = 0)
      ∧ (withQueue [testEntry 820 .held]).motion.link = .ok ∧ (withQueue [testEntry 820 .held]).pump.link = .ok
      ∧ (testEntry 820 .held).resumePoint = some ⟨2, 1⟩
      ∧ (∀ job, (withQueue [testEntry 820 .held]).planner.job = some job → job.kind = .contour)
      ∧ predecessor ((withQueue [testEntry 820 .held]).segments (testEntry 820 .held)) ⟨2, 1⟩ = some ⟨1, 1⟩
      ∧ (∃ r, ((withQueue [testEntry 820 .held]).segments (testEntry 820 .held))[1]? = some r ∧ ((100, 200) : Nat × Nat)
        = (r.endX.toNat, r.endY.toNat))
      ∧ predecessor ((withQueue [testEntry 820 .held]).segments (testEntry 820 .held)) ⟨0, 1⟩ = none :=
  ⟨.inl rfl, jetSafe_held, (by intro e rest h; cases h), ⟨_, rfl, by decide⟩, (by intro r h; cases h), rfl, rfl, rfl,
    (by intro job h; cases h), by decide, ⟨_, rfl, by decide⟩, by decide⟩

theorem witness_ResumeRestartsHead_silent :
    (let s := (withQueue [testEntry 820 .held]).setPump { State.reset.pump with link := .silent }
    portOpen s ∧ Quiet s ∧ JetSafe s ∧ s.queue = testEntry 820 .held :: [] ∧ (testEntry 820 .held).state = .held
      ∧ (∀ r, s.pump.report = some r → r.code = 0) ∧ s.motion.link = .ok ∧ s.pump.link = .silent
      ∧ (testEntry 820 .held).resumePoint = some ⟨2, 1⟩) :=
  ⟨.inl rfl, ⟨rfl, rfl⟩, jetSafe_held, rfl, rfl, (by intro r h; cases h), rfl, rfl, rfl⟩

/-- A repeat record, a due control record, a segment that may be sent (and one at the stop place), and EMPTY. -/
theorem witness_FrameStartPlacesRecord :
    (active .cutting).motion.exchange = none
      ∧ ((active .cutting).setStream { (active .cutting).stream with again := some ⟨none, .empty 0⟩ }).stream.again
        = some ⟨none, .empty 0⟩
      ∧ ((active .cutting).setStream { (active .cutting).stream with due := [.halt] }).stream.due = .halt :: []
      ∧ ((active .cutting).stream.again = none ∧ (active .cutting).stream.due = []
        ∧ (active .cutting).queue = testEntry 820 .active :: [] ∧ (active .cutting).stream.cursor = some (.seg ⟨2, 1⟩)
        ∧ slotAt (active .cutting).store (testEntry 820 .active).pages 2
          = some ⟨segment 2 1 18850 0 1024 12000, some ⟨1217, 1217, 1217, false, 0⟩⟩
        ∧ (active .cutting).stream.stopPlace ≠ some (.seg ⟨2, 1⟩) ∧ (active .cutting).planner.job = none
        ∧ (active .cutting).stream.window.length < 8 ∧ (active .cutting).stream.window = []
        ∧ (active .cutting).jsq.phase = .cutting ∧ isBridge (segment 2 1 18850 0 1024 12000) = false)
      ∧ State.reset.activeEntry = none
      ∧ (active .positioning).jsq.phase ∉ [Phase.cutting, .holding, .bridgeTravel] := by decide

/-- Each kind of record in an exchange whose frame reports NONE at the override held; CONTOUR_END in FINISHING. -/
theorem witness_FrameCompleteDelivers :
    (∀ body cancelled, ∃ s : State, s = State.reset.setMotion
        { State.reset.motion with exchange := some ⟨⟨some 7, body⟩, [], cancelled⟩ }
      ∧ s.motion.exchange = some ⟨⟨some 7, body⟩, [], cancelled⟩ ∧ Quiet s ∧ s.motion.override = 100)
      ∧ decodeFrame (frame 0 100 0) = some (100, .nothing)
      ∧ (if (100 : Byte).toNat < 10 then 10 else if 150 < (100 : Byte).toNat then 150 else (100 : Byte).toNat) = 100
      ∧ ∃ s : State, s = (State.reset.setJsq { State.reset.jsq with phase := .finishing, contour := some 9 }).setMotion
          { State.reset.motion with exchange := some ⟨⟨some 7, .control (.contourEnd 9)⟩, [], false⟩ }
        ∧ s.motion.exchange = some ⟨⟨some 7, .control (.contourEnd 9)⟩, [], false⟩ ∧ Quiet s ∧ s.motion.override = 100
        ∧ s.jsq.phase = .finishing ∧ s.queue = [] :=
  ⟨fun _ _ => ⟨_, rfl, rfl, ⟨rfl, rfl⟩, rfl⟩, by decide, by decide, _, rfl, rfl, ⟨rfl, rfl⟩, rfl, rfl, rfl⟩

/-- A pierce of a stationary mode at its end, and a pressure wait in a phase. -/
def piercing (mode : PierceMode) : State :=
  (active .piercing).setJsq { (active .piercing).jsq with pierceMs := some 0, startMode := some mode }

def waiting (phase : Phase) : State := (active phase).setJsq { (active phase).jsq with wait := some ⟨120, 0⟩ }

/-- An exchange of EMPTY over an ACTIVE entry, in every phase of a contour. -/
theorem exchanging_active (phase : Phase) (h : phase ≠ .idle) (h' : phase ≠ .finishing) :
    (exchanging (active phase)).motion.exchange = some ⟨⟨none, .empty 0⟩, [], false⟩ ∧ Quiet (exchanging (active phase))
      ∧ JetSafe (exchanging (active phase)) ∧ (exchanging (active phase)).queue = testEntry 820 .active :: []
      ∧ (exchanging (active phase)).jsq.phase = phase ∧ (exchanging (active phase)).stream.cursor = some (.seg ⟨2, 1⟩)
      ∧ (exchanging (active phase)).motion.override = 100 :=
  ⟨rfl, ⟨rfl, rfl⟩, jetSafe_active phase h h', rfl, rfl, rfl, rfl⟩

/-- The frames of the reports; ARRIVED of the TRAVERSE's serial with the wait closed and open; a stop's cause and ending in
HOLDING and ABORTING; overrides of 9, 10, 150 and 151. -/
theorem witness_FrameCompleteDelivers_reports :
    [frame 2 100 7, frame 3 100 7, frame 4 100 0, frame 5 100 0, frame 6 100 0, frame 7 100 0, frame 8 100 7, frame 9 100 0,
        frame 10 100 1].map decodeFrame
      = [some (100, .arrived 7), some (100, .stopped 7), some (100, .holdReq), some (100, .resumeReq), some (100, .skipReq),
        some (100, .motionFault), some (100, .starvedStop 7), some (100, .linkError), some (100, .eventAck 1)]
      ∧ [frame 0 9 0, frame 0 10 0, frame 0 150 0, frame 0 151 0].map decodeFrame
        = [some (9, .nothing), some (10, .nothing), some (150, .nothing), some (151, .nothing)]
      ∧ (let s := exchanging ((active .positioning).setJsq
          { (active .positioning).jsq with traverseSerial := some 7, startMode := some .edgeStart })
        s.activeEntry = some (testEntry 820 .active) ∧ s.jsq.phase = .positioning ∧ s.jsq.traverseSerial = some 7
          ∧ s.jsq.wait = none ∧ s.jsq.pierceMs = none ∧ s.planner.stopTaken = false ∧ s.planner.job = none)
      ∧ (waiting .positioning).jsq.wait ≠ none
      ∧ ((stopping ⟨3, 1⟩).jsq.stopCause = some .operator ∧ (stopping ⟨3, 1⟩).jsq.stopEnding = some .held)
      ∧ (testEntry 820 .active).donePlace = some ⟨2, 1⟩
      ∧ countOf (active .aborting).store (testEntry 820 .active).pages = 5 := by decide

/-- What a serial confirmation gives (R160): the window through the serial is done; another serial changes nothing. -/
theorem witness_FrameCompleteDelivers_confirmation :
    (confirmedEntry corner [⟨7, 820, ⟨2, 1⟩⟩, ⟨8, 820, ⟨3, 1⟩⟩] 8 (testEntry 820 .active)).donePlace = some ⟨4, 1⟩
      ∧ confirmedEntry corner [⟨7, 820, ⟨2, 1⟩⟩] 9 (testEntry 820 .active) = testEntry 820 .active := by decide

/-- Segment 2 of contour 820 in flight with serial 258, during an exchange of EMPTY, at an override. -/
def inFlight (override : Nat) : State :=
  ((active .cutting).setStream { (active .cutting).stream with window := [⟨258, 820, ⟨2, 1⟩⟩] }).setMotion
    { (active .cutting).motion with exchange := some ⟨⟨none, .empty 0⟩, [], false⟩, override := override }

/-- The oldest flight reported done, at the lowest and at the highest override. -/
theorem witness_SegDoneAdvances :
    (∀ o, (inFlight o).motion.exchange = some ⟨⟨none, .empty 0⟩, [], false⟩
        ∧ (inFlight o).stream.window = ⟨258, 820, ⟨2, 1⟩⟩ :: [] ∧ (inFlight o).queue = testEntry 820 .active :: []
        ∧ (inFlight o).jsq.phase = .cutting ∧ (inFlight o).motion.override = o
        ∧ ((inFlight o).segments (testEntry 820 .active))[2]? = some (segment 2 1 18850 0 1024 12000)
        ∧ successor ((inFlight o).segments (testEntry 820 .active)) 1 ⟨2, 1⟩ = .seg ⟨3, 1⟩
        ∧ ((inFlight o).segments (testEntry 820 .active))[3]? = some (segment 0 1 90000 1024 1024 0))
      ∧ decodeFrame (frame 1 10 258) = some (10, .segDone 258) ∧ (10 : Byte).toNat = 10
      ∧ decodeFrame (frame 1 150 258) = some (150, .segDone 258) ∧ (150 : Byte).toNat = 150
      ∧ (testEntry 820 .active).state = .active ∧ (testEntry 820 .active).donePlace = some ⟨2, 1⟩
      ∧ (testEntry 820 .active).passes = 1 ∧ isBridge (segment 0 1 90000 1024 1024 0) = false :=
  ⟨fun _ => ⟨rfl, rfl, rfl, rfl, rfl, by rfl, by rfl, by rfl⟩, by decide⟩

/-- The tap hole's contour ACTIVE in a phase, with one flight at a place where the done position stands, and a stop place. -/
def tapped (phase : Phase) (place : Place) (stop : Option Cursor) : State :=
  exchanging ((((active phase).setStore [(0, tapHole.map fun r => ⟨r, none⟩)]).setQueue
    [{ testEntry 820 .active with passes := 3, closed := true, donePlace := some place }]).setStream
      { (active phase).stream with
        window := [⟨258, 820, place⟩], cursor := some (.seg ⟨3, 1⟩), stopPlace := stop, holdAtMade := some true })

/-- A flight before the bridge, the bridge itself, the last segment of the last pass, and the last one before a stop place. -/
theorem witness_SegDoneAdvances_phases :
    (∀ phase place stop, phase ≠ .idle → phase ≠ .finishing →
      JetSafe (tapped phase place stop) ∧ (tapped phase place stop).stream.window = ⟨258, 820, place⟩ :: []
        ∧ (tapped phase place stop).jsq.phase = phase ∧ (tapped phase place stop).stream.cursor = some (.seg ⟨3, 1⟩)
        ∧ (tapped phase place stop).stream.stopPlace = stop)
      ∧ (∀ e : Entry, (tapped .cutting ⟨3, 1⟩ none).segments { e with pages := [0] } = tapHole)
      ∧ (successor tapHole 3 ⟨3, 1⟩ = .seg ⟨4, 1⟩ ∧ (tapHole[4]?).any isBridge = true)
      ∧ successor tapHole 3 ⟨7, 3⟩ = .fin ∧ successor tapHole 3 ⟨2, 1⟩ = .seg ⟨3, 1⟩
      ∧ Phase.positioning ∉ [Phase.cutting, .holding, .bridgeTravel] :=
  ⟨fun phase place stop h h' =>
    ⟨jetSafe_one _ { testEntry 820 .active with passes := 3, closed := true, donePlace := some place } rfl rfl rfl
      (fun _ hj => nomatch hj) h h' rfl rfl, rfl, rfl, rfl, rfl⟩, fun _ => rfl, by decide⟩

/-- A serial that is not the oldest one's, and an empty window. -/
theorem witness_WrongSegDoneIgnored :
    ((inFlight 100).stream.window = ⟨258, 820, ⟨2, 1⟩⟩ :: [] ∧ (⟨258, 820, ⟨2, 1⟩⟩ : Flight).serial ≠ 259
        ∧ (inFlight 100).motion.exchange = some ⟨⟨none, .empty 0⟩, [], false⟩
        ∧ decodeFrame (frame 1 100 259) = some (100, .segDone 259) ∧ (100 : Byte).toNat = (inFlight 100).motion.override
        ∧ (inFlight 100).motion.link = .ok)
      ∧ ((exchanging (active .cutting)).stream.window = []
        ∧ (exchanging (active .cutting)).motion.exchange = some ⟨⟨none, .empty 0⟩, [], false⟩
        ∧ (100 : Byte).toNat = (exchanging (active .cutting)).motion.override
        ∧ (exchanging (active .cutting)).motion.link = .ok) := by decide

theorem witness_LinkFailures :
    (exchanging State.reset).motion.exchange = some ⟨⟨none, .empty 0⟩, [], false⟩ ∧ (exchanging State.reset).activeEntry = none
      ∧ decodeFrame (frame 11 100 0) = none ∧ State.reset.motion.timer = some 200 := by decide

/-- A fault of an ACTIVE entry in every phase of a contour, the stop's cause and ending present in HOLDING. -/
theorem witness_LinkFailures_active :
    (∀ phase, phase ≠ .idle → phase ≠ .finishing → JetSafe (exchanging (active phase))
        ∧ (exchanging (active phase)).motion.timer = some 200)
      ∧ JetSafe (exchanging (stopping ⟨3, 1⟩)) ∧ (exchanging (stopping ⟨3, 1⟩)).jsq.phase = .holding
      ∧ (exchanging (stopping ⟨3, 1⟩)).jsq.stopCause = some .operator
      ∧ (exchanging (stopping ⟨3, 1⟩)).jsq.stopEnding = some .held :=
  ⟨fun phase h h' => ⟨jetSafe_active phase h h', rfl⟩,
    jetSafe_one _ (testEntry 820 .active) rfl rfl rfl (fun job hj => by cases hj; decide) (by decide) (by decide) rfl rfl, rfl, rfl,
    rfl⟩

theorem witness_SequencerTimers :
    (∀ mode, QueueLaw (piercing mode) ∧ (piercing mode).queue = testEntry 820 .active :: []
        ∧ (piercing mode).jsq.phase = .piercing ∧ (piercing mode).jsq.pierceMs = some 0
        ∧ (piercing mode).jsq.startMode = some mode)
      ∧ (testEntry 820 .active).state = .active
      ∧ ∀ phase, QueueLaw (waiting phase) ∧ (waiting phase).queue = testEntry 820 .active :: []
        ∧ (waiting phase).jsq.wait = some ⟨120, 0⟩ ∧ (waiting phase).jsq.phase = phase
        ∧ (waiting phase).stream.cursor = some (.seg ⟨2, 1⟩) :=
  ⟨fun _ => ⟨queueLaw_one (testEntry 820 .active), rfl, rfl, rfl, rfl⟩, rfl,
    fun _ => ⟨queueLaw_one (testEntry 820 .active), rfl, rfl, rfl, rfl⟩⟩

/-- A valve close that is the last, one with a later open, and a list of 16 with an outdated pressure second. -/
theorem witness_PumpMessagesLeaveInOrder :
    ((active .bridgeStop).setPump { State.reset.pump with transmit := [.setValve .closed] }).pump.transmit
        = .setValve .closed :: []
      ∧ (active .bridgeStop).jsq.phase = .bridgeStop ∧ PumpMessage.setValve .opened ∈ [PumpMessage.setValve .opened]
      ∧ [PumpMessage.setAbrasive 0].length < 16
      ∧ (PumpMessage.setValve .closed :: ([] ++ .setPressure 1 :: (List.replicate 13 (.setAbrasive 0) ++ [.setPressure 2]))).length
        = 16 := by decide

theorem witness_PumpReportsTaken :
    State.reset.pump.assembly = none
      ∧ [(0xA5 : Byte)].length < 5 ∧ [(0xA5 : Byte), 16, 49, 1].length < 5
      ∧ ([(0xA5 : Byte), 16, 49, 1, 0].length = 5 ∧ (status 305 0).toList = [0xA5, 16, 49, 1, 0] ++ [0x19])
      ∧ decodeStatus (status 305 0x30).toList = none ∧ decodeStatus (status 305 0x10).toList = some ⟨305, 0, .low⟩
      ∧ State.reset.activeEntry = none ∧ State.reset.jsq.wait = none ∧ State.reset.jsq.phase ≠ .cutting
      ∧ Quiet State.reset ∧ State.reset.pump.timer = some 1000 :=
  ⟨rfl, by decide, by decide, by decide, by decide, by decide, rfl, rfl, by decide, quiet_reset, rfl⟩

/-- Readiness at both ends of the band with a wait open, a fault code, and a sag one MPa past its margin, over an ACTIVE
entry. -/
theorem witness_PumpReportsTaken_active :
    (∀ phase, phase ≠ .idle → phase ≠ .finishing → JetSafe (waiting phase) ∧ (waiting phase).jsq.wait ≠ none
        ∧ (waiting phase).jsq.pierceMs = none ∧ (waiting phase).pump.ready = false ∧ (waiting phase).pump.sag = 0)
      ∧ ((active .cutting).jsq.wait = none ∧ (active .cutting).jsq.valve = .opened)
      ∧ [status 115 0, status 125 0, status 309 0, status 310 0, status 120 1].map (fun m => decodeStatus m.toList)
        = [some ⟨115, 0, .ok⟩, some ⟨125, 0, .ok⟩, some ⟨309, 0, .ok⟩, some ⟨310, 0, .ok⟩, some ⟨120, 1, .ok⟩]
      ∧ (120 ≤ 115 + State.reset.config.readyBand.toNat ∧ 125 ≤ 120 + State.reset.config.readyBand.toNat)
      ∧ (309 + State.reset.config.dropMargin.toNat < 340 ∧ 340 ≤ 310 + State.reset.config.dropMargin.toNat) :=
  ⟨fun phase h h' =>
    ⟨jetSafe_one _ (testEntry 820 .active) rfl rfl rfl (fun _ hj => nomatch hj) h h' rfl rfl, nofun, rfl, rfl, rfl⟩, by decide⟩

/-- A full window, and one of 7 flights with a SEG in the exchange. -/
def fullWindow (flights : Nat) (body : RecordBody) : State :=
  (State.reset.setStream { State.freshStream with window := List.replicate flights ⟨0, 1, ⟨0, 1⟩⟩ }).setMotion
    { State.reset.motion with exchange := some ⟨⟨some 7, body⟩, [], false⟩ }

theorem witness_WindowLawKept :
    (exec .motionFrameCutShort (fullWindow 8 (.empty 0)) = .next (after .motionFrameCutShort (fullWindow 8 (.empty 0)))
        ∧ WindowLaw (fullWindow 8 (.empty 0)))
      ∧ ∀ r, exec .motionFrameCutShort (fullWindow 7 (.seg r)) = .next (after .motionFrameCutShort (fullWindow 7 (.seg r)))
        ∧ WindowLaw (fullWindow 7 (.seg r)) :=
  ⟨⟨rfl, by unfold WindowLaw; decide⟩, fun _ => ⟨rfl, Nat.le_refl 8⟩⟩

/-- Serials that wrap from 65535 to 0, with the next to come. -/
theorem witness_WindowLawKept_serials :
    (let s := (active .cutting).setStream
      { (active .cutting).stream with window := [⟨65535, 820, ⟨2, 1⟩⟩, ⟨0, 820, ⟨3, 1⟩⟩], nextSerial := 1 }
    JetSafe s ∧ SerialLaw s ∧ segSerials s = [65535, 0]) := by
  refine ⟨jetSafe_active .cutting (by decide) (by decide), ⟨.inl rfl, ?_, ?_⟩, rfl⟩
  · intro i a b ha hb
    match i with
    | 0 => cases ha; cases hb; rfl
    | 1 => cases hb
    | _ + 2 => cases ha
  · intro _ _ a ha
    cases ha
    rfl

/-- The settings law holds with both settings still to be sent, the newest of each JSQ's, and with none. -/
theorem witness_JetSafeKept_settings :
    SettingsLaw State.reset
      ∧ SettingsLaw ((active .piercing).setPump { State.reset.pump with
          transmit := [.setValve .closed, .setValve .opened, .setAbrasive 0, .setAbrasive 450] })
      ∧ exec .pumpMessageTransmitted ((active .piercing).setPump { State.reset.pump with
          transmit := [.setValve .closed, .setValve .opened, .setAbrasive 0, .setAbrasive 450] })
        = .next (after .pumpMessageTransmitted ((active .piercing).setPump { State.reset.pump with
          transmit := [.setValve .closed, .setValve .opened, .setAbrasive 0, .setAbrasive 450] })) :=
  ⟨⟨fun _ h => by cases h; rfl, fun _ h => by cases h; rfl⟩, ⟨fun _ h => by cases h; rfl, fun _ h => by cases h; rfl⟩, rfl⟩

theorem witness_JetSafeKept :
    exec .hold (active .piercing) = .next (after .hold (active .piercing)) ∧ JetSafe (active .piercing) :=
  ⟨rfl, jetSafe_active _ (by decide) (by decide)⟩

end Sys2Proof.Tests
end

/-! PROOFS. The power-on values and the finished list of the contour queue (R20, R21, R22). -/

namespace Sys2Proof.Proofs

open Sys2Proof Sys2Proof.Machine

/-! ### Power-on reset -/

/-- POWER_ON_RESET, whatever the state before it, leaves the reset state with the commands still waiting. -/
theorem exec_powerOnReset (s : State) : exec .powerOnReset s = .next (State.reset.setPending s.pending) := rfl

/-- The reset state holds no entry, queued or finished, and every page is free, whatever commands wait (R22, R53). -/
theorem reset_empty (waiting : List Instr) :
    (State.reset.setPending waiting).queue = [] ∧ (State.reset.setPending waiting).finished = []
      ∧ (State.reset.setPending waiting).freePages = List.range 256 := by
  rw [State.setPending_queue, State.setPending_finished, State.setPending_freePages]
  exact ⟨rfl, rfl, by simp only [State.reset, State.allPages]⟩

/-- Settles O3: the reset state's queue and finished list are empty, and its free-page list is complete. -/
theorem powerOnEmptiesQueue : Obligations.PowerOnEmptiesQueue :=
  fun s => ⟨State.reset.setPending s.pending, exec_powerOnReset s, reset_empty s.pending⟩

/-! ### FINISHED_READ -/

/-- FINISHED_READ goes through the job port. -/
theorem exec_finishedRead (n : Byte) (s : State) :
    exec (.finishedRead n) s = .next (s.onJobPort (finishedReadCommand n)) := rfl

/-- With n in range, the oldest n entries are returned and taken off the list. -/
theorem finishedReadCommand_of_inRange {n : Byte} (h : 1 ≤ n.toNat ∧ n.toNat ≤ 16) (s : State) :
    finishedReadCommand n s
      = okay (.finished (s.finished.take n.toNat)) (s.setFinished (s.finished.drop n.toNat)) :=
  if_pos h

/-- With n out of range, the command is refused for its only field. -/
theorem finishedReadCommand_of_outOfRange {n : Byte} (h : ¬ (1 ≤ n.toNat ∧ n.toNat ≤ 16)) (s : State) :
    finishedReadCommand n s = (badField 0, s) :=
  if_neg h

/-- The passage through EXECUTING leaves no mark behind the response. -/
theorem respond_setPort (s : State) (p : PortCondition) (r : Response) :
    (s.setPort { s.port with condition := p }).respond r = s.respond r := rfl

/-- The same where the command has also changed the finished list. -/
theorem respond_setFinished_setPort (s : State) (p : PortCondition) (l : List Finished) (r : Response) :
    ((s.setPort { s.port with condition := p }).setFinished l).respond r = (s.setFinished l).respond r := rfl

/-- FINISHED_READ refused: only the response is new. -/
theorem exec_finishedRead_of_outOfRange {n : Byte} {s : State} (hopen : portOpen s)
    (h : ¬ (1 ≤ n.toNat ∧ n.toNat ≤ 16)) : exec (.finishedRead n) s = .next (s.respond (badField 0)) := by
  rw [exec_finishedRead, State.onJobPort_of_open hopen, finishedReadCommand_of_outOfRange h, respond_setPort]

/-- FINISHED_READ accepted: the oldest entries are in the response and no longer on the list. -/
theorem exec_finishedRead_of_inRange {n : Byte} {s : State} (hopen : portOpen s) (h : 1 ≤ n.toNat ∧ n.toNat ≤ 16) :
    exec (.finishedRead n) s
      = .next ((s.setFinished (s.finished.drop n.toNat)).respond ⟨.ok, .finished (s.finished.take n.toNat)⟩) := by
  rw [exec_finishedRead, State.onJobPort_of_open hopen, finishedReadCommand_of_inRange h, State.setPort_finished]
  simp only [okay, respond_setFinished_setPort]

/-! ### Additions to the finished list -/

/-- Where the list has room, an addition drops nothing and goes to the tail (R20). -/
theorem addFinished_finished_of_lt {s : State} (h : s.finished.length < 16) (f : Finished) :
    (s.addFinished f).finished = s.finished ++ [f] := by
  simp [State.addFinished, Nat.not_le.mpr h]

/-- After a raise, a source routed to the line is pending there, by the raise or from before (R187). -/
theorem raise_pending_of_routed {bit : Mask} {l : Line} (hroute : l.route &&& bit ≠ 0) :
    (l.raise bit).pending &&& bit ≠ 0 := by
  rcases State.raise_line bit l with ⟨hkept, heq⟩ | ⟨-, heq⟩
  · rw [heq]
    exact hkept.resolve_left hroute
  · have hbit : (l.pending ||| bit) &&& bit = bit := by
      ext i
      simpa using Or.inr
    have hne : bit ≠ 0 := fun h => hroute (by simp [h])
    rw [heq, hbit]
    exact hne

/-- A source that a block raises is pending on each line it is routed to. -/
theorem raise_pendingWhereRouted (s : State) (src : Source) : pendingWhereRouted src s (s.raise src) := by
  unfold pendingWhereRouted
  rw [State.raise, State.setAttention_attention]
  exact ⟨raise_pending_of_routed, raise_pending_of_routed⟩

/-- An addition raises CONTOUR_END (R20). -/
theorem addFinished_pendingWhereRouted (s : State) (f : Finished) :
    pendingWhereRouted .contourEnd s (s.addFinished f) :=
  raise_pendingWhereRouted (s.setFinished _) .contourEnd

/-- Settles O33: both answers of the command, and the room that a read of at least one entry leaves on a list of at most 16,
so that the next addition goes behind the entries left. -/
theorem finishedReadTakesOldest : Obligations.FinishedReadTakesOldest := by
  intro n s hopen
  refine ⟨fun hout => exec_finishedRead_of_outOfRange hopen (by omega), fun hlow hhigh =>
    ⟨exec_finishedRead_of_inRange hopen ⟨hlow, hhigh⟩, fun f hlen =>
      ⟨_, rfl, ?_, (addFinished_pendingWhereRouted (s.setFinished (s.finished.drop n.toNat)) f).1⟩⟩⟩
  have hroom : (s.setFinished (s.finished.drop n.toNat)).finished.length < 16 := by
    simp only [State.setFinished_finished, List.length_drop]
    omega
  exact addFinished_finished_of_lt hroom f

end Sys2Proof.Proofs

/-! PROOFS. Clearing and reading the staging buffers (R27, R29). -/

namespace Sys2Proof.Proofs

open Sys2Proof Sys2Proof.Machine

/-! ### The buffer a command names -/

/-- Only the bytes 0 and 1 name a buffer (R189). -/
theorem bufferName_ofByte_eq_none {b : Byte} (h0 : b ≠ 0) (h1 : b ≠ 1) : BufferName.ofByte b = none := by
  rw [BufferName.ofByte, if_neg h0, if_neg h1]

/-- A buffer is read past a change of the port. -/
@[simp] theorem setPort_buffer (s : State) (p : JobPort) (name : BufferName) :
    (s.setPort p).buffer name = s.buffer name := by
  cases name with
  | a => rfl
  | b => rfl

/-- A slot read off the list of the slots is the slot itself. -/
theorem slots_toList_getD (b : Buffer) {k : Nat} (h : k < 32) : b.slots.toList.getD k none = b.slots[k] := by
  rw [List.getD_eq_getElem _ _ (by rw [Vector.length_toList]; exact h), Vector.getElem_toList]

/-! ### What the port holds after a command -/

/-- A command that leaves the state as it took it leaves only its response. -/
theorem onJobPort_of_unchanged {s : State} (hopen : portOpen s) {command : State → Reply} {r : Response}
    (h : command (s.setPort { s.port with condition := .executing })
      = (r, s.setPort { s.port with condition := .executing })) :
    s.onJobPort command = s.respond r := by
  rw [State.onJobPort_of_open hopen, h, respond_setPort]

/-- The passage through EXECUTING leaves no mark where the command has changed a buffer. -/
theorem respond_setBuffer_setPort (s : State) (p : PortCondition) (name : BufferName) (b : Buffer) (r : Response) :
    ((s.setPort { s.port with condition := p }).setBuffer name b).respond r = (s.setBuffer name b).respond r := by
  cases name with
  | a => rfl
  | b => rfl

/-! ### BUF_CLEAR -/

/-- BUF_CLEAR goes through the job port. -/
theorem exec_bufClear (buffer : Byte) (s : State) :
    exec (.bufClear buffer) s = .next (s.onJobPort (bufClearCommand buffer)) := rfl

/-- A byte that names no buffer is refused for its field. -/
theorem bufClearCommand_of_unnamed {buffer : Byte} (h : BufferName.ofByte buffer = none) (s : State) :
    bufClearCommand buffer s = (badField 0, s) := by
  simp only [bufClearCommand, h]
  rfl

/-- A buffer that a commit uses is not cleared. -/
theorem bufClearCommand_of_not_free {buffer : Byte} {name : BufferName} {s : State}
    (h : BufferName.ofByte buffer = some name) (hstate : (s.buffer name).state ≠ .free) :
    bufClearCommand buffer s = (plainRefusal .busy, s) := by
  simp only [bufClearCommand, h, if_neg hstate]
  rfl

/-- A FREE buffer is emptied, its last commit result kept. -/
theorem bufClearCommand_of_free {buffer : Byte} {name : BufferName} {s : State}
    (h : BufferName.ofByte buffer = some name) (hstate : (s.buffer name).state = .free) :
    bufClearCommand buffer s
      = okay .empty
          (s.setBuffer name ⟨Vector.replicate 32 none, 0, (s.buffer name).state, (s.buffer name).last⟩) := by
  simp only [bufClearCommand, h, if_pos hstate]

/-- Settles O12: by the buffer the command names, and by whether that buffer is FREE. -/
theorem bufClearEmptiesBuffer : Obligations.BufClearEmptiesBuffer := by
  intro buffer s hopen
  refine ⟨fun h0 h1 => ?unnamed, fun name hname => ⟨fun hbusy => ?busy, fun hfree => ?free⟩⟩
  case unnamed =>
    have hnone := bufferName_ofByte_eq_none h0 h1
    rw [exec_bufClear, onJobPort_of_unchanged hopen (bufClearCommand_of_unnamed hnone _)]
  case busy =>
    rw [exec_bufClear, onJobPort_of_unchanged hopen (bufClearCommand_of_not_free hname (by rwa [setPort_buffer]))]
  case free =>
    rw [exec_bufClear, State.onJobPort_of_open hopen, bufClearCommand_of_free hname (by rwa [setPort_buffer]),
      setPort_buffer]
    simp only [okay, respond_setBuffer_setPort]

/-! ### BUF_READ -/

/-- BUF_READ goes through the job port. -/
theorem exec_bufRead (buffer slot : Byte) (s : State) :
    exec (.bufRead buffer slot) s = .next (s.onJobPort (bufReadCommand buffer slot)) := rfl

/-- A byte that names no buffer is refused for its field, whatever the slot. -/
theorem bufReadCommand_of_unnamed {buffer : Byte} (h : BufferName.ofByte buffer = none) (slot : Byte) (s : State) :
    bufReadCommand buffer slot s = (badField 0, s) := by
  simp only [bufReadCommand, h]
  rfl

/-- A slot above 31 is refused for its field. -/
theorem bufReadCommand_of_slot_above {buffer slot : Byte} {name : BufferName}
    (h : BufferName.ofByte buffer = some name) (hslot : 31 < slot.toNat) (s : State) :
    bufReadCommand buffer slot s = (badField 1, s) := by
  simp only [bufReadCommand, h, if_pos hslot]
  rfl

/-- A slot of the buffer is answered with the buffer's state and write pointer, whatever the state is. -/
theorem bufReadCommand_of_slot {buffer slot : Byte} {name : BufferName}
    (h : BufferName.ofByte buffer = some name) (hslot : slot.toNat < 32) (s : State) :
    bufReadCommand buffer slot s
      = okay (.bufferSlot (s.buffer name).state (s.buffer name).pointer.val (s.buffer name).slots[slot.toNat]) s := by
  simp only [bufReadCommand, h, if_neg (Nat.not_lt.mpr (Nat.le_of_lt_succ hslot)), slots_toList_getD _ hslot]

/-- Settles O14: no answer of BUF_READ changes the state, so each case is its command's answer. -/
theorem bufReadReturnsSlot : Obligations.BufReadReturnsSlot := by
  intro buffer slot s hopen
  refine ⟨fun h0 h1 => ?unnamed, fun name hname => ⟨fun habove => ?above, fun hslot => ?slot⟩⟩
  case unnamed =>
    have hnone := bufferName_ofByte_eq_none h0 h1
    rw [exec_bufRead, onJobPort_of_unchanged hopen (bufReadCommand_of_unnamed hnone slot _)]
  case above =>
    rw [exec_bufRead, onJobPort_of_unchanged hopen (bufReadCommand_of_slot_above hname habove _)]
  case slot =>
    rw [exec_bufRead, onJobPort_of_unchanged hopen (bufReadCommand_of_slot hname hslot _), setPort_buffer]

end Sys2Proof.Proofs

/-! PROOFS. A buffer's update, and the rows of the table that run through the job port. -/

namespace Sys2Proof.Proofs

open Sys2Proof Sys2Proof.Machine

/-! ### A buffer's update -/

@[simp] theorem setBuffer_pending (s : State) (name : BufferName) (b : Buffer) : (s.setBuffer name b).pending = s.pending := by
  cases name <;> rfl
@[simp] theorem setBuffer_port (s : State) (name : BufferName) (b : Buffer) : (s.setBuffer name b).port = s.port := by
  cases name <;> rfl
@[simp] theorem setBuffer_config (s : State) (name : BufferName) (b : Buffer) : (s.setBuffer name b).config = s.config := by
  cases name <;> rfl
@[simp] theorem setBuffer_engine (s : State) (name : BufferName) (b : Buffer) : (s.setBuffer name b).engine = s.engine := by
  cases name <;> rfl
@[simp] theorem setBuffer_store (s : State) (name : BufferName) (b : Buffer) : (s.setBuffer name b).store = s.store := by
  cases name <;> rfl
@[simp] theorem setBuffer_freePages (s : State) (name : BufferName) (b : Buffer) : (s.setBuffer name b).freePages = s.freePages := by
  cases name <;> rfl
@[simp] theorem setBuffer_queue (s : State) (name : BufferName) (b : Buffer) : (s.setBuffer name b).queue = s.queue := by
  cases name <;> rfl
@[simp] theorem setBuffer_finished (s : State) (name : BufferName) (b : Buffer) : (s.setBuffer name b).finished = s.finished := by
  cases name <;> rfl
@[simp] theorem setBuffer_materials (s : State) (name : BufferName) (b : Buffer) : (s.setBuffer name b).materials = s.materials := by
  cases name <;> rfl
@[simp] theorem setBuffer_planner (s : State) (name : BufferName) (b : Buffer) : (s.setBuffer name b).planner = s.planner := by
  cases name <;> rfl
@[simp] theorem setBuffer_jsq (s : State) (name : BufferName) (b : Buffer) : (s.setBuffer name b).jsq = s.jsq := by
  cases name <;> rfl
@[simp] theorem setBuffer_stream (s : State) (name : BufferName) (b : Buffer) : (s.setBuffer name b).stream = s.stream := by
  cases name <;> rfl
@[simp] theorem setBuffer_motion (s : State) (name : BufferName) (b : Buffer) : (s.setBuffer name b).motion = s.motion := by
  cases name <;> rfl
@[simp] theorem setBuffer_pump (s : State) (name : BufferName) (b : Buffer) : (s.setBuffer name b).pump = s.pump := by
  cases name <;> rfl
@[simp] theorem setBuffer_wear (s : State) (name : BufferName) (b : Buffer) : (s.setBuffer name b).wear = s.wear := by
  cases name <;> rfl
@[simp] theorem setBuffer_attention (s : State) (name : BufferName) (b : Buffer) : (s.setBuffer name b).attention = s.attention := by
  cases name <;> rfl
@[simp] theorem setBuffer_buffer_same (s : State) (name : BufferName) (b : Buffer) :
    (s.setBuffer name b).buffer name = b := by cases name <;> rfl

/-- A buffer's update leaves the other buffer alone. -/
theorem setBuffer_buffer_other (s : State) {name other : BufferName} (h : other ≠ name) (b : Buffer) :
    (s.setBuffer name b).buffer other = s.buffer other := by
  cases name <;> cases other <;> first | rfl | exact absurd rfl h

/-! ### The rows of the table -/

/-- A job port command is handed to its block through the port (R182). -/
theorem exec_of_command {c : Instr} (h : (encodeCommand c).isSome = true) (s : State) :
    exec c s = .next (s.onJobPort (runCommand c)) := by
  cases c <;> first | rfl | simp [encodeCommand] at h

end Sys2Proof.Proofs

/-! PROOFS. What each command of the job port can do, said once: it is refused and changes nothing, or it is accepted on its
conditions with its effect. -/

namespace Sys2Proof.Proofs

open Sys2Proof Sys2Proof.Machine

/-- A reply that refuses: another code than OK, and the state as it was (R184). -/
def Refused (r : Reply) (s : State) : Prop := r.1.status ≠ .ok ∧ r.2 = s

theorem refused_of_status {status : Status} (h : status ≠ .ok) (d : Detail) (s : State) : Refused (refuse status d s) s :=
  ⟨h, rfl⟩

theorem refused_plain {status : Status} (h : status ≠ .ok) (s : State) : Refused (refusePlain status s) s := ⟨h, rfl⟩

theorem refused_badArg (offset : Nat) (s : State) : Refused (badArg offset s) s := ⟨nofun, rfl⟩

theorem refused_badCommand (s : State) : Refused (badCommand, s) s := ⟨nofun, rfl⟩

/-! ### Staging buffers and commits -/

theorem bufClearCommand_cases (buffer : Byte) (s : State) :
    Refused (bufClearCommand buffer s) s
      ∨ ∃ name, BufferName.ofByte buffer = some name ∧ (s.buffer name).state = .free
        ∧ bufClearCommand buffer s
          = okay .empty (s.setBuffer name { s.buffer name with slots := Vector.replicate 32 none, pointer := 0 }) := by
  unfold bufClearCommand
  split
  · exact .inl (refused_badArg ..)
  · split
    · exact .inr ⟨_, ‹_›, ‹_›, rfl⟩
    · exact .inl (refused_plain (by nofun) _)

theorem bufWriteCommand_cases (buffer startSlot : Byte) (records : List SegRecord) (s : State) :
    Refused (bufWriteCommand buffer startSlot records s) s
      ∨ ∃ name b, BufferName.ofByte buffer = some name ∧ (s.buffer name).state = .free
        ∧ b = (s.buffer name).write startSlot records
        ∧ bufWriteCommand buffer startSlot records s = okay (.writePointer b.pointer) (s.setBuffer name b) := by
  unfold bufWriteCommand
  split
  · exact .inl (refused_badCommand _)
  · split
    · exact .inl (refused_badArg ..)
    · split
      · exact .inl (refused_badArg ..)
      · split
        · exact .inr ⟨_, _, ‹_›, ‹_›, rfl, rfl⟩
        · exact .inl (refused_plain (by nofun) _)

theorem bufReadCommand_snd (buffer slot : Byte) (s : State) : (bufReadCommand buffer slot s).2 = s := by
  unfold bufReadCommand
  split
  · rfl
  · split <;> rfl

theorem commitStatusCommand_snd (buffer : Byte) (s : State) : (commitStatusCommand buffer s).2 = s := by
  unfold commitStatusCommand
  split <;> rfl

theorem contourAppendCommand_cases (buffer : Byte) (id : BitVec 16) (s : State) :
    Refused (contourAppendCommand buffer id s) s
      ∨ ∃ name e k page rest, BufferName.ofByte buffer = some name ∧ s.entry id.toNat = some e ∧ e.state = .loading
        ∧ (s.buffer name).state = .free ∧ (s.buffer name).fill = some k
        ∧ e.pages.length + pendingAppends s id.toNat < 32 ∧ s.freePages = page :: rest
        ∧ contourAppendCommand buffer id s
          = acceptCommit ⟨.append, name, id.toNat, true, k, page⟩ (s.setFreePages rest) := by
  unfold contourAppendCommand
  split
  · exact .inl (refused_badArg ..)
  · split
    · exact .inl (refused_plain (by nofun) _)
    · split
      · exact .inl (refused_plain (by nofun) _)
      · split
        · exact .inl (refused_plain (by nofun) _)
        · split
          · exact .inl (refused_plain (by nofun) _)
          · split
            · exact .inl (refused_plain (by nofun) _)
            · split
              · exact .inl (refused_plain (by nofun) _)
              · exact .inr ⟨_, _, _, _, _, ‹_›, ‹_›, by simp_all, by simp_all, ‹_›, by omega, ‹_›, rfl⟩

theorem contourReplaceCommand_cases (buffer : Byte) (id : BitVec 16) (position : Byte) (s : State) :
    Refused (contourReplaceCommand buffer id position s) s
      ∨ ∃ name e k page, BufferName.ofByte buffer = some name ∧ s.entry id.toNat = some e ∧ e.state.begun = false
        ∧ e.pages[position.toNat]? = some page ∧ (s.buffer name).state = .free ∧ (s.buffer name).fill = some k
        ∧ contourReplaceCommand buffer id position s = acceptCommit ⟨.replace, name, id.toNat, true, k, page⟩ s := by
  unfold contourReplaceCommand
  split
  · exact .inl (refused_badArg ..)
  · split
    · exact .inl (refused_plain (by nofun) _)
    · split
      · exact .inl (refused_plain (by nofun) _)
      · split
        · exact .inl (refused_badArg ..)
        · split
          · exact .inl (refused_plain (by nofun) _)
          · split
            · exact .inl (refused_plain (by nofun) _)
            · exact .inr ⟨_, _, _, _, ‹_›, ‹_›, by simp_all, ‹_›, by simp_all, ‹_›, rfl⟩

/-! ### The contour queue -/

theorem contourOpenCommand_cases (id tag : BitVec 16) (material quality passes pierceMode closed : Byte)
    (startX startY : BitVec 32) (beforeId : BitVec 16) (s : State) :
    Refused (contourOpenCommand id tag material quality passes pierceMode closed startX startY beforeId s) s
      ∨ ∃ e opened, e = newEntry id tag (Fin.ofNat 24 material.toNat) quality passes pierceMode closed startX startY
        ∧ firstOutOfRange (headerRanges s.config id.toNat material.toNat quality.toNat passes.toNat pierceMode.toNat
            closed.toNat startX.toNat startY.toNat) = none
        ∧ s.queue.length < 48 ∧ s.entry e.contourId = none ∧ (s.materials[e.material]).fields.isSome = true
        ∧ opened = (State.activateNewHead s (s.setQueue (place e (optionalId beforeId) s.queue))).settle
        ∧ contourOpenCommand id tag material quality passes pierceMode closed startX startY beforeId s
          = okay (.position (positionOf opened.queue e.contourId)) opened := by
  unfold contourOpenCommand
  split
  · exact .inl (refused_badArg ..)
  · split
    · exact .inl (refused_plain (by nofun) _)
    · split
      · exact .inl (refused_plain (by nofun) _)
      · dsimp only
        split
        · exact .inl (refused_plain (by nofun) _)
        · split
          · exact .inl (refused_plain (by nofun) _)
          · rename_i hlen hdup hmat _
            exact .inr ⟨_, _, rfl, ‹_›, by omega, by simpa [newEntry] using hdup,
              by simpa [newEntry, Option.isSome_iff_ne_none] using hmat, rfl, rfl⟩

theorem contourCloseCommand_cases (id : BitVec 16) (s : State) :
    Refused (contourCloseCommand id s) s
      ∨ ∃ e, s.entry id.toNat = some e ∧ e.state = .loading ∧ e.commitsPending = 0
        ∧ structureFault e.closed e.passes (s.segments e) = none
        ∧ contourCloseCommand id s
          = okay .empty (s.modifyEntry id.toNat fun e => { e with state := .waitingPlan }).chooseWork := by
  unfold contourCloseCommand
  split
  · exact .inl (refused_plain (by nofun) _)
  · split
    · exact .inl (refused_plain (by nofun) _)
    · split
      · exact .inl (refused_plain (by nofun) _)
      · split
        · exact .inl (refused_of_status (by nofun) ..)
        · exact .inr ⟨_, ‹_›, by simp_all, by simp_all, ‹_›, rfl⟩

theorem contourDeleteCommand_cases (id : BitVec 16) (s : State) :
    Refused (contourDeleteCommand id s) s
      ∨ ∃ e, s.entry id.toNat = some e ∧ e.state.begun = false
        ∧ contourDeleteCommand id s
          = okay .empty (State.activateNewHead s ((s.abandonPlan e.contourId).removeEntry e none).chooseWork).settle := by
  unfold contourDeleteCommand
  split
  · exact .inl (refused_plain (by nofun) _)
  · split
    · exact .inl (refused_plain (by nofun) _)
    · exact .inr ⟨_, ‹_›, by simp_all, rfl⟩

theorem contourMoveCommand_cases (id beforeId : BitVec 16) (s : State) :
    Refused (contourMoveCommand id beforeId s) s
      ∨ ∃ e, s.entry id.toNat = some e ∧ e.state.begun = false ∧ beforeMissing s beforeId = false
        ∧ (beforeId = id ∧ contourMoveCommand id beforeId s = okay (.position (positionOf s.queue e.contourId)) s
          ∨ ∃ moved, beforeId ≠ id
            ∧ moved = (State.activateNewHead s (s.setQueue (place e (optionalId beforeId)
                (s.queue.filter fun x => x.contourId != e.contourId)))).settle
            ∧ contourMoveCommand id beforeId s = okay (.position (positionOf moved.queue e.contourId)) moved) := by
  unfold contourMoveCommand
  split
  · exact .inl (refused_plain (by nofun) _)
  · split
    · exact .inl (refused_plain (by nofun) _)
    · split
      · exact .inl (refused_plain (by nofun) _)
      · split
        · exact .inr ⟨_, ‹_›, by simp_all, by simp_all, .inl ⟨‹_›, rfl⟩⟩
        · exact .inr ⟨_, ‹_›, by simp_all, by simp_all, .inr ⟨_, ‹_›, rfl, rfl⟩⟩

theorem contourQueryCommand_snd (id : BitVec 16) (s : State) : (contourQueryCommand id s).2 = s := by
  unfold contourQueryCommand
  split <;> rfl

theorem finishedReadCommand_cases (n : Byte) (s : State) :
    Refused (finishedReadCommand n s) s
      ∨ finishedReadCommand n s
          = okay (.finished (s.finished.take n.toNat)) (s.setFinished (s.finished.drop n.toNat)) := by
  unfold finishedReadCommand
  split
  · exact .inr rfl
  · exact .inl (refused_badArg ..)

theorem holdCommand_cases (s : State) :
    Refused (holdCommand s) s ∨ ∃ t, holdHead s = some t ∧ holdCommand s = okay .empty t.settle := by
  unfold holdCommand
  split
  · exact .inr ⟨_, ‹_›, rfl⟩
  · exact .inl (refused_plain (by nofun) _)

theorem skipCommand_cases (s : State) :
    Refused (skipCommand s) s ∨ ∃ t, skipRequest s = some t ∧ skipCommand s = okay .empty t.settle := by
  unfold skipCommand
  split
  · exact .inr ⟨_, ‹_›, rfl⟩
  · exact .inl (refused_plain (by nofun) _)

theorem resumeFault_ne_ok {s : State} {status : Status} (h : resumeFault s = some status) : status ≠ .ok := by
  unfold resumeFault at h
  split at h
  · cases h; nofun
  · split_ifs at h <;> cases h <;> nofun

theorem resumeCommand_cases (s : State) :
    Refused (resumeCommand s) s ∨ resumeFault s = none ∧ resumeCommand s = okay .empty (resumeHead s).settle := by
  unfold resumeCommand
  split
  · exact .inl (refused_plain (resumeFault_ne_ok ‹_›) _)
  · exact .inr ⟨‹_›, rfl⟩

/-! ### Materials and configuration -/

theorem matWriteCommand_cases (index : Byte) (record : Material) (s : State) :
    Refused (matWriteCommand index record s) s
      ∨ ∃ i : Fin 24, i.val = index.toNat ∧ materialFault record = none ∧ headUser s index.toNat = none
        ∧ matWriteCommand index record s
          = okay (.materialWritten ((s.materials[i]).revision + 1).toNat (s.queue.countP (returnsAtWrite index.toNat)))
              (writeMaterial i record s) := by
  unfold matWriteCommand
  split
  · exact .inl (refused_badArg ..)
  · split
    · exact .inl (refused_badArg ..)
    · split
      · exact .inl (refused_of_status (by nofun) ..)
      · exact .inr ⟨Fin.ofNat 24 index.toNat, Nat.mod_eq_of_lt (by omega), ‹_›, ‹_›, rfl⟩

theorem matReadCommand_snd (index : Byte) (s : State) : (matReadCommand index s).2 = s := by
  unfold matReadCommand
  split <;> rfl

theorem matInvalidateCommand_cases (index : Byte) (s : State) :
    Refused (matInvalidateCommand index s) s
      ∨ ∃ i : Fin 24, i.val = index.toNat ∧ (∀ e ∈ s.queue, e.material ≠ i)
        ∧ matInvalidateCommand index s = okay (.revision (s.materials[i]).revision.toNat)
            (s.setMaterials (s.materials.set i ⟨(s.materials[i]).revision, none⟩)) := by
  unfold matInvalidateCommand
  split
  · exact .inl (refused_badArg ..)
  · split
    · exact .inl (refused_of_status (by nofun) ..)
    · split
      · exact .inl (refused_of_status (by nofun) ..)
      · rename_i hindex _ _ _ hnone
        have hval : (Fin.ofNat 24 index.toNat).val = index.toNat := Nat.mod_eq_of_lt (by omega)
        refine .inr ⟨Fin.ofNat 24 index.toNat, hval, fun e he heq => ?_, rfl⟩
        exact List.find?_eq_none.1 hnone e he (by rw [heq, hval]; exact beq_self_eq_true _)

theorem configSetCommand_cases (record : MachineConfig) (s : State) :
    Refused (configSetCommand record s) s
      ∨ configFault record = none ∧ anyBegun s = false ∧ configSetCommand record s = okay .empty (s.setConfig record) := by
  unfold configSetCommand
  split
  · exact .inl (refused_badArg ..)
  · split
    · exact .inl (refused_plain (by nofun) _)
    · split
      · exact .inl (refused_plain (by nofun) _)
      · exact .inr ⟨‹_›, by simp_all, rfl⟩

/-! ### Wear counters -/

theorem wearConfigCommand_cases (counter source : Byte) (limit : BitVec 32) (s : State) :
    Refused (wearConfigCommand counter source limit s) s
      ∨ ∃ i src t, counterOfByte counter = some i ∧ WearSource.ofByte source = some src
        ∧ t = changeCounter i (Counter.configure src limit.toNat) s
        ∧ wearConfigCommand counter source limit s = okay (counterPayload t i) t := by
  unfold wearConfigCommand
  split
  · exact .inl (refused_badArg ..)
  · split
    · exact .inl (refused_badArg ..)
    · exact .inr ⟨_, _, _, ‹_›, ‹_›, rfl, rfl⟩

theorem wearLoadCommand_cases (counter : Byte) (value : BitVec 32) (s : State) :
    Refused (wearLoadCommand counter value s) s
      ∨ ∃ i t, counterOfByte counter = some i
        ∧ t = changeCounter i (fun c => { c with value := value.toNat, remainder := 0 }) s
        ∧ wearLoadCommand counter value s = okay (counterPayload t i) t := by
  unfold wearLoadCommand
  split
  · exact .inl (refused_badArg ..)
  · exact .inr ⟨_, _, ‹_›, rfl, rfl⟩

theorem wearResetCommand_cases (counter : Byte) (s : State) :
    Refused (wearResetCommand counter s) s
      ∨ ∃ i t, counterOfByte counter = some i ∧ t = changeCounter i (fun c => { c with value := 0, remainder := 0 }) s
        ∧ wearResetCommand counter s = okay (counterPayload t i) t := by
  unfold wearResetCommand
  split
  · exact .inl (refused_badArg ..)
  · exact .inr ⟨_, _, ‹_›, rfl, rfl⟩

theorem wearLevelsCommand_cases (t1 t2 t3 : BitVec 32) (d1 d2 d3 : BitVec 16) (s : State) :
    Refused (wearLevelsCommand t1 t2 t3 d1 d2 d3 s) s
      ∨ ∃ t, wearLevelsFault t1.toNat t2.toNat t3.toNat d1.toNat d2.toNat d3.toNat = none
        ∧ t = ((s.setWear { s.wear with
            t1 := t1.toNat, t2 := t2.toNat, t3 := t3.toNat, d1 := d1.toNat, d2 := d2.toNat
            d3 := d3.toNat }).judgeLevel).settle
        ∧ wearLevelsCommand t1 t2 t3 d1 d2 d3 s = okay (.level t.wear.level) t := by
  unfold wearLevelsCommand
  split
  · exact .inl (refused_badArg ..)
  · exact .inr ⟨_, ‹_›, rfl, rfl⟩

/-! ### The attention router -/

theorem routeSetCommand_cases (jatnRoute matnRoute : Mask) (jatnMode matnMode : Byte) (s : State) :
    Refused (routeSetCommand jatnRoute matnRoute jatnMode matnMode s) s
      ∨ ∃ j m, LineMode.ofByte jatnMode = some j ∧ LineMode.ofByte matnMode = some m
        ∧ routeSetCommand jatnRoute matnRoute jatnMode matnMode s = okay .empty (s.setAttention
            ⟨s.attention.jatn.reroute jatnRoute j, s.attention.matn.reroute matnRoute m⟩) := by
  unfold routeSetCommand
  split
  · exact .inl (refused_badArg ..)
  · exact .inl (refused_badArg ..)
  · exact .inr ⟨_, _, ‹_›, ‹_›, rfl⟩

end Sys2Proof.Proofs

/-! PROOFS. The course of the part's work: the few moves by which the operations change the queue, the pages, the store, the
finished list, the material table and the settings to the pump, and the operations as sequences of such moves. -/

namespace Sys2Proof.Proofs

open Sys2Proof Sys2Proof.Machine

/-! ### The moves -/

/-- Two states with the same queue, finished list, pages, write engine, store, material table, messages to the pump and jet
settings. -/
structure SameWork (s t : State) : Prop where
  queue : t.queue = s.queue := by simp
  finished : t.finished = s.finished := by simp
  freePages : t.freePages = s.freePages := by simp
  engine : t.engine = s.engine := by simp
  store : t.store = s.store := by simp
  materials : t.materials = s.materials := by simp
  transmit : t.pump.transmit = s.pump.transmit := by simp
  valve : t.jsq.valve = s.jsq.valve := by simp
  abrasive : t.jsq.abrasive = s.jsq.abrasive := by simp

/-- A rework of an entry that keeps its contour_id, its pages and its material record. -/
structure KeepsOwn (f : Entry → Entry) : Prop where
  contourId : ∀ e, (f e).contourId = e.contourId
  pages : ∀ e, (f e).pages = e.pages
  material : ∀ e, (f e).material = e.material

theorem keepsOwn_hold (cause : Cause) (point : Place) : KeepsOwn (Entry.hold cause point) :=
  ⟨fun _ => rfl, fun _ => rfl, fun _ => rfl⟩

theorem keepsOwn_activate : KeepsOwn Entry.activate := ⟨fun _ => rfl, fun _ => rfl, fun _ => rfl⟩

theorem keepsOwn_resume : KeepsOwn Entry.resume := ⟨fun _ => rfl, fun _ => rfl, fun _ => rfl⟩

theorem keepsOwn_seeLaterFault : KeepsOwn Entry.seeLaterFault := ⟨fun _ => rfl, fun _ => rfl, fun _ => rfl⟩

theorem keepsOwn_state (st : EntryState) : KeepsOwn fun e => { e with state := st } :=
  ⟨fun _ => rfl, fun _ => rfl, fun _ => rfl⟩

theorem keepsOwn_donePlace (p : Option Place) : KeepsOwn fun e => { e with donePlace := p } :=
  ⟨fun _ => rfl, fun _ => rfl, fun _ => rfl⟩

/-- What a completed commit does to the queue, the pages and the store (R6, R34, R35): an append's page joins the page list
of its entry or goes back to the free-page list, and a replace moves no page. -/
structure Completes (s t : State) (c : Commit) (rest : List Commit) : Prop where
  engine : t.engine = rest
  finished : t.finished = s.finished
  materials : t.materials = s.materials
  store : t.store = s.store ∨ ∃ page, t.store = putPage c.page page s.store
  transmit : t.pump.transmit = s.pump.transmit
  valve : t.jsq.valve = s.jsq.valve
  abrasive : t.jsq.abrasive = s.jsq.abrasive
  queue : ∃ f : Entry → Entry, t.queue = s.queue.map f ∧ (∀ e, (f e).contourId = e.contourId)
    ∧ (∀ e, (f e).material = e.material) ∧ (∀ e, (f e).state.begun = true → e.state.begun = true)
    ∧ ((∀ e, (f e).pages = e.pages)
          ∧ t.freePages = (if c.kind = .append then s.freePages ++ [c.page] else s.freePages)
        ∨ c.kind = .append ∧ t.freePages = s.freePages ∧ c.contour ∈ s.queue.map Entry.contourId
          ∧ ∀ e, (f e).pages = if e.contourId = c.contour then e.pages ++ [c.page] else e.pages)

/-- One move. -/
inductive Move : State → State → Prop
  | frame {s t : State} : SameWork s t → Move s t
  | rework (s : State) (f : Entry → Entry) : KeepsOwn f → (∀ e, (f e).state.begun = true → e.state.begun = true) →
      Move s (s.setQueue (s.queue.map f))
  | head (s : State) (f : Entry → Entry) : KeepsOwn f → Move s (s.modifyHead f)
  | words (s : State) (pages : List Nat) (words : List (Nat × PlanWord)) :
      Move s (s.setStore (writeWords pages s.store words))
  | remove (s : State) (e : Entry) (outcome : Option Outcome) : e ∈ s.queue → Move s (s.removeEntry e outcome)
  | opened (s : State) (e : Entry) (before : Option Nat) : s.queue.length < 48 → s.entry e.contourId = none →
      e.state = .loading → e.pages = [] → (s.materials[e.material]).fields.isSome = true →
      Move s (s.setQueue (place e before s.queue))
  | moved (s : State) (e : Entry) (before : Option Nat) : e ∈ s.queue → e.state.begun = false →
      Move s (s.setQueue (place e before (s.queue.filter fun x => x.contourId != e.contourId)))
  | accepted (s : State) (c : Commit) : c.kind = .replace → Move s (s.setEngine (s.engine ++ [c]))
  | taken (s : State) (c : Commit) (rest : List Nat) : c.kind = .append → s.freePages = c.page :: rest →
      Move s ((s.setFreePages rest).setEngine (s.engine ++ [c]))
  | completed {s t : State} (c : Commit) (rest : List Commit) : s.engine = c :: rest → Completes s t c rest →
      Move s t
  | read (s : State) (n : Nat) : Move s (s.setFinished (s.finished.drop n))
  | written (s : State) (i : Fin 24) (r : MaterialRecord) : r.fields.isSome = true →
      Move s (s.setMaterials (s.materials.set i r))
  | invalidated (s : State) (i : Fin 24) (r : MaterialRecord) : (∀ e ∈ s.queue, e.material ≠ i) →
      Move s (s.setMaterials (s.materials.set i r))
  | cleared {s t : State} : t.queue = [] → t.finished = [] → t.freePages = State.allPages → t.engine = [] → t.store = [] →
      t.jsq.valve = .closed → t.jsq.abrasive = 0 →
      SettingsLaw t → Move s t
  | pressure (s : State) (target : Nat) : Move s (s.issue (.setPressure target))
  | opens (s : State) (rate : Nat) : Move s (s.jetOn rate)
  | shuts (s : State) : Move s s.jetOff
  | sent (s : State) (m : PumpMessage) (rest : List PumpMessage) (wire : List Byte) : s.pump.transmit = m :: rest →
      Move s (s.setPump { s.pump with transmit := rest, wire := wire })

/-- Any number of moves. -/
def Course : State → State → Prop := Relation.ReflTransGen Move

/-- An entry of the queue found by its contour_id. -/
theorem entry_some {s : State} {id : Nat} {e : Entry} (h : s.entry id = some e) : e ∈ s.queue ∧ e.contourId = id :=
  ⟨List.mem_of_find?_eq_some h, by simpa using List.find?_some h⟩

namespace Course

variable {s u v : State}

theorem refl : Course s s := Relation.ReflTransGen.refl

theorem move (h : Course s u) (hm : Move u v) : Course s v := Relation.ReflTransGen.tail h hm

theorem trans (h : Course s u) (h' : Course u v) : Course s v := Relation.ReflTransGen.trans h h'

/-- A law that no move breaks holds at the end of a course. -/
theorem keeps {P : State → Prop} (hmove : ∀ s t, Move s t → P s → P t) (h : Course s u) (hs : P s) : P u := by
  induction h with
  | refl => exact hs
  | tail _ hm ih => exact hmove _ _ hm ih

theorem frame (h : Course s u) (hf : SameWork u v) : Course s v := h.move (.frame hf)

theorem cond {c : Prop} [Decidable c] (h : Course s u) (h' : Course s v) : Course s (if c then u else v) := by
  split
  · exact h
  · exact h'

/-! ### Operations that leave the work alone, and settings to the pump -/

theorem setPlanner (h : Course s u) (x : Planner) : Course s (u.setPlanner x) := h.frame {}
theorem setStream (h : Course s u) (x : Stream) : Course s (u.setStream x) := h.frame {}
theorem setMotion (h : Course s u) (x : MotionPort) : Course s (u.setMotion x) := h.frame {}
theorem setAttention (h : Course s u) (x : Attention) : Course s (u.setAttention x) := h.frame {}
theorem raise (h : Course s u) (src : Source) : Course s (u.raise src) := h.frame {}
theorem settle (h : Course s u) : Course s u.settle := h.frame {}
theorem endActive (h : Course s u) : Course s u.endActive := h.frame {}
theorem clearWindow (h : Course s u) : Course s u.clearWindow := h.frame {}
theorem makeDue (h : Course s u) (c : Control) : Course s (u.makeDue c) := h.frame {}
theorem makeStopDue (h : Course s u) (c : Control) : Course s (u.makeStopDue c) := h.frame {}
theorem holdAtDue (h : Course s u) : Course s u.holdAtDue := h.frame {}
theorem startStream (h : Course s u) (p : Place) : Course s (u.startStream p) := h.frame {}
theorem countWear (h : Course s u) (f : Counter → Counter) : Course s (u.countWear f) := h.frame {}
theorem startActiveJob (h : Course s u) (kind : JobKind) (e : Entry) : Course s (u.startActiveJob kind e) := h.frame {}
theorem abandonPlan (h : Course s u) (id : Nat) : Course s (u.abandonPlan id) := h.frame {}

/-- JSQ changes its phase or an item of a start, not the settings it holds as last sent. -/
theorem setJsq (h : Course s u) {x : Sequencer} (hv : x.valve = u.jsq.valve := by rfl)
    (ha : x.abrasive = u.jsq.abrasive := by rfl) : Course s (u.setJsq x) :=
  h.frame ⟨rfl, rfl, rfl, rfl, rfl, rfl, rfl, hv, ha⟩

/-- PLK changes anything but the messages to send. -/
theorem setPump (h : Course s u) {x : PumpLink} (hx : x.transmit = u.pump.transmit := by rfl) : Course s (u.setPump x) :=
  h.frame ⟨rfl, rfl, rfl, rfl, rfl, rfl, hx, rfl, rfl⟩

theorem leavePhase (h : Course s u) : Course s u.leavePhase := h.setJsq
theorem sequencerIdle (h : Course s u) : Course s u.sequencerIdle := h.leavePhase.setJsq
theorem jetOn (h : Course s u) (rate : Nat) : Course s (u.jetOn rate) := h.move (.opens u rate)
theorem jetOff (h : Course s u) : Course s u.jetOff := h.move (.shuts u)
theorem pressure (h : Course s u) (target : Nat) : Course s (u.issue (.setPressure target)) := h.move (.pressure u target)
theorem issueIdlePressure (h : Course s u) : Course s u.issueIdlePressure := h.pressure _

theorem pressureStep (h : Course s u) (target : Nat) : Course s (u.pressureStep target) := (h.pressure _).setJsq

theorem startSequence (h : Course s u) (e : Entry) (mode : PierceMode) (x y : Nat) :
    Course s (u.startSequence e mode x y) :=
  ((h.makeDue _).pressureStep (State.firstTarget ((u.makeDue (.traverse x y u.config.traverseSpeed.toNat)).materialOf e)
    mode)).setJsq

theorem restAtOnce (h : Course s u) : Course s u.restAtOnce :=
  ((h.makeStopDue .halt).jetOff.cond (h.makeStopDue .halt)).leavePhase.clearWindow

theorem openJet (h : Course s u) (e : Entry) : Course s (u.openJet e) :=
  (h.jetOn _).setJsq.cond (h.jetOn _).setJsq

theorem afterPierce (h : Course s u) (e : Entry) : Course s (u.afterPierce e) := by
  unfold State.afterPierce
  split
  · exact (h.pressureStep _).setJsq
  · exact h.setJsq

theorem pierceExpires (h : Course s u) : Course s u.pierceExpires := by
  rcases State.pierceExpires_cases u with hc | ⟨e, -, -, -, hc⟩ <;> rw [hc]
  · exact h
  · exact ((h.setJsq.countWear _).afterPierce e).settle

theorem pierceAtOnce (h : Course s u) (old : State) : Course s (u.pierceAtOnce old) := h.pierceExpires.cond h

theorem positioningEnd (h : Course s u) (e : Entry) : Course s (u.positioningEnd e) := (h.openJet e).cond h

theorem onArrived (h : Course s u) (serial : Serial) : Course s (u.onArrived serial) := by
  unfold State.onArrived
  split
  · exact h
  · exact (h.setJsq.positioningEnd _).cond h

theorem onPressureReady (h : Course s u) : Course s u.onPressureReady := by
  unfold State.onPressureReady
  split
  · exact h
  · have hclosed : Course s (u.setJsq { u.jsq with wait := none }) := h.setJsq
    dsimp only
    split
    · exact hclosed
    · split
      · exact hclosed.positioningEnd _
      · exact hclosed.openJet _
      · exact hclosed.setJsq
      · exact hclosed

theorem startRepierce (h : Course s u) (e : Entry) : Course s (u.startRepierce e) := (h.pressureStep _).setJsq

/-! ### The planning engine -/

theorem modifyHead (h : Course s u) {f : Entry → Entry} (hf : KeepsOwn f) : Course s (u.modifyHead f) :=
  h.move (.head u f hf)

/-- Reworking the entry with one contour_id into a state that has not begun is a move. -/
theorem modifyEntry (h : Course s u) (id : Nat) {f : Entry → Entry} (hf : KeepsOwn f)
    (hb : ∀ e, (f e).state.begun = true → e.state.begun = true) : Course s (u.modifyEntry id f) := by
  have hcases : ∀ e, (if e.contourId = id then f e else e) = f e ∨ (if e.contourId = id then f e else e) = e :=
    fun e => ite_eq_or_eq ..
  refine h.move (.rework u (fun e => if e.contourId = id then f e else e)
    ⟨fun e => ?_, fun e => ?_, fun e => ?_⟩ fun e => ?_) <;> rcases hcases e with he | he <;> rw [he]
  · exact hf.contourId e
  · exact hf.pages e
  · exact hf.material e
  · exact hb e
  · exact fun hbegun => hbegun

/-- The engine and a request send an entry to a state that has not begun. -/
theorem modifyState (h : Course s u) (id : Nat) {st : EntryState} (hst : st.begun = false) :
    Course s (u.modifyEntry id fun e => { e with state := st }) :=
  h.modifyEntry id (keepsOwn_state st) fun _ he => absurd (hst.symm.trans he) Bool.false_ne_true

theorem chooseWork (h : Course s u) : Course s u.chooseWork := by
  rcases State.chooseWork_cases u with hc | ⟨e, -, -, hc⟩ <;> rw [hc]
  · exact h
  · exact (h.setPlanner _).modifyState _ rfl

theorem dropRequest (h : Course s u) : Course s u.dropRequest := by
  rcases State.dropRequest_cases u with ⟨-, hc⟩ | ⟨-, hc⟩ <;> rw [hc]
  · exact h
  · exact (h.setPlanner _).chooseWork

theorem takeRequest (h : Course s u) (kind : JobKind) : Course s (u.takeRequest kind) := by
  unfold State.takeRequest
  split
  · exact h
  · have hmark : Course s (if kind = .stop then u.setPlanner { u.planner with stopTaken := true } else u) :=
      (h.setPlanner _).cond h
    dsimp only
    split
    · exact hmark.startActiveJob ..
    · split
      · exact (hmark.modifyState _ rfl).startActiveJob ..
      · split
        · exact hmark.startActiveJob ..
        · exact hmark

/-! ### Rest and activation -/

theorem becomeHeld (h : Course s u) (cause : Cause) (point : Place) : Course s (u.becomeHeld cause point) := by
  unfold State.becomeHeld
  split
  · exact h
  · exact (h.modifyHead (keepsOwn_hold cause _)).endActive.sequencerIdle.dropRequest.raise .held

theorem immediateHold (h : Course s u) (cause : Cause) : Course s (u.immediateHold cause) := by
  unfold State.immediateHold
  split
  · exact h
  · exact h.restAtOnce.becomeHeld ..

theorem pumpSilenceAtStart (h : Course s u) : Course s u.pumpSilenceAtStart := (h.immediateHold _).cond h

theorem silenceAtStart (h : Course s u) : Course s u.silenceAtStart := ((h.immediateHold _).cond h).pumpSilenceAtStart

theorem activate (h : Course s u) (e : Entry) : Course s (u.activate e) := by
  have hbegun := (((h.modifyHead keepsOwn_activate).startStream ⟨0, 1⟩).setPlanner
    { u.planner with stopTaken := false }).raise .contourStart
  exact (((hbegun.cond (hbegun.takeRequest .activation)).makeDue (.contourBegin e.contourId)).startSequence e e.pierceMode
    e.startX e.startY).silenceAtStart

theorem tryActivate (h : Course s u) : Course s u.tryActivate := by
  rcases State.tryActivate_cases u with hc | ⟨e, rest, -, -, -, -, hc⟩ <;> rw [hc]
  · exact h
  · exact h.activate e

theorem activateNewHead (h : Course s u) (old : State) : Course s (State.activateNewHead old u) := h.cond h.tryActivate

theorem runOn (h : Course s u) : Course s u.runOn := h.tryActivate.cond (h.issueIdlePressure.raise .queueIdle)

/-! ### Leaving the queue -/

theorem removeEntry (h : Course s u) {e : Entry} (he : e ∈ u.queue) (outcome : Option Outcome) :
    Course s (u.removeEntry e outcome) := h.move (.remove u e outcome he)

theorem skipHead (h : Course s u) : Course s u.skipHead := by
  unfold State.skipHead
  split
  · exact h
  · rename_i e rest hq
    have hended : Course s (if e.state = .active then u.endActive else u) := h.endActive.cond h
    have hmem : e ∈ (if e.state = .active then u.endActive else u).queue := by split <;> simp [hq]
    exact ((hended.removeEntry hmem (some .skipped)).setStream _).sequencerIdle.dropRequest.runOn

theorem immediateRest (h : Course s u) (cause : Cause) (ending : Ending) : Course s (u.immediateRest cause ending) := by
  unfold State.immediateRest
  split
  · exact h
  · cases ending with
    | held => exact h.immediateHold cause
    | skipped => exact (h.restAtOnce.modifyHead (keepsOwn_donePlace _)).skipHead

theorem finish (h : Course s u) : Course s u.finish := by
  unfold State.finish
  split
  · exact h
  · rename_i e rest hq
    exact (((h.endActive.leavePhase.clearWindow.removeEntry (e := e) (by simp [hq]) (some .done)).makeDue
      (.contourEnd e.contourId)).setJsq).dropRequest

theorem restAtDone (h : Course s u) (cause : Cause) (ending : Ending) : Course s (u.restAtDone cause ending) := by
  unfold State.restAtDone
  split
  · exact h
  · refine h.clearWindow.finish.cond ?_
    cases ending with
    | held => exact h.clearWindow.becomeHeld ..
    | skipped => exact h.clearWindow.skipHead

/-! ### Segments done and faults -/

theorem segmentDone (h : Course s u) (e : Entry) (index : Nat) : Course s (u.segmentDone e index) := by
  have hdone := h.modifyHead (f := fun x =>
    { x with
      donePlace := x.donePlace.map (State.advanceDone (u.segments e) x.passes index), resumeFailures := 0
      restartMark := false }) ⟨fun _ => rfl, fun _ => rfl, fun _ => rfl⟩
  unfold State.segmentDone
  dsimp only
  split
  · exact hdone.cond (hdone.countWear _)
  · exact hdone

theorem confirm (h : Course s u) (serial : Serial) (e : Entry) : Course s (u.confirm serial e) := by
  unfold State.confirm
  refine Course.cond ?_ h
  dsimp only
  generalize u.stream.window.take _ = through
  induction through generalizing u with
  | nil => exact h
  | cons f through ih => exact ih (h.segmentDone ..)

theorem startAbort (h : Course s u) (cause : Cause) (ending : Ending) : Course s (u.startAbort cause ending) :=
  ((h.jetOff.makeStopDue .abort).leavePhase.setJsq).dropRequest

theorem faultWhileCutting (h : Course s u) (f : FaultEvent) (ending : Ending) (e : Entry) :
    Course s (u.faultWhileCutting f ending e) := by
  cases f with
  | linkSilence => exact (h.jetOff.makeStopDue .abort).restAtDone ..
  | linkCheck => exact (h.jetOff.makeStopDue .abort).restAtDone ..
  | motionFault => exact h.jetOff.restAtDone ..
  | starved serial => exact (h.jetOff.confirm serial e).restAtDone ..
  | _ => exact h.startAbort ..

theorem endAbort (h : Course s u) : Course s u.endAbort := h.restAtDone ..

theorem seeLaterFault (h : Course s u) : Course s (u.modifyHead Entry.seeLaterFault) :=
  h.modifyHead keepsOwn_seeLaterFault

theorem faultWhileAborting (h : Course s u) (f : FaultEvent) (e : Entry) : Course s (u.faultWhileAborting f e) := by
  cases f with
  | starved serial => exact (h.seeLaterFault.confirm serial e).endAbort
  | motionFault => exact h.seeLaterFault.endAbort
  | linkSilence => exact h.seeLaterFault.endAbort
  | _ => exact h.seeLaterFault

theorem takeFault (h : Course s u) (f : FaultEvent) : Course s (u.takeFault f) := by
  unfold State.takeFault
  split
  · exact h
  · split
    case h_7 => exact h.faultWhileCutting ..
    case h_8 => exact (h.setJsq).seeLaterFault.faultWhileCutting ..
    case h_9 => exact h.faultWhileAborting ..
    case h_10 => exact h
    case h_11 => exact h
    all_goals exact h.immediateHold _

/-! ### Events of the sequencer -/

theorem holdingEnd (h : Course s u) : Course s u.holdingEnd := by
  unfold State.holdingEnd
  split
  · refine Course.cond ?_ h
    split
    · exact h.jetOff.becomeHeld ..
    · exact h.jetOff.skipHead
  · exact h

theorem sequencerSegDone (h : Course s u) (e : Entry) (p : Place) : Course s (u.sequencerSegDone e p) := by
  unfold State.sequencerSegDone
  dsimp only
  split
  · split
    · exact h.jetOff.finish
    · exact (h.jetOff.setJsq).cond h
  · exact (h.startRepierce e).cond h
  · split
    · exact h.jetOff.finish
    · exact h.holdingEnd
  · exact h

end Course

end Sys2Proof.Proofs

/-! PROOFS. What one step can do: every command of the job port runs through the port, every other row is an event of the
part; a law that the port, the commands and the events keep holds at every step. -/

namespace Sys2Proof.Proofs

open Sys2Proof Sys2Proof.Machine

/-- A law that the port cannot break and that every event keeps. -/
structure KeptByEvents (P : State → Prop) : Prop where
  port : ∀ s p, P s → P (s.setPort p)
  commit : ∀ s c rest, s.engine = c :: rest → P s → P (completeCommit c rest s)
  contourPlan : ∀ s job e, s.planner.job = some job → job.kind = .contour → s.entry job.contour = some e → P s →
    P (completeContourPlan job e s)
  activeJob : ∀ s job e, s.planner.job = some job → job.kind ≠ .contour → s.activeEntry = some e → P s →
    P (completeActiveJob job e s)
  frameStart : ∀ s, s.motion.exchange = none → P s → P (chooseRecord s)
  frameComplete : ∀ s x frame, s.motion.exchange = some x → P s → P (completeExchange x frame s)
  cutShort : ∀ s x, s.motion.exchange = some x → P s →
    P (if x.cancelled then s.setMotion { s.motion with exchange := none }
      else (s.setMotion { s.motion with exchange := none }).setStream { s.stream with again := some x.placed })
  linkTimeout : ∀ s, P s →
    P (((s.setMotion { s.motion with timer := none, link := .silent }).raise .motionLinkFault).takeFault
      .linkSilence).settle
  waitExpiry : ∀ s, s.jsq.wait ≠ none → P s →
    P (((s.setJsq { s.jsq with wait := none }).raise .pressureTimeout).takeFault .pressureTimeout).settle
  pierce : ∀ s, P s → P s.pierceExpires
  sent : ∀ s m rest, s.pump.transmit = m :: rest → P s →
    P (if m = .setValve .closed ∧ rest.any PumpMessage.isValve = false then
        closeTransmitted (s.setPump { s.pump with transmit := rest, wire := m.bytes })
      else s.setPump { s.pump with transmit := rest, wire := m.bytes })
  assembly : ∀ s a, P s → P (s.setPump { s.pump with assembly := a })
  status : ∀ s r, P s → P (acceptStatus r s)
  reportTimeout : ∀ s, P s →
    P (((s.setPump { s.pump with timer := none, link := .silent }).raise .pumpLinkLost).takeFault .pumpLinkLost).settle
  unit : ∀ s i, P s →
    P ((s.setWear (s.wear.setCounter i (s.wear.counter i).millisecond)).judgeWear).settle
  tick : ∀ s, P s → P ((timersTick s).countWear (Counter.tick s.jsq)).settle
  line : ∀ s name, P s →
    P (s.setAttention (s.attention.onLine name Line.pulseEnd)) ∧ P (s.setAttention (s.attention.onLine name Line.gapEnd))

/-- A law that every command and both resets keep as well. -/
structure Kept (P : State → Prop) : Prop extends KeptByEvents P where
  command : ∀ c s, P s → P (runCommand c s).2
  powerOn : ∀ s, P s → P (State.reset.setPending s.pending)

namespace KeptByEvents

variable {P : State → Prop}

theorem respond (h : KeptByEvents P) {s : State} (r : Response) (hs : P s) : P (s.respond r) := h.port s _ hs

/-- A command handed to its block, or turned away, by the port. -/
theorem onJobPort (h : KeptByEvents P) {s : State} {f : State → Reply} (hf : ∀ u, P u → P (f u).2) (hs : P s) :
    P (s.onJobPort f) := by
  by_cases ho : portOpen s
  · rw [State.onJobPort_of_open ho]
    exact h.respond _ (hf _ (h.port _ _ hs))
  · rw [State.onJobPort_of_not_open ho]
    exact h.port _ _ hs

theorem dataRead (h : KeptByEvents P) {s : State} (hs : P s) : P (dataRead s) := by
  unfold Machine.dataRead
  split <;> exact h.port _ _ hs

theorem takeMessage (h : KeptByEvents P) (bytes : List Byte) {s : State} (hs : P s) : P (takeMessage bytes s) := by
  unfold Machine.takeMessage
  split
  · exact h.status _ _ (h.assembly s _ hs)
  · exact h.assembly s _ hs

theorem assemble (h : KeptByEvents P) (b : Byte) {s : State} (hs : P s) : P (assemble b s) := by
  unfold Machine.assemble
  split
  · split
    · exact h.assembly s _ hs
    · exact hs
  · split
    · exact h.assembly s _ hs
    · exact h.takeMessage _ hs

/-- A law kept by the events and by one command holds after that command's step. -/
theorem exec (h : KeptByEvents P) {c : Instr} {s t : State} (hstep : exec c s = .next t) (hreset : c ≠ .powerOnReset)
    (hbyte : ∀ dma b, c ≠ .commandByteWrite dma b) (hcommand : ∀ u, P u → P (runCommand c u).2) (hs : P s) : P t := by
  by_cases hc : (encodeCommand c).isSome = true
  · rw [exec_of_command hc, Host.Outcome.next.injEq] at hstep
    exact hstep ▸ h.onJobPort hcommand hs
  · cases c with
    | powerOnReset => exact absurd rfl hreset
    | commandByteWrite dma b => exact absurd rfl (hbyte dma b)
    | responseByteRead => cases hstep; exact h.dataRead hs
    | statusByteRead => cases hstep; exact h.port _ _ hs
    | jobPortWriteIgnored b => cases hstep; exact hs
    | commandByteGap =>
      cases hstep
      split
      · exact h.respond _ hs
      · exact hs
      · exact hs
      · exact hs
    | commitComplete =>
      cases hstep
      split
      · exact hs
      · exact h.commit _ _ _ ‹_› hs
    | contourPlanComplete =>
      cases hstep
      split
      · exact hs
      · split
        · split
          · exact h.contourPlan _ _ _ ‹_› ‹_› ‹_› hs
          · exact hs
        · exact hs
    | activeJobComplete =>
      cases hstep
      split
      · split
        · exact hs
        · exact h.activeJob _ _ _ ‹_› ‹_› ‹_› hs
      · exact hs
    | motionFrameStart =>
      cases hstep
      split
      · exact h.frameStart _ ‹_› hs
      · exact hs
    | motionFrameComplete frame =>
      cases hstep
      split
      · exact hs
      · exact h.frameComplete _ _ _ ‹_› hs
    | motionFrameCutShort =>
      cases hstep
      split
      · exact hs
      · exact h.cutShort _ _ ‹_› hs
    | motionLinkTimeout =>
      cases hstep
      split
      · exact hs
      · exact h.linkTimeout _ hs
    | pressureWaitExpiry =>
      cases hstep
      split
      · exact hs
      · exact h.waitExpiry _ (by simp [*]) hs
    | pierceTimerExpiry => cases hstep; exact h.pierce _ hs
    | pumpMessageTransmitted =>
      cases hstep
      split
      · exact hs
      · exact h.sent _ _ _ ‹_› hs
    | pumpStatus message => cases hstep; exact h.takeMessage _ hs
    | pumpAssemblyTimeout => cases hstep; exact h.assembly _ _ hs
    | pumpReportTimeout =>
      cases hstep
      split
      · exact hs
      · exact h.reportTimeout _ hs
    | wearTimeUnit i =>
      cases hstep
      split
      · exact h.unit _ _ hs
      · exact hs
    | attentionPulseEnd name => cases hstep; exact (h.line _ name hs).1
    | attentionPulseGapEnd name => cases hstep; exact (h.line _ name hs).2
    | pumpByteReceived b => cases hstep; exact h.assemble b hs
    | millisecondTick => cases hstep; exact h.tick _ hs
    | _ => exact absurd rfl hc

end KeptByEvents

namespace Kept

variable {P : State → Prop}

/-- The bytes of a complete command. -/
theorem runBytes (h : Kept P) (code : Byte) (body : List Byte) {s : State} (hs : P s) : P (runBytes code body s).2 := by
  unfold Machine.runBytes
  split
  · exact h.command _ s hs
  · exact hs

theorem countBytes (h : Kept P) (bytes : List Byte) {s : State} (hs : P s) : P (countBytes bytes s) := by
  unfold Machine.countBytes
  split
  · dsimp only
    split_ifs
    · exact h.toKeptByEvents.respond _ hs
    · exact h.toKeptByEvents.onJobPort (fun _ => h.runBytes _ _) hs
    · exact h.port _ _ hs
  · exact h.port _ _ hs

theorem dataWrite (h : Kept P) (b : Byte) {s : State} (hs : P s) : P (dataWrite b s) := by
  unfold Machine.dataWrite
  split
  · exact h.countBytes _ hs
  · exact h.countBytes _ hs
  · exact h.port _ _ hs
  · exact h.port _ _ hs

/-- A kept law holds after every step. -/
theorem exec (h : Kept P) {c : Instr} {s t : State} (hstep : exec c s = .next t) (hs : P s) : P t := by
  by_cases hreset : c = .powerOnReset
  · subst hreset
    cases hstep
    exact h.powerOn s hs
  · by_cases hbyte : ∃ dma b, c = .commandByteWrite dma b
    · obtain ⟨dma, b, rfl⟩ := hbyte
      cases hstep
      exact h.dataWrite b hs
    · exact h.toKeptByEvents.exec hstep hreset (fun dma b hc => hbyte ⟨dma, b, hc⟩) (h.command c) hs

end Kept

end Sys2Proof.Proofs

/-! PROOFS. The operations of holds, frames, reports and planning jobs as sequences of moves. -/

namespace Sys2Proof.Proofs

open Sys2Proof Sys2Proof.Machine

namespace Course

variable {s u v : State}

/-! ### Holds, skips and resumes -/

theorem plannedStop (h : Course s u) (ending : Ending) : Course s (Machine.plannedStop ending u) :=
  (h.takeRequest .stop).setJsq

theorem holdHead (h : Course s u) (hv : Machine.holdHead u = some v) : Course s v := by
  unfold Machine.holdHead at hv
  split at hv
  · cases hv
  · split_ifs at hv <;> cases hv
    · exact h.plannedStop _
    · exact h.immediateRest ..
    · exact h

theorem skipRequest (h : Course s u) (hv : Machine.skipRequest u = some v) : Course s v := by
  unfold Machine.skipRequest at hv
  split at hv
  · cases hv
  · split at hv
    · split_ifs at hv <;> cases hv
      · exact h.plannedStop _
      · exact h.immediateRest ..
      · exact h.setJsq
    · cases hv; exact h.skipHead
    · cases hv; exact h.skipHead
    · cases hv

theorem resumeHead (h : Course s u) : Course s (Machine.resumeHead u) := by
  unfold Machine.resumeHead
  split
  · exact h
  · exact (((((h.modifyHead keepsOwn_resume).setPlanner _).startStream
      _).takeRequest .resume).startSequence ..).pumpSilenceAtStart

theorem holdCommand (h : Course s u) : Course s (Machine.holdCommand u).2 := by
  unfold Machine.holdCommand
  split
  · exact (h.holdHead ‹_›).settle
  · exact h

theorem skipCommand (h : Course s u) : Course s (Machine.skipCommand u).2 := by
  unfold Machine.skipCommand
  split
  · exact (h.skipRequest ‹_›).settle
  · exact h

theorem resumeCommand (h : Course s u) : Course s (Machine.resumeCommand u).2 := by
  unfold Machine.resumeCommand
  split
  · exact h
  · exact h.resumeHead.settle

/-! ### Frames -/

theorem placeWithSerial (h : Course s u) (kind : SerialKind) (body : RecordBody) :
    Course s (Machine.placeWithSerial kind body u) := (h.setStream _).setMotion _

theorem chooseRecord (h : Course s u) : Course s (Machine.chooseRecord u) := by
  unfold Machine.chooseRecord
  split
  · exact (h.setStream _).setMotion _
  · split
    · exact (h.setStream _).placeWithSerial ..
    · split
      · unfold placeSeg
        split
        · exact h
        · exact ((h.placeWithSerial ..).setStream _).holdAtDue
      · exact h.setMotion _

theorem deliver (h : Course s u) (p : Placed) : Course s (Machine.deliver p u) := by
  unfold Machine.deliver
  split
  case h_2 => exact h.setStream _
  case h_3 => exact (h.setJsq).cond h
  case h_4 => exact h.sequencerIdle.runOn.cond h
  all_goals exact h

theorem reportSegDone (h : Course s u) (serial : Serial) : Course s (Machine.reportSegDone serial u) := by
  unfold Machine.reportSegDone
  split
  · refine Course.cond ?_ (h.raise _)
    unfold acceptSegDone
    dsimp only
    split
    · exact ((h.setStream _).segmentDone ..).sequencerSegDone ..
    · exact h.setStream _
  · exact h.raise _

theorem reportStopped (h : Course s u) (serial : Serial) : Course s (Machine.reportStopped serial u) := by
  unfold Machine.reportStopped
  split
  · exact (h.confirm ..).endAbort.cond h
  · exact h

theorem takeReport (h : Course s u) (r : Report) : Course s (Machine.takeReport r u) := by
  cases r with
  | nothing => exact h
  | segDone serial => exact h.reportSegDone serial
  | arrived serial => exact h.onArrived serial
  | stopped serial => exact h.reportStopped serial
  | holdReq =>
    unfold Machine.takeReport
    cases hv : Machine.holdHead u with
    | none => exact h
    | some t => exact h.holdHead hv
  | resumeReq => exact h.resumeHead.cond h
  | skipReq =>
    unfold Machine.takeReport
    cases hv : Machine.skipRequest u with
    | none => exact h
    | some t => exact h.skipRequest hv
  | motionFault => exact h.takeFault _
  | starvedStop serial => exact ((h.raise _).takeFault _).cond h
  | linkError => exact (h.raise _).takeFault _
  | eventAck mask => exact h.setAttention _

theorem takeOverride (h : Course s u) (raw : Byte) : Course s (Machine.takeOverride raw u) :=
  ((h.setMotion _).takeRequest .remainder).cond (h.setMotion _)

theorem judgeFrame (h : Course s u) (frame : Vector Byte 28) : Course s (Machine.judgeFrame frame u) := by
  unfold Machine.judgeFrame
  split
  · exact ((h.setMotion _).takeOverride _).takeReport _
  · exact (h.raise _).takeFault _

theorem completeExchange (h : Course s u) (x : Exchange) (frame : Vector Byte 28) :
    Course s (Machine.completeExchange x frame u) :=
  (((h.setMotion _).cond ((h.setMotion _).deliver _)).judgeFrame frame).settle.pierceAtOnce u

/-! ### The pump's reports -/

theorem judgeFaultCode (h : Course s u) (r : PumpReport) : Course s (Machine.judgeFaultCode r u) :=
  h.cond ((h.cond (h.raise _)).takeFault _)

theorem judgeReady (h : Course s u) (r : PumpReport) : Course s (Machine.judgeReady r u) :=
  ((h.setPump).onPressureReady).cond h

theorem judgeSag (h : Course s u) (r : PumpReport) : Course s (Machine.judgeSag r u) :=
  ((h.setPump).cond (((h.setPump).raise _).takeFault _)).cond (h.setPump)

theorem judgeFlow (h : Course s u) (r : PumpReport) : Course s (Machine.judgeFlow r u) := (h.raise _).cond h

theorem acceptStatus (h : Course s u) (r : PumpReport) : Course s (Machine.acceptStatus r u) :=
  ((((((h.setPump).judgeFaultCode r).judgeReady r).judgeSag r).judgeFlow r).setPump).settle.pierceAtOnce u

/-! ### The completion of planning jobs -/

theorem writeWords (h : Course s u) (pages : List Nat) (words : List (Nat × PlanWord)) :
    Course s (u.setStore (Machine.writeWords pages u.store words)) := h.move (.words u pages words)

theorem completeContourPlan (h : Course s u) (job : Job) (e : Entry) :
    Course s (Machine.completeContourPlan job e u) := by
  have hready := (((h.writeWords e.pages (u.wordsOf job e)).modifyEntry job.contour (f := fun x =>
    { x with state := .ready, stamp := some job.stamp, overspeedCount := some 0 })
    ⟨fun _ => rfl, fun _ => rfl, fun _ => rfl⟩ fun _ he => Bool.noConfusion he).raise .planDone).setPlanner
  unfold Machine.completeContourPlan
  dsimp only
  refine Course.settle ?_
  split
  · exact (hready _).chooseWork.tryActivate.cond (hready _).chooseWork
  · exact (hready _).chooseWork

theorem handStopPlace (h : Course s u) (job : Job) : Course s (Machine.handStopPlace job u) := by
  unfold Machine.handStopPlace
  split
  · exact (h.setStream _).holdAtDue
  · exact h

theorem completeActiveJob (h : Course s u) (job : Job) (e : Entry) : Course s (Machine.completeActiveJob job e u) := by
  have hwritten := h.writeWords e.pages (u.wordsOf job e)
  have hstamped := hwritten.modifyHead (f := fun x =>
    { x with
      stamp := some job.stamp
      overspeedCount := some (overspeedCount (u.setStore (Machine.writeWords e.pages u.store (u.wordsOf job e))).store
        x.pages) }) ⟨fun _ => rfl, fun _ => rfl, fun _ => rfl⟩
  exact ((((hstamped.raise .overspeed).cond hstamped).handStopPlace job).setPlanner _).chooseWork.holdingEnd.settle

end Course

end Sys2Proof.Proofs

/-! PROOFS. The laws of the queue, the pages, the store and the material table: each holds after every move, and so at every
step (R1, R20, R41, R42, R53). -/

namespace Sys2Proof.Proofs

open Sys2Proof Sys2Proof.Machine

/-! ### What the parts of a commit's completion leave unchanged -/

@[simp] theorem commitToStore_pending (c : Commit) (r : CommitResult) (s : State) : (commitToStore c r s).pending = s.pending := by
  unfold commitToStore; (repeat' split) <;> rfl
@[simp] theorem commitToStore_port (c : Commit) (r : CommitResult) (s : State) : (commitToStore c r s).port = s.port := by
  unfold commitToStore; (repeat' split) <;> rfl
@[simp] theorem commitToStore_config (c : Commit) (r : CommitResult) (s : State) : (commitToStore c r s).config = s.config := by
  unfold commitToStore; (repeat' split) <;> rfl
@[simp] theorem commitToStore_bufA (c : Commit) (r : CommitResult) (s : State) : (commitToStore c r s).bufA = s.bufA := by
  unfold commitToStore; (repeat' split) <;> rfl
@[simp] theorem commitToStore_bufB (c : Commit) (r : CommitResult) (s : State) : (commitToStore c r s).bufB = s.bufB := by
  unfold commitToStore; (repeat' split) <;> rfl
@[simp] theorem commitToStore_engine (c : Commit) (r : CommitResult) (s : State) : (commitToStore c r s).engine = s.engine := by
  unfold commitToStore; (repeat' split) <;> rfl
@[simp] theorem commitToStore_queue (c : Commit) (r : CommitResult) (s : State) : (commitToStore c r s).queue = s.queue := by
  unfold commitToStore; (repeat' split) <;> rfl
@[simp] theorem commitToStore_finished (c : Commit) (r : CommitResult) (s : State) : (commitToStore c r s).finished = s.finished := by
  unfold commitToStore; (repeat' split) <;> rfl
@[simp] theorem commitToStore_materials (c : Commit) (r : CommitResult) (s : State) : (commitToStore c r s).materials = s.materials := by
  unfold commitToStore; (repeat' split) <;> rfl
@[simp] theorem commitToStore_planner (c : Commit) (r : CommitResult) (s : State) : (commitToStore c r s).planner = s.planner := by
  unfold commitToStore; (repeat' split) <;> rfl
@[simp] theorem commitToStore_jsq (c : Commit) (r : CommitResult) (s : State) : (commitToStore c r s).jsq = s.jsq := by
  unfold commitToStore; (repeat' split) <;> rfl
@[simp] theorem commitToStore_stream (c : Commit) (r : CommitResult) (s : State) : (commitToStore c r s).stream = s.stream := by
  unfold commitToStore; (repeat' split) <;> rfl
@[simp] theorem commitToStore_motion (c : Commit) (r : CommitResult) (s : State) : (commitToStore c r s).motion = s.motion := by
  unfold commitToStore; (repeat' split) <;> rfl
@[simp] theorem commitToStore_pump (c : Commit) (r : CommitResult) (s : State) : (commitToStore c r s).pump = s.pump := by
  unfold commitToStore; (repeat' split) <;> rfl
@[simp] theorem commitToStore_wear (c : Commit) (r : CommitResult) (s : State) : (commitToStore c r s).wear = s.wear := by
  unfold commitToStore; (repeat' split) <;> rfl
@[simp] theorem commitToStore_attention (c : Commit) (r : CommitResult) (s : State) : (commitToStore c r s).attention = s.attention := by
  unfold commitToStore; (repeat' split) <;> rfl

@[simp] theorem commitToEntry_pending (c : Commit) (r : CommitResult) (s : State) : (commitToEntry c r s).pending = s.pending := by
  unfold commitToEntry; (repeat' split) <;> simp
@[simp] theorem commitToEntry_port (c : Commit) (r : CommitResult) (s : State) : (commitToEntry c r s).port = s.port := by
  unfold commitToEntry; (repeat' split) <;> simp
@[simp] theorem commitToEntry_config (c : Commit) (r : CommitResult) (s : State) : (commitToEntry c r s).config = s.config := by
  unfold commitToEntry; (repeat' split) <;> simp
@[simp] theorem commitToEntry_bufA (c : Commit) (r : CommitResult) (s : State) : (commitToEntry c r s).bufA = s.bufA := by
  unfold commitToEntry; (repeat' split) <;> simp
@[simp] theorem commitToEntry_bufB (c : Commit) (r : CommitResult) (s : State) : (commitToEntry c r s).bufB = s.bufB := by
  unfold commitToEntry; (repeat' split) <;> simp
@[simp] theorem commitToEntry_engine (c : Commit) (r : CommitResult) (s : State) : (commitToEntry c r s).engine = s.engine := by
  unfold commitToEntry; (repeat' split) <;> simp
@[simp] theorem commitToEntry_store (c : Commit) (r : CommitResult) (s : State) : (commitToEntry c r s).store = s.store := by
  unfold commitToEntry; (repeat' split) <;> simp
@[simp] theorem commitToEntry_freePages (c : Commit) (r : CommitResult) (s : State) : (commitToEntry c r s).freePages = s.freePages := by
  unfold commitToEntry; (repeat' split) <;> simp
@[simp] theorem commitToEntry_finished (c : Commit) (r : CommitResult) (s : State) : (commitToEntry c r s).finished = s.finished := by
  unfold commitToEntry; (repeat' split) <;> simp
@[simp] theorem commitToEntry_materials (c : Commit) (r : CommitResult) (s : State) : (commitToEntry c r s).materials = s.materials := by
  unfold commitToEntry; (repeat' split) <;> simp
@[simp] theorem commitToEntry_jsq (c : Commit) (r : CommitResult) (s : State) : (commitToEntry c r s).jsq = s.jsq := by
  unfold commitToEntry; (repeat' split) <;> simp
@[simp] theorem commitToEntry_stream (c : Commit) (r : CommitResult) (s : State) : (commitToEntry c r s).stream = s.stream := by
  unfold commitToEntry; (repeat' split) <;> simp
@[simp] theorem commitToEntry_motion (c : Commit) (r : CommitResult) (s : State) : (commitToEntry c r s).motion = s.motion := by
  unfold commitToEntry; (repeat' split) <;> simp
@[simp] theorem commitToEntry_pump (c : Commit) (r : CommitResult) (s : State) : (commitToEntry c r s).pump = s.pump := by
  unfold commitToEntry; (repeat' split) <;> simp
@[simp] theorem commitToEntry_wear (c : Commit) (r : CommitResult) (s : State) : (commitToEntry c r s).wear = s.wear := by
  unfold commitToEntry; (repeat' split) <;> simp
@[simp] theorem commitToEntry_attention (c : Commit) (r : CommitResult) (s : State) : (commitToEntry c r s).attention = s.attention := by
  unfold commitToEntry; (repeat' split) <;> simp

@[simp] theorem commitToBuffer_pending (c : Commit) (r : CommitResult) (s : State) : (commitToBuffer c r s).pending = s.pending := by
  simp [commitToBuffer]
@[simp] theorem commitToBuffer_port (c : Commit) (r : CommitResult) (s : State) : (commitToBuffer c r s).port = s.port := by
  simp [commitToBuffer]
@[simp] theorem commitToBuffer_config (c : Commit) (r : CommitResult) (s : State) : (commitToBuffer c r s).config = s.config := by
  simp [commitToBuffer]
@[simp] theorem commitToBuffer_engine (c : Commit) (r : CommitResult) (s : State) : (commitToBuffer c r s).engine = s.engine := by
  simp [commitToBuffer]
@[simp] theorem commitToBuffer_store (c : Commit) (r : CommitResult) (s : State) : (commitToBuffer c r s).store = s.store := by
  simp [commitToBuffer]
@[simp] theorem commitToBuffer_freePages (c : Commit) (r : CommitResult) (s : State) : (commitToBuffer c r s).freePages = s.freePages := by
  simp [commitToBuffer]
@[simp] theorem commitToBuffer_queue (c : Commit) (r : CommitResult) (s : State) : (commitToBuffer c r s).queue = s.queue := by
  simp [commitToBuffer]
@[simp] theorem commitToBuffer_finished (c : Commit) (r : CommitResult) (s : State) : (commitToBuffer c r s).finished = s.finished := by
  simp [commitToBuffer]
@[simp] theorem commitToBuffer_materials (c : Commit) (r : CommitResult) (s : State) : (commitToBuffer c r s).materials = s.materials := by
  simp [commitToBuffer]
@[simp] theorem commitToBuffer_planner (c : Commit) (r : CommitResult) (s : State) : (commitToBuffer c r s).planner = s.planner := by
  simp [commitToBuffer]
@[simp] theorem commitToBuffer_jsq (c : Commit) (r : CommitResult) (s : State) : (commitToBuffer c r s).jsq = s.jsq := by
  simp [commitToBuffer]
@[simp] theorem commitToBuffer_stream (c : Commit) (r : CommitResult) (s : State) : (commitToBuffer c r s).stream = s.stream := by
  simp [commitToBuffer]
@[simp] theorem commitToBuffer_motion (c : Commit) (r : CommitResult) (s : State) : (commitToBuffer c r s).motion = s.motion := by
  simp [commitToBuffer]
@[simp] theorem commitToBuffer_pump (c : Commit) (r : CommitResult) (s : State) : (commitToBuffer c r s).pump = s.pump := by
  simp [commitToBuffer]
@[simp] theorem commitToBuffer_wear (c : Commit) (r : CommitResult) (s : State) : (commitToBuffer c r s).wear = s.wear := by
  simp [commitToBuffer]
@[simp] theorem commitToBuffer_attention (c : Commit) (r : CommitResult) (s : State) : (commitToBuffer c r s).attention = s.attention := by
  simp [commitToBuffer]

@[simp] theorem takeWaitingCommit_pending (rest : List Commit) (s : State) : (takeWaitingCommit rest s).pending = s.pending := by
  cases rest <;> simp [takeWaitingCommit]
@[simp] theorem takeWaitingCommit_port (rest : List Commit) (s : State) : (takeWaitingCommit rest s).port = s.port := by
  cases rest <;> simp [takeWaitingCommit]
@[simp] theorem takeWaitingCommit_config (rest : List Commit) (s : State) : (takeWaitingCommit rest s).config = s.config := by
  cases rest <;> simp [takeWaitingCommit]
@[simp] theorem takeWaitingCommit_store (rest : List Commit) (s : State) : (takeWaitingCommit rest s).store = s.store := by
  cases rest <;> simp [takeWaitingCommit]
@[simp] theorem takeWaitingCommit_freePages (rest : List Commit) (s : State) : (takeWaitingCommit rest s).freePages = s.freePages := by
  cases rest <;> simp [takeWaitingCommit]
@[simp] theorem takeWaitingCommit_queue (rest : List Commit) (s : State) : (takeWaitingCommit rest s).queue = s.queue := by
  cases rest <;> simp [takeWaitingCommit]
@[simp] theorem takeWaitingCommit_finished (rest : List Commit) (s : State) : (takeWaitingCommit rest s).finished = s.finished := by
  cases rest <;> simp [takeWaitingCommit]
@[simp] theorem takeWaitingCommit_materials (rest : List Commit) (s : State) : (takeWaitingCommit rest s).materials = s.materials := by
  cases rest <;> simp [takeWaitingCommit]
@[simp] theorem takeWaitingCommit_planner (rest : List Commit) (s : State) : (takeWaitingCommit rest s).planner = s.planner := by
  cases rest <;> simp [takeWaitingCommit]
@[simp] theorem takeWaitingCommit_jsq (rest : List Commit) (s : State) : (takeWaitingCommit rest s).jsq = s.jsq := by
  cases rest <;> simp [takeWaitingCommit]
@[simp] theorem takeWaitingCommit_stream (rest : List Commit) (s : State) : (takeWaitingCommit rest s).stream = s.stream := by
  cases rest <;> simp [takeWaitingCommit]
@[simp] theorem takeWaitingCommit_motion (rest : List Commit) (s : State) : (takeWaitingCommit rest s).motion = s.motion := by
  cases rest <;> simp [takeWaitingCommit]
@[simp] theorem takeWaitingCommit_pump (rest : List Commit) (s : State) : (takeWaitingCommit rest s).pump = s.pump := by
  cases rest <;> simp [takeWaitingCommit]
@[simp] theorem takeWaitingCommit_wear (rest : List Commit) (s : State) : (takeWaitingCommit rest s).wear = s.wear := by
  cases rest <;> simp [takeWaitingCommit]
@[simp] theorem takeWaitingCommit_attention (rest : List Commit) (s : State) : (takeWaitingCommit rest s).attention = s.attention := by
  cases rest <;> simp [takeWaitingCommit]

@[simp] theorem takeWaitingCommit_engine (rest : List Commit) (s : State) : (takeWaitingCommit rest s).engine = rest := by
  cases rest <;> simp [takeWaitingCommit]

/-- The store after a commit: the page written, or nothing. -/
theorem commitToStore_store (c : Commit) (r : CommitResult) (s : State) :
    (commitToStore c r s).store
      = if r = .ok then putPage c.page (freshPage (commitRecords c s)) s.store else s.store := by
  unfold commitToStore
  (repeat' split) <;> rfl

/-- The free-page list after a commit: only a failed append gives its page back. -/
theorem commitToStore_freePages (c : Commit) (r : CommitResult) (s : State) :
    (commitToStore c r s).freePages
      = if r ≠ .ok ∧ c.kind = .append then s.freePages ++ [c.page] else s.freePages := by
  unfold commitToStore
  by_cases hr : r = .ok
  · simp [hr]
  · cases hk : c.kind <;> simp [hr]

/-- An entry after the completion of a commit: the bound one has taken it. -/
def afterCommit (c : Commit) (r : CommitResult) (e : Entry) : Entry :=
  if c.bound = true ∧ e.contourId = c.contour then Entry.takeCommit c r e else e

/-- The queue after a commit: the bound entry has taken it. -/
theorem commitToEntry_queue (c : Commit) (r : CommitResult) (s : State) :
    (commitToEntry c r s).queue = s.queue.map (afterCommit c r) := by
  unfold commitToEntry afterCommit
  by_cases hb : c.bound = true
  · by_cases hr : r = .ok ∧ c.kind = .replace <;> simp [hb, hr, State.modifyEntry]
  · simp [hb]

/-! ### The commands as courses -/

/-- The jet-off pair joins the transmit list behind everything else (R112, R167). -/
theorem settingsLaw_jetOff (s : State) : SettingsLaw s.jetOff := by
  rw [State.jetOff_eq, SettingsLaw]
  simp only [State.setJsq_pump, State.setPump_pump, State.setJsq_jsq, State.valveSettings_enqueueMessage,
    State.abrasiveSettings_enqueueMessage]
  simp [valveSettings, abrasiveSettings]

theorem settingsLaw_jetOn (rate : Nat) (s : State) : SettingsLaw (s.jetOn rate) := by
  rw [State.jetOn_eq, SettingsLaw]
  simp only [State.setJsq_pump, State.setPump_pump, State.setJsq_jsq, State.valveSettings_enqueueMessage,
    State.abrasiveSettings_enqueueMessage]
  simp [valveSettings, abrasiveSettings]

/-- The result of a commit is OK only where its entry is in the queue (R33). -/
theorem commitResult_ok {c : Commit} {s : State} (h : commitResult c s = .ok) :
    c.bound = true ∧ c.contour ∈ s.queue.map Entry.contourId := by
  unfold commitResult boundEntry at h
  by_cases hb : c.bound = true
  · cases he : s.entry c.contour with
    | none => simp [hb, he] at h
    | some e =>
      obtain ⟨hmem, hid⟩ := entry_some he
      exact ⟨hb, List.mem_map.2 ⟨e, hmem, hid⟩⟩
  · simp [hb] at h

/-- What a completed commit leaves of an entry, and what it does to its pages (R6, R7). -/
theorem afterCommit_own (c : Commit) (result : CommitResult) (e : Entry) :
    (afterCommit c result e).contourId = e.contourId ∧ (afterCommit c result e).material = e.material
      ∧ ((afterCommit c result e).state.begun = true → e.state.begun = true)
      ∧ (afterCommit c result e).pages
        = if (c.bound = true ∧ e.contourId = c.contour) ∧ result = .ok ∧ c.kind = .append then e.pages ++ [c.page]
          else e.pages := by
  unfold afterCommit
  by_cases hown : c.bound = true ∧ e.contourId = c.contour
  · rw [if_pos hown]
    unfold Entry.takeCommit
    by_cases hr : result = .ok
    · cases hk : c.kind with
      | append => simp [hr, hown]
      | replace =>
        by_cases hp : e.state.planned = true
        · simp [hr, hp, Entry.replan, EntryState.begun]
        · simp [hr, hp]
    · simp [hr]
  · simp [hown]

/-- The commit's end, up to the engine's next commit, as one move. -/
theorem completes_of_commit (c : Commit) (rest : List Commit) (s : State) :
    Completes s (takeWaitingCommit rest ((commitToBuffer c (commitResult c s) (commitToEntry c (commitResult c s)
      (commitToStore c (commitResult c s) s))).raise .commitDone)) c rest := by
  refine ⟨by simp, by simp, by simp, ?store, by simp, by simp, by simp, afterCommit c (commitResult c s), by simp [commitToEntry_queue],
    fun e => (afterCommit_own ..).1, fun e => (afterCommit_own ..).2.1, fun e => (afterCommit_own ..).2.2.1, ?pages⟩
  case store =>
    simp only [takeWaitingCommit_store, State.raise_store, commitToBuffer_store, commitToEntry_store, commitToStore_store]
    split
    · exact .inr ⟨_, rfl⟩
    · exact .inl rfl
  case pages =>
    by_cases hr : commitResult c s = .ok ∧ c.kind = .append
    · obtain ⟨hb, hin⟩ := commitResult_ok hr.1
      refine .inr ⟨hr.2, by simp [commitToStore_freePages, hr], hin, fun e => ?_⟩
      rw [(afterCommit_own ..).2.2.2]
      simp [hr, hb]
    · refine .inl ⟨fun e => ?_, ?_⟩
      · rw [(afterCommit_own ..).2.2.2, if_neg (fun h => hr h.2)]
      · simp only [takeWaitingCommit_freePages, State.raise_freePages, commitToBuffer_freePages, commitToEntry_freePages,
          commitToStore_freePages]
        by_cases hk : c.kind = .append
        · rw [if_pos ⟨fun h => hr ⟨h, hk⟩, hk⟩, if_pos hk]
        · simp [hk]

/-- With the jet shut already the jet-off pair is two messages to the pump. -/
theorem jetOff_of_shut {s : State} (hv : s.jsq.valve = .closed) (ha : s.jsq.abrasive = 0) :
    s.jetOff = (s.issue (.setAbrasive 0)).issue (.setValve .closed) := by
  have hjsq : ({ s.jsq with valve := .closed, abrasive := 0 } : Sequencer) = s.jsq := by rw [← hv, ← ha]
  rw [State.jetOff_eq, hjsq]
  rfl

/-- JOB_RESET shuts the cleared part's jet and asks for the idle pressure (R132, R174, R186). -/
theorem jobResetCommand_eq (s : State) : jobResetCommand s = okay .empty (clearWork s).jetOff.issueIdlePressure := by
  rw [jetOff_of_shut (s := clearWork s) rfl rfl]
  rfl

namespace Course

variable {s u : State}

theorem completeCommit (c : Commit) (rest : List Commit) (h : s.engine = c :: rest) :
    Course s (Machine.completeCommit c rest s) := by
  have hdone := (refl.move (.completed c rest h (completes_of_commit c rest s))).chooseWork
  unfold Machine.completeCommit
  refine Course.settle ?_
  unfold activateAfterCommit
  split
  · exact hdone.tryActivate.cond hdone
  · exact hdone

/-- An accepted commit, from the state in which its page has left the free-page list. -/
theorem of_acceptCommit {c : Commit} {r : Reply} (h : r = Machine.acceptCommit c u)
    (hm : Move s (u.setEngine (u.engine ++ [c]))) : Course s r.2 := by
  rw [h]
  exact (Course.frame (refl.move hm) (v := (u.setEngine (u.engine ++ [c])).setBuffer _ _) {}).modifyEntry _
    ⟨fun _ => rfl, fun _ => rfl, fun _ => rfl⟩ fun _ hbegun => hbegun

/-- A refused command makes no move. -/
theorem of_refused {r : Reply} (h : Refused r s) : Course s r.2 := by rw [h.2]; exact refl

theorem of_okay {r : Reply} {payload : Payload} (h : r = okay payload u) (hu : Course s u) : Course s r.2 := by
  rw [h]
  exact hu

theorem of_eq (h : u = s) : Course s u := by rw [h]; exact refl

theorem setBuffer (h : Course s u) (name : BufferName) (b : Buffer) : Course s (u.setBuffer name b) := h.frame {}

theorem changeCounter (h : Course s u) (i : Fin 4) (f : Counter → Counter) : Course s (changeCounter i f u) :=
  h.frame (by constructor <;> simp [Machine.changeCounter])

theorem writeMaterial (i : Fin 24) (record : Material) (s : State) : Course s (writeMaterial i record s) := by
  have habandoned : Course s (abandonUser i (s.setMaterials (s.materials.set i (rewriteRecord record s.materials[i])))) := by
    have hwritten := refl.move (.written s i (rewriteRecord record s.materials[i]) rfl)
    unfold abandonUser
    split
    · exact (hwritten.abandonPlan _).cond hwritten
    · exact hwritten
  refine (habandoned.move (.rework _ (fun e => if returnsAtWrite i e then e.replan else e) ?_ fun e => ?_)).chooseWork
  · refine ⟨fun e => ?_, fun e => ?_, fun e => ?_⟩ <;> split <;> rfl
  · split
    · exact fun h => Bool.noConfusion h
    · exact fun h => h

/-- What a JOB_RESET leaves of the queue, the pages and the store (R186). -/
theorem jobReset (s : State) : Course s (jobResetCommand s).2 := by
  rw [jobResetCommand_eq]
  refine Course.issueIdlePressure (refl.move (.cleared ?_ ?_ ?_ ?_ ?_ ?_ ?_ (settingsLaw_jetOff (clearWork s))))
  · rw [State.jetOff_queue]; rfl
  · rw [State.jetOff_finished]; rfl
  · rw [State.jetOff_freePages, clearWork]
  · rw [State.jetOff_engine]; rfl
  · rw [State.jetOff_store]; rfl
  · rfl
  · rfl

/-- A command, FILTER_SKIP apart, makes its moves from any state. -/
theorem runCommand (c : Instr) (hc : ∀ base mask, c ≠ .filterSkip base mask) (s : State) :
    Course s (runCommand c s).2 := by
  cases c with
  | bufClear buffer =>
    rcases bufClearCommand_cases buffer s with h | ⟨_, -, -, h⟩
    · exact of_refused h
    · exact of_okay h (refl.setBuffer ..)
  | bufWrite buffer startSlot records =>
    rcases bufWriteCommand_cases buffer startSlot records s with h | ⟨_, _, -, -, -, h⟩
    · exact of_refused h
    · exact of_okay h (refl.setBuffer ..)
  | bufRead buffer slot => exact of_eq (bufReadCommand_snd ..)
  | commitStatus buffer => exact of_eq (commitStatusCommand_snd ..)
  | contourOpen id tag material quality passes pierceMode closed startX startY beforeId =>
    rcases contourOpenCommand_cases id tag material quality passes pierceMode closed startX startY beforeId s with
      h | ⟨e, _, he, -, hlen, hnew, hmat, rfl, h⟩
    · exact of_refused h
    · exact of_okay h (((refl.move (.opened s e _ hlen hnew (by rw [he]; rfl) (by rw [he]; rfl) hmat)).activateNewHead s).settle)
  | contourAppend buffer id =>
    rcases contourAppendCommand_cases buffer id s with h | ⟨_, _, _, page, rest, -, -, -, -, -, -, hfree, h⟩
    · exact of_refused h
    · exact of_acceptCommit h (.taken s _ rest rfl hfree)
  | contourReplace buffer id position =>
    rcases contourReplaceCommand_cases buffer id position s with h | ⟨_, _, _, page, -, -, -, -, -, -, h⟩
    · exact of_refused h
    · exact of_acceptCommit h (.accepted s _ rfl)
  | contourClose id =>
    rcases contourCloseCommand_cases id s with h | ⟨_, -, -, -, -, h⟩
    · exact of_refused h
    · exact of_okay h ((refl.modifyState _ rfl).chooseWork)
  | contourDelete id =>
    rcases contourDeleteCommand_cases id s with h | ⟨e, he, -, h⟩
    · exact of_refused h
    · exact of_okay h (((((refl.abandonPlan _).removeEntry (by simpa using (entry_some he).1) none).chooseWork).activateNewHead
        s).settle)
  | contourMove id beforeId =>
    rcases contourMoveCommand_cases id beforeId s with h | ⟨e, he, hb, -, ⟨-, h⟩ | ⟨_, -, rfl, h⟩⟩
    · exact of_refused h
    · exact of_okay h (refl)
    · exact of_okay h (((refl.move (.moved s e _ (entry_some he).1 hb)).activateNewHead s).settle)
  | contourQuery id => exact of_eq (contourQueryCommand_snd ..)
  | filterSkip base mask => exact absurd rfl (hc base mask)
  | hold =>
    rcases holdCommand_cases s with h | ⟨t, ht, h⟩
    · exact of_refused h
    · exact of_okay h ((refl.holdHead ht).settle)
  | resume =>
    rcases resumeCommand_cases s with h | ⟨-, h⟩
    · exact of_refused h
    · exact of_okay h (refl.resumeHead.settle)
  | skip =>
    rcases skipCommand_cases s with h | ⟨t, ht, h⟩
    · exact of_refused h
    · exact of_okay h ((refl.skipRequest ht).settle)
  | finishedRead n =>
    rcases finishedReadCommand_cases n s with h | h
    · exact of_refused h
    · exact of_okay h (refl.move (.read s n.toNat))
  | matWrite index record =>
    rcases matWriteCommand_cases index record s with h | ⟨i, -, -, -, h⟩
    · exact of_refused h
    · exact of_okay h (writeMaterial ..)
  | matRead index => exact of_eq (matReadCommand_snd ..)
  | matInvalidate index =>
    rcases matInvalidateCommand_cases index s with h | ⟨i, -, hfree, h⟩
    · exact of_refused h
    · exact of_okay h (refl.move (.invalidated s i _ hfree))
  | configSet record =>
    rcases configSetCommand_cases record s with h | ⟨-, -, h⟩
    · exact of_refused h
    · exact of_okay h (refl.frame {})
  | wearConfig counter source limit =>
    rcases wearConfigCommand_cases counter source limit s with h | ⟨i, src, t, -, -, ht, h⟩
    · exact of_refused h
    · exact of_okay h (ht ▸ refl.changeCounter ..)
  | wearLevels t1 t2 t3 d1 d2 d3 =>
    rcases wearLevelsCommand_cases t1 t2 t3 d1 d2 d3 s with h | ⟨t, -, ht, h⟩
    · exact of_refused h
    · exact of_okay h (ht ▸ refl.frame (by constructor <;> simp))
  | wearLoad counter value =>
    rcases wearLoadCommand_cases counter value s with h | ⟨i, t, -, ht, h⟩
    · exact of_refused h
    · exact of_okay h (ht ▸ refl.changeCounter ..)
  | wearReset counter =>
    rcases wearResetCommand_cases counter s with h | ⟨i, t, -, ht, h⟩
    · exact of_refused h
    · exact of_okay h (ht ▸ refl.changeCounter ..)
  | routeSet jatnRoute matnRoute jatnMode matnMode =>
    rcases routeSetCommand_cases jatnRoute matnRoute jatnMode matnMode s with h | ⟨_, _, -, -, h⟩
    · exact of_refused h
    · exact of_okay h (refl.setAttention _)
  | eventsAck mask => exact refl.setAttention _
  | jobReset => exact jobReset s
  | _ => exact refl

end Course

end Sys2Proof.Proofs

/-! PROOFS. The laws of the queue, the pages, the store and the material table hold after every move of the queue, and so at
every step (R1, R20, R41, R42, R53). -/

namespace Sys2Proof.Proofs

open Sys2Proof Sys2Proof.Machine

/-! ### Removal, in each field -/

theorem removeEntry_queue (e : Entry) (outcome : Option Outcome) (s : State) :
    (s.removeEntry e outcome).queue = s.queue.filter fun x => x.contourId != e.contourId := by
  unfold State.removeEntry
  cases outcome <;> simp only [Option.map] <;> split <;> simp

theorem removeEntry_freePages (e : Entry) (outcome : Option Outcome) (s : State) :
    (s.removeEntry e outcome).freePages = s.freePages ++ e.pages := by
  unfold State.removeEntry
  cases outcome <;> simp only [Option.map] <;> split <;> simp

theorem removeEntry_store (e : Entry) (outcome : Option Outcome) (s : State) :
    (s.removeEntry e outcome).store = erasePages e.pages s.store := by
  unfold State.removeEntry
  cases outcome <;> simp only [Option.map] <;> split <;> simp

theorem removeEntry_engine (e : Entry) (outcome : Option Outcome) (s : State) :
    (s.removeEntry e outcome).engine
      = s.engine.map fun c => if c.contour = e.contourId then { c with bound := false } else c := by
  unfold State.removeEntry
  cases outcome <;> simp only [Option.map] <;> split <;> simp

theorem addFinished_finished (f : Finished) (s : State) :
    (s.addFinished f).finished = (if 16 ≤ s.finished.length then s.finished.drop 1 else s.finished) ++ [f] := by
  simp [State.addFinished]

theorem removeEntry_finished (e : Entry) (outcome : Option Outcome) (s : State) :
    (s.removeEntry e outcome).finished
      = match outcome with
        | some o => (if 16 ≤ s.finished.length then s.finished.drop 1 else s.finished) ++ [s.finishedEntry e o]
        | none => s.finished := by
  unfold State.removeEntry
  cases outcome <;> simp only [Option.map] <;> split <;> simp [addFinished_finished]

theorem modifyHead_queue (f : Entry → Entry) (s : State) :
    (s.modifyHead f).queue = match s.queue with
      | [] => []
      | e :: rest => f e :: rest := rfl

/-! ### Placement -/

/-- Without a before_id an entry goes to the tail (R4). -/
theorem place_none (e : Entry) (queue : List Entry) : place e none queue = queue ++ [e] := by cases queue <;> rfl

/-- Placement adds the entry and keeps the others (R4). -/
theorem place_perm (e : Entry) (before : Option Nat) (queue : List Entry) : (place e before queue).Perm (e :: queue) := by
  cases before with
  | none =>
    rw [place_none]
    exact List.perm_append_singleton e queue
  | some id =>
    induction queue with
    | nil => exact .refl _
    | cons q rest ih =>
      unfold place
      dsimp only
      split
      · split
        · exact .swap ..
        · exact .refl _
      · exact (ih.cons q).trans (.swap ..)

/-- An entry that has not begun comes to stand behind the head, or before one that has not begun (R4). -/
theorem place_tail (e : Entry) (before : Option Nat) (queue : List Entry) (he : e.state.begun = false)
    (h : ∀ x ∈ queue.tail, x.state.begun = false) : ∀ x ∈ (place e before queue).tail, x.state.begun = false := by
  cases before with
  | none =>
    rw [place_none]
    cases queue with
    | nil => simp
    | cons q rest =>
      intro x hx
      rw [List.cons_append, List.tail_cons] at hx
      rcases List.mem_append.1 hx with hx | hx
      · exact h x hx
      · rw [List.mem_singleton.1 hx]; exact he
  | some id =>
    cases queue with
    | nil => simp [place]
    | cons q rest =>
      unfold place
      dsimp only
      split
      · split
        · intro x hx
          rcases List.mem_cons.1 hx with rfl | hx
          · exact he
          · exact h x hx
        · rename_i hbegun
          intro x hx
          rcases List.mem_cons.1 hx with rfl | hx
          · simpa using hbegun
          · exact h x hx
      · intro x hx
        rcases List.mem_cons.1 ((place_perm e (some id) rest).mem_iff.1 hx) with rfl | hx
        · exact he
        · exact h x hx

/-! ### The queue law -/

/-- The queue law for a queue with the same contour_ids. -/
theorem queueLaw_of_map {s t : State} (h : QueueLaw s) (hids : t.queue.map Entry.contourId = s.queue.map Entry.contourId)
    (htail : ∀ e ∈ t.queue.tail, e.state.begun = false) (hfin : t.finished = s.finished) : QueueLaw t := by
  obtain ⟨hlen, hnodup, -, hfinished⟩ := h
  have hlength : t.queue.length = s.queue.length := by simpa using congrArg List.length hids
  exact ⟨hlength ▸ hlen, hids ▸ hnodup, htail, hfin ▸ hfinished⟩

/-- The queue law for a queue made of entries of the old one. -/
theorem queueLaw_of_sublist {s t : State} (h : QueueLaw s) (hq : t.queue.Sublist s.queue) (hfin : t.finished.length ≤ 16) :
    QueueLaw t := by
  obtain ⟨hlen, hnodup, htail, -⟩ := h
  exact ⟨hq.length_le.trans hlen, hnodup.sublist (hq.map _), fun e he => htail e (hq.tail.mem he), hfin⟩

/-- The queue law where the queue has been placed anew. -/
theorem queueLaw_place {s t : State} {e : Entry} {before : Option Nat} {others : List Entry} (h : QueueLaw s)
    (hothers : others.Sublist s.queue) (hlen : others.length < 48) (hnew : ∀ x ∈ others, x.contourId ≠ e.contourId)
    (he : e.state.begun = false) (hq : t.queue = place e before others) (hfin : t.finished = s.finished) :
    QueueLaw t := by
  obtain ⟨-, hnodup, htail, hfinished⟩ := h
  have hperm := place_perm e before others
  refine ⟨?_, ?_, ?_, hfin ▸ hfinished⟩
  · rw [hq, hperm.length_eq, List.length_cons]
    omega
  · rw [hq, (hperm.map _).nodup_iff, List.map_cons, List.nodup_cons]
    exact ⟨fun hmem => by obtain ⟨x, hx, hid⟩ := List.mem_map.1 hmem; exact hnew x hx hid,
      hnodup.sublist (hothers.map _)⟩
  · rw [hq]
    exact place_tail e before others he fun x hx => htail x (hothers.tail.mem hx)

theorem entry_none {s : State} {id : Nat} (h : s.entry id = none) : ∀ e ∈ s.queue, e.contourId ≠ id := by
  simpa [State.entry] using h

/-- R1 and R20 hold after every move. -/
theorem queueLaw_move {s t : State} (hm : Move s t) (h : QueueLaw s) : QueueLaw t := by
  cases hm with
  | frame hf => exact queueLaw_of_map h (by rw [hf.queue]) (by rw [hf.queue]; exact h.2.2.1) hf.finished
  | rework f hf hb =>
    refine queueLaw_of_map h (by simp [Function.comp_def, hf.contourId]) ?_ rfl
    intro e he
    rw [State.setQueue_queue, ← List.map_tail] at he
    obtain ⟨x, hx, rfl⟩ := List.mem_map.1 he
    have := h.2.2.1 x hx
    by_contra hne
    simp_all
  | head f hf =>
    refine queueLaw_of_map h ?_ ?_ (by simp)
    · rw [modifyHead_queue]
      cases s.queue <;> simp [hf.contourId]
    · rw [modifyHead_queue]
      have htail := h.2.2.1
      cases hq : s.queue <;> simp_all
  | words => exact queueLaw_of_map h rfl h.2.2.1 rfl
  | remove e outcome he =>
    refine queueLaw_of_sublist h (by rw [removeEntry_queue]; exact List.filter_sublist) ?_
    have hfin := h.2.2.2
    rw [removeEntry_finished]
    cases outcome with
    | none => exact hfin
    | some o =>
      dsimp only
      split <;> simp <;> omega
  | opened e before hlen hnew hst =>
    exact queueLaw_place h (.refl _) hlen (entry_none hnew) (by rw [hst]; rfl) rfl rfl
  | moved e before he hb =>
    refine queueLaw_place h List.filter_sublist ?_ (fun x hx => by simpa using List.of_mem_filter hx) hb rfl rfl
    exact (List.length_filter_lt_length_iff_exists.2 ⟨e, he, by simp⟩).trans_le h.1
  | accepted => exact queueLaw_of_map h rfl h.2.2.1 rfl
  | taken => exact queueLaw_of_map h rfl h.2.2.1 rfl
  | completed c rest _ hdone =>
    obtain ⟨f, hq, hid, -, hb, -⟩ := hdone.queue
    refine queueLaw_of_map h (by rw [hq]; simp [Function.comp_def, hid]) ?_ hdone.finished
    intro e he
    rw [hq, ← List.map_tail] at he
    obtain ⟨x, hx, rfl⟩ := List.mem_map.1 he
    have := h.2.2.1 x hx
    by_contra hne
    simp_all
  | read n =>
    refine queueLaw_of_sublist h (.refl _) ?_
    have hfin := h.2.2.2
    simp
    omega
  | written => exact queueLaw_of_map h rfl h.2.2.1 rfl
  | invalidated => exact queueLaw_of_map h rfl h.2.2.1 rfl
  | cleared hq hfin => exact ⟨by simp [hq], by simp [hq], by simp [hq], by simp [hfin]⟩
  | pressure target => exact queueLaw_of_map h (by simp) (by simpa using h.2.2.1) (by simp)
  | opens rate => exact queueLaw_of_map h (by simp) (by simpa using h.2.2.1) (by simp)
  | shuts => exact queueLaw_of_map h (by simp) (by simpa using h.2.2.1) (by simp)
  | sent => exact queueLaw_of_map h rfl h.2.2.1 rfl

/-! ### The pages -/

/-- In a queue of distinct contour_ids, taking an entry out leaves the others. -/
theorem perm_cons_filter {queue : List Entry} (hnodup : (queue.map Entry.contourId).Nodup) {e : Entry} (he : e ∈ queue) :
    queue.Perm (e :: queue.filter fun x => x.contourId != e.contourId) := by
  induction queue with
  | nil => cases he
  | cons q rest ih =>
    rw [List.map_cons, List.nodup_cons] at hnodup
    obtain ⟨hq, hrest⟩ := hnodup
    rcases List.mem_cons.1 he with rfl | he
    · have hall : rest.filter (fun x => x.contourId != e.contourId) = rest := by
        rw [List.filter_eq_self]
        intro x hx
        simpa using fun hid => hq (List.mem_map.2 ⟨x, hx, hid⟩)
      simp [hall]
    · have hne : q.contourId ≠ e.contourId := fun hid => hq (List.mem_map.2 ⟨e, he, hid.symm⟩)
      rw [List.filter_cons_of_pos (by simpa using hne)]
      exact ((ih hrest he).cons q).trans (.swap ..)

/-- Where every page is placed in a queue's page lists, the free list and the engine, a rearrangement of these places them. -/
theorem pagesPlaced_of_perm {s t : State} (h : PagesPlaced s)
    (hperm : (t.freePages ++ (t.queue.flatMap Entry.pages ++ heldPages t)).Perm
      (s.freePages ++ (s.queue.flatMap Entry.pages ++ heldPages s))) : PagesPlaced t := hperm.trans h

theorem flatMap_pages_map {f : Entry → Entry} (hf : ∀ e, (f e).pages = e.pages) (queue : List Entry) :
    (queue.map f).flatMap Entry.pages = queue.flatMap Entry.pages := by
  rw [List.flatMap_map]
  exact List.flatMap_congr fun e _ => hf e

/-- A page that joins the page list of the one entry with a contour_id. -/
theorem flatMap_pages_join {f : Entry → Entry} {id page : Nat} {queue : List Entry}
    (hnodup : (queue.map Entry.contourId).Nodup) (hin : id ∈ queue.map Entry.contourId)
    (hf : ∀ e, (f e).pages = if e.contourId = id then e.pages ++ [page] else e.pages) :
    ((queue.map f).flatMap Entry.pages).Perm (queue.flatMap Entry.pages ++ [page]) := by
  induction queue with
  | nil => cases hin
  | cons q rest ih =>
    rw [List.map_cons, List.nodup_cons] at hnodup
    obtain ⟨hq, hrest⟩ := hnodup
    by_cases hid : q.contourId = id
    · have hothers : (rest.map f).flatMap Entry.pages = rest.flatMap Entry.pages := by
        rw [List.flatMap_map]
        refine List.flatMap_congr fun e he => ?_
        rw [hf, if_neg fun heid => hq (List.mem_map.2 ⟨e, he, heid.trans hid.symm⟩)]
      rw [List.map_cons, List.flatMap_cons, List.flatMap_cons, hothers, hf, if_pos hid, List.append_assoc, List.append_assoc]
      exact (List.perm_append_comm).append_left _
    · have hin' : id ∈ rest.map Entry.contourId := by
        rcases List.mem_cons.1 hin with h | h
        · exact absurd h.symm hid
        · exact h
      rw [List.map_cons, List.flatMap_cons, List.flatMap_cons, hf, if_neg hid, List.append_assoc]
      exact (ih hrest hin').append_left _

/-- R42 holds after every move, where the queue law holds before it. -/
theorem pagesPlaced_move {s t : State} (hm : Move s t) (hlaw : QueueLaw s) (h : PagesPlaced s) : PagesPlaced t := by
  cases hm with
  | frame hf =>
    refine pagesPlaced_of_perm h ?_
    rw [heldPages, heldPages, hf.freePages, hf.queue, hf.engine]
  | rework f hf hb =>
    refine pagesPlaced_of_perm h ?_
    rw [State.setQueue_queue, flatMap_pages_map hf.pages]
    exact .refl _
  | head f hf =>
    refine pagesPlaced_of_perm h ?_
    have hq : (s.modifyHead f).queue.flatMap Entry.pages = s.queue.flatMap Entry.pages := by
      rw [modifyHead_queue]
      cases s.queue <;> simp [hf.pages]
    rw [hq, heldPages, heldPages, State.modifyHead_freePages, State.modifyHead_engine]
  | words => exact h
  | remove e outcome he =>
    refine pagesPlaced_of_perm h ?_
    have hheld : heldPages (s.removeEntry e outcome) = heldPages s := by
      rw [heldPages, heldPages, removeEntry_engine]
      induction s.engine with
      | nil => rfl
      | cons c rest ih =>
        have hkind : (if c.contour = e.contourId then { c with bound := false } else c).kind = c.kind := by split <;> rfl
        have hpage : (if c.contour = e.contourId then { c with bound := false } else c).page = c.page := by split <;> rfl
        simp only [List.map_cons, List.filter_cons, hkind]
        split
        · simpa [hpage] using ih
        · exact ih
    rw [hheld, removeEntry_queue, removeEntry_freePages, List.append_assoc]
    refine List.Perm.append_left _ ?_
    rw [← List.append_assoc, ← List.flatMap_cons]
    exact ((perm_cons_filter hlaw.2.1 he).symm.flatMap_right _).append_right _
  | opened e before hlen hnew hst hpages hmat =>
    refine pagesPlaced_of_perm h ?_
    have hq : ((place e before s.queue).flatMap Entry.pages).Perm (s.queue.flatMap Entry.pages) := by
      refine ((place_perm e before s.queue).flatMap_right _).trans ?_
      rw [List.flatMap_cons, hpages, List.nil_append]
    exact (hq.append_right _).append_left _
  | moved e before he hb =>
    refine pagesPlaced_of_perm h ?_
    have hq : ((place e before (s.queue.filter fun x => x.contourId != e.contourId)).flatMap Entry.pages).Perm
        (s.queue.flatMap Entry.pages) :=
      ((place_perm e before _).trans (perm_cons_filter hlaw.2.1 he).symm).flatMap_right _
    exact (hq.append_right _).append_left _
  | accepted c hc =>
    refine pagesPlaced_of_perm h ?_
    have hheld : heldPages (s.setEngine (s.engine ++ [c])) = heldPages s := by simp [heldPages, hc]
    rw [hheld]
    exact .refl _
  | taken c rest hc hfree =>
    refine pagesPlaced_of_perm h ?_
    have hheld : heldPages ((s.setFreePages rest).setEngine (s.engine ++ [c])) = heldPages s ++ [c.page] := by
      simp [heldPages, hc]
    rw [hheld, hfree]
    simp only [State.setEngine_freePages, State.setFreePages_freePages, State.setEngine_queue, State.setFreePages_queue]
    rw [← List.append_assoc, ← List.append_assoc, ← List.append_assoc, List.cons_append, List.cons_append]
    exact List.perm_append_singleton ..
  | completed c rest heng hdone =>
    refine pagesPlaced_of_perm h ?_
    obtain ⟨f, hq, hid, -, -, hpages⟩ := hdone.queue
    have hheld : heldPages s = (if c.kind = .append then [c.page] else []) ++ heldPages t := by
      rw [heldPages, heldPages, heng, hdone.engine]
      cases hk : c.kind <;> simp [hk]
    rw [hheld, hq]
    rcases hpages with ⟨hkeep, hfree⟩ | ⟨hk, hfree, hin, hjoin⟩
    · rw [flatMap_pages_map hkeep, hfree]
      cases hk : c.kind with
      | replace => simp
      | append =>
        simp only [if_true, List.append_assoc]
        refine List.Perm.append_left _ ?_
        rw [← List.append_assoc, ← List.append_assoc]
        exact List.perm_append_comm.append_right _
    · rw [hfree, if_pos hk, ← List.append_assoc (s.queue.flatMap _)]
      exact ((flatMap_pages_join hlaw.2.1 hin hjoin).append_right _).append_left _
  | read => exact h
  | written => exact h
  | invalidated => exact h
  | cleared hq _ hfree heng =>
    rw [PagesPlaced, heldPages, hq, hfree, heng]
    simp [State.allPages]
  | pressure target => exact pagesPlaced_of_perm h (by simp [heldPages])
  | opens rate => exact pagesPlaced_of_perm h (by simp [heldPages])
  | shuts => exact pagesPlaced_of_perm h (by simp [heldPages])
  | sent => exact h

/-! ### The store and the material table -/

/-- The store's canonical form holds after every move. -/
theorem storeForm_move {s t : State} (hm : Move s t) (h : StoreForm s) : StoreForm t := by
  cases hm with
  | frame hf => rw [StoreForm, hf.store]; exact h
  | words pages words => exact writeWords_wf pages words h
  | remove e outcome he => rw [StoreForm, removeEntry_store]; exact erasePages_wf _ h
  | completed c rest heng hdone =>
    rw [StoreForm]
    rcases hdone.store with hs | ⟨page, hs⟩ <;> rw [hs]
    · exact h
    · exact putPage_wf _ _ h
  | cleared _ _ _ _ hs => rw [StoreForm, hs]; rfl
  | head f hf => rw [StoreForm, State.modifyHead_store]; exact h
  | _ => exact h

/-- R53: every entry's record is VALID after every move. -/
theorem materialsValid_move {s t : State} (hm : Move s t) (h : MaterialsValid s) : MaterialsValid t := by
  cases hm with
  | frame hf => rw [MaterialsValid, hf.queue, hf.materials]; exact h
  | rework f hf hb =>
    intro e he
    obtain ⟨x, hx, rfl⟩ := List.mem_map.1 he
    simp only [State.setQueue_materials, hf.material]
    exact h x hx
  | head f hf =>
    intro e he
    rw [modifyHead_queue] at he
    simp only [State.modifyHead_materials]
    cases hq : s.queue with
    | nil => simp [hq] at he
    | cons x rest =>
      rw [hq] at he
      rcases List.mem_cons.1 he with rfl | he
      · simp only [hf.material]
        exact h x (by simp [hq])
      · exact h e (by simp [hq, he])
  | words => exact h
  | remove e outcome he =>
    intro x hx
    rw [removeEntry_queue] at hx
    simpa using h x (List.mem_of_mem_filter hx)
  | opened e before hlen hnew hst hpages hmat =>
    intro x hx
    rcases List.mem_cons.1 ((place_perm e before s.queue).mem_iff.1 hx) with rfl | hx
    · exact hmat
    · exact h x hx
  | moved e before he hb =>
    intro x hx
    rcases List.mem_cons.1 ((place_perm e before _).mem_iff.1 hx) with rfl | hx
    · exact h x he
    · exact h x (List.mem_of_mem_filter hx)
  | accepted => exact h
  | taken => exact h
  | completed c rest heng hdone =>
    obtain ⟨f, hq, -, hmat, -⟩ := hdone.queue
    intro e he
    rw [hq] at he
    obtain ⟨x, hx, rfl⟩ := List.mem_map.1 he
    simp only [hdone.materials, hmat]
    exact h x hx
  | read => exact h
  | written i r hr =>
    intro e he
    by_cases hi : i = e.material
    · subst hi; simpa using hr
    · have hne : i.val ≠ e.material.val := fun hval => hi (Fin.ext hval)
      simpa [Vector.getElem_set, hne] using h e he
  | invalidated i r hfree =>
    intro e he
    have hne : i.val ≠ e.material.val := fun hval => hfree e he (Fin.ext hval.symm)
    simpa [Vector.getElem_set, hne] using h e he
  | cleared hq => intro e he; rw [hq] at he; cases he
  | pressure target => simpa [MaterialsValid] using h
  | opens rate => simpa [MaterialsValid] using h
  | shuts => simpa [MaterialsValid] using h
  | sent => exact h

/-! ### The settings to the pump -/

/-- The last value read from a list is that of the list with an element more in front. -/
theorem getLast?_filterMap_cons {α β : Type} {f : α → Option β} {a : α} {l : List α} {b : β}
    (h : (l.filterMap f).getLast? = some b) : ((a :: l).filterMap f).getLast? = some b := by
  rw [List.filterMap_cons]
  split
  · exact h
  · rw [List.getLast?_cons, h]; rfl

/-- R112: what JSQ holds as last sent stays what the messages say, after every move. -/
theorem settingsLaw_move {s t : State} (hm : Move s t) (h : SettingsLaw s) : SettingsLaw t := by
  cases hm with
  | frame hf => rw [SettingsLaw, hf.transmit, hf.valve, hf.abrasive]; exact h
  | completed c rest heng hdone => rw [SettingsLaw, hdone.transmit, hdone.valve, hdone.abrasive]; exact h
  | remove e outcome he => rw [SettingsLaw, State.removeEntry_pump, State.removeEntry_jsq]; exact h
  | cleared _ _ _ _ _ _ _ hlaw => exact hlaw
  | pressure target =>
    rw [State.issue_pressure, SettingsLaw]
    simp only [State.setPump_pump, State.setPump_jsq, State.valveSettings_enqueueMessage,
      State.abrasiveSettings_enqueueMessage]
    rw [show valveSettings [.setPressure target] = [] from rfl, show abrasiveSettings [.setPressure target] = [] from rfl,
      List.append_nil, List.append_nil]
    exact h
  | opens rate => exact settingsLaw_jetOn rate s
  | shuts => exact settingsLaw_jetOff s
  | sent m rest wire hlist =>
    rw [SettingsLaw, hlist] at h
    exact ⟨fun v hv => h.1 v (getLast?_filterMap_cons hv), fun rate hrate => h.2 rate (getLast?_filterMap_cons hrate)⟩
  | _ => exact h

/-! ### FILTER_SKIP -/

/-- The removals of FILTER_SKIP as moves, where no two entries share a contour_id (R1, R12). -/
theorem course_filterRemoves {s u : State} {taken : List Entry} (h : Course s u)
    (hnodup : (taken.map Entry.contourId).Nodup) (hin : ∀ e ∈ taken, e ∈ u.queue) :
    Course s (taken.foldl filterRemove u) := by
  induction taken generalizing u with
  | nil => exact h
  | cons e taken ih =>
    rw [List.map_cons, List.nodup_cons] at hnodup
    refine ih ((h.abandonPlan _).removeEntry (by simpa using hin e List.mem_cons_self) (some .skipped)) hnodup.2 ?_
    intro x hx
    rw [filterRemove, removeEntry_queue, State.abandonPlan_queue, List.mem_filter]
    exact ⟨hin x (List.mem_cons_of_mem _ hx), by simpa using fun hid => hnodup.1 (List.mem_map.2 ⟨x, hx, hid⟩)⟩

theorem course_filterSkip {s : State} (h : QueueLaw s) (base mask : BitVec 16) :
    Course s (filterSkipCommand base mask s).2 := by
  have hremoved := course_filterRemoves (s := s) (taken := s.queue.filter (filterMatches base mask)) .refl
    (h.2.1.sublist (List.filter_sublist.map _)) fun e he => List.mem_of_mem_filter he
  exact (hremoved.chooseWork.activateNewHead s).settle

/-- A law of the queue that every removal keeps, whatever the entry, is kept by FILTER_SKIP in every state. -/
theorem filterSkip_keeps {P : State → Prop} (hmove : ∀ s t, Move s t → P s → P t)
    (hremove : ∀ s e outcome, P s → P (s.removeEntry e outcome)) (base mask : BitVec 16) {s : State} (hs : P s) :
    P (filterSkipCommand base mask s).2 := by
  have hremoved : ∀ (taken : List Entry) (u : State), P u → P (taken.foldl filterRemove u) := by
    intro taken
    induction taken with
    | nil => exact fun _ h => h
    | cons e taken ih => exact fun u h => ih _ (hremove _ _ _ ((Course.refl.abandonPlan e.contourId).keeps hmove h))
  exact ((Course.refl.chooseWork.activateNewHead s).settle).keeps hmove (hremoved _ s hs)

/-! ### The laws at every step -/

/-- A law that every move and FILTER_SKIP keep holds at every step. -/
theorem kept_of_moves {P : State → Prop} (hmove : ∀ s t, Move s t → P s → P t)
    (hfilter : ∀ s base mask, P s → P (filterSkipCommand base mask s).2) : Kept P := by
  have hcourse : ∀ {s t : State}, Course s t → P s → P t := fun h hs => h.keeps hmove hs
  exact {
    port := fun s p => hcourse (Course.refl.frame {})
    command := by
      intro c s hs
      by_cases hc : ∃ base mask, c = .filterSkip base mask
      · obtain ⟨base, mask, rfl⟩ := hc
        exact hfilter s base mask hs
      · push Not at hc
        exact hcourse (Course.runCommand c hc s) hs
    powerOn := fun s => hcourse (Course.refl.move
      (.cleared (reset_empty _).1 (reset_empty _).2.1 (reset_empty _).2.2 (by simp [State.reset]) (by simp [State.reset])
      rfl rfl ⟨by simp [State.reset, valveSettings, State.idleSequencer], by simp [State.reset, abrasiveSettings, State.idleSequencer]⟩))
    commit := fun s c rest h => hcourse (Course.completeCommit c rest h)
    contourPlan := fun s job e _ _ _ => hcourse (Course.refl.completeContourPlan job e)
    activeJob := fun s job e _ _ _ => hcourse (Course.refl.completeActiveJob job e)
    frameStart := fun s _ => hcourse Course.refl.chooseRecord
    frameComplete := fun s x frame _ => hcourse (Course.refl.completeExchange x frame)
    cutShort := fun s x _ => hcourse ((Course.refl.setMotion _).cond ((Course.refl.setMotion _).setStream _))
    linkTimeout := fun s => hcourse (((Course.refl.setMotion _).raise _).takeFault _).settle
    waitExpiry := fun s _ => hcourse (((Course.refl.setJsq).raise _).takeFault _).settle
    pierce := fun s => hcourse Course.refl.pierceExpires
    sent := fun s m rest h => hcourse (Course.cond
      (((Course.refl.move (.sent s m rest m.bytes h)).setJsq).cond (Course.refl.move (.sent s m rest m.bytes h)))
      (Course.refl.move (.sent s m rest m.bytes h)))
    assembly := fun s a => hcourse Course.refl.setPump
    status := fun s r => hcourse (Course.refl.acceptStatus r)
    reportTimeout := fun s => hcourse (((Course.refl.setPump).raise _).takeFault _).settle
    unit := fun s i => hcourse (Course.refl.frame {})
    tick := fun s => hcourse ((((Course.refl.setJsq).setMotion _).setPump).countWear _).settle
    line := fun s name hs => ⟨hcourse (Course.refl.setAttention _) hs, hcourse (Course.refl.setAttention _) hs⟩ }

/-- Settles O24: the queue law holds after each move that a step makes. -/
theorem queueLawKept : Obligations.QueueLawKept := fun _ _ _ hstep =>
  (kept_of_moves (fun _ _ => queueLaw_move) fun _ base mask h =>
    (course_filterSkip h base mask).keeps (fun _ _ => queueLaw_move) h).exec hstep

/-- Settles O23: with the queue law beside it, the law of the pages holds after each move that a step makes. -/
theorem pagesPlacedKept : Obligations.PagesPlacedKept := by
  intro c s t hstep hlaw hpages
  have hmove : ∀ s t, Move s t → QueueLaw s ∧ PagesPlaced s → QueueLaw t ∧ PagesPlaced t :=
    fun _ _ hm h => ⟨queueLaw_move hm h.1, pagesPlaced_move hm h.1 h.2⟩
  have hkept := kept_of_moves hmove fun _ base mask h => (course_filterSkip h.1 base mask).keeps hmove h
  exact (hkept.exec hstep ⟨hlaw, hpages⟩).2

/-- The canonical form of the store holds after every step. -/
theorem storeForm_kept : Kept StoreForm :=
  kept_of_moves (fun _ _ => storeForm_move) fun _ base mask =>
    filterSkip_keeps (fun _ _ => storeForm_move) (fun s e outcome h => by
      rw [StoreForm, removeEntry_store]; exact erasePages_wf _ h) base mask

/-- Every entry's material record stays VALID at every step (R53). -/
theorem materialsValid_kept : Kept MaterialsValid :=
  kept_of_moves (fun _ _ => materialsValid_move) fun _ base mask =>
    filterSkip_keeps (fun _ _ => materialsValid_move) (fun s e outcome h x hx => by
      rw [removeEntry_queue] at hx
      simpa using h x (List.mem_of_mem_filter hx)) base mask

end Sys2Proof.Proofs

/-! PROOFS. The queue, the sequencer and the planning engine agree, and the jet is shut where no entry is ACTIVE, after every
step (R91, R110, R112, R113). -/

namespace Sys2Proof.Proofs

open Sys2Proof Sys2Proof.Machine

/-! ### The PLANNING entries and the contour plan in flight -/

/-- The contour_ids of the PLANNING entries. -/
def planningIds (queue : List Entry) : List Nat := (queue.filter fun e => e.state == .planning).map Entry.contourId

/-- The contour_id of the contour plan in flight, if there is one. -/
def planInFlight (p : Planner) : List Nat :=
  match p.job with
  | some job => if job.kind = .contour then [job.contour] else []
  | none => []

theorem mem_planningIds {queue : List Entry} {id : Nat} :
    id ∈ planningIds queue ↔ ∃ e ∈ queue, e.state = .planning ∧ e.contourId = id := by
  simp [planningIds, and_assoc]

theorem mem_planInFlight {p : Planner} {id : Nat} :
    id ∈ planInFlight p ↔ ∃ job, p.job = some job ∧ job.kind = .contour ∧ job.contour = id := by
  unfold planInFlight
  split
  · split <;> simp_all [eq_comm]
  · simp_all

/-- The two lists agree exactly where a contour plan is in flight for the one PLANNING entry (R91). -/
theorem planningIds_eq_iff {s : State} (h : QueueLaw s) :
    planningIds s.queue = planInFlight s.planner ↔
      (∀ job, s.planner.job = some job → job.kind = .contour →
          ∃ e ∈ s.queue, e.contourId = job.contour ∧ e.state = .planning)
        ∧ ∀ e ∈ s.queue, e.state = .planning →
          ∃ job, s.planner.job = some job ∧ job.kind = .contour ∧ job.contour = e.contourId := by
  have hnodup : (planningIds s.queue).Nodup := h.2.1.sublist (List.filter_sublist.map _)
  have hone : (planInFlight s.planner).Nodup := by
    unfold planInFlight
    split
    · split <;> simp
    · simp
  constructor
  · intro heq
    refine ⟨fun job hjob hkind => ?_, fun e he hst => ?_⟩
    · obtain ⟨e, he, hst, hid⟩ := mem_planningIds.1 (heq ▸ mem_planInFlight.2 ⟨job, hjob, hkind, rfl⟩)
      exact ⟨e, he, hid, hst⟩
    · exact mem_planInFlight.1 (heq ▸ mem_planningIds.2 ⟨e, he, hst, rfl⟩)
  · rintro ⟨hjob, hentry⟩
    have hperm : (planningIds s.queue).Perm (planInFlight s.planner) := by
      refine (List.perm_ext_iff_of_nodup hnodup hone).2 fun id => ⟨fun hin => ?_, fun hin => ?_⟩
      · obtain ⟨e, he, hst, rfl⟩ := mem_planningIds.1 hin
        exact mem_planInFlight.2 (hentry e he hst)
      · obtain ⟨job, hj, hkind, rfl⟩ := mem_planInFlight.1 hin
        obtain ⟨e, he, hid, hst⟩ := hjob job hj hkind
        exact mem_planningIds.2 ⟨e, he, hst, hid⟩
    have hshort : planInFlight s.planner = [] ∨ ∃ id, planInFlight s.planner = [id] := by
      unfold planInFlight
      split
      · split <;> simp
      · simp
    rcases hshort with hp | ⟨id, hp⟩ <;> rw [hp] at hperm ⊢
    · exact List.perm_nil.1 hperm
    · exact List.perm_singleton.1 hperm

theorem planningIds_cons (e : Entry) (queue : List Entry) :
    planningIds (e :: queue) = if e.state = .planning then e.contourId :: planningIds queue else planningIds queue := by
  unfold planningIds
  by_cases h : e.state = .planning <;> simp [h]

/-- A rework that keeps contour_ids and the state PLANNING. -/
theorem planningIds_map {f : Entry → Entry} (hid : ∀ e, (f e).contourId = e.contourId)
    (hst : ∀ e, (f e).state = .planning ↔ e.state = .planning) (queue : List Entry) :
    planningIds (queue.map f) = planningIds queue := by
  induction queue with
  | nil => rfl
  | cons e rest ih => rw [List.map_cons, planningIds_cons, planningIds_cons, ih, hid, if_congr (hst e) rfl rfl]

/-- The entry with a contour_id leaves the state PLANNING. -/
theorem planningIds_leave {f : Entry → Entry} {id : Nat}
    (hst : ∀ e, (f e).state ≠ .planning) (queue : List Entry) :
    planningIds (queue.map fun e => if e.contourId = id then f e else e)
      = (planningIds queue).filter fun x => x != id := by
  induction queue with
  | nil => rfl
  | cons e rest ih =>
    rw [List.map_cons, planningIds_cons, planningIds_cons, ih]
    by_cases he : e.contourId = id
    · by_cases hp : e.state = .planning <;> simp [he, hp, hst]
    · by_cases hp : e.state = .planning <;> simp [he, hp]

/-- An entry leaves the queue. -/
theorem planningIds_remove (id : Nat) (queue : List Entry) :
    planningIds (queue.filter fun e => e.contourId != id) = (planningIds queue).filter fun x => x != id := by
  induction queue with
  | nil => rfl
  | cons e rest ih =>
    by_cases he : e.contourId = id
    · rw [List.filter_cons_of_neg (by simpa using he), ih, planningIds_cons]
      by_cases hp : e.state = .planning <;> simp [he, hp]
    · rw [List.filter_cons_of_pos (by simpa using he), planningIds_cons, planningIds_cons, ih]
      by_cases hp : e.state = .planning <;> simp [he, hp]

/-- A change of the entry with a contour_id that no entry of the list has. -/
theorem map_absent {f : Entry → Entry} {id : Nat} {list : List Entry} (h : ∀ e ∈ list, e.contourId ≠ id) :
    list.map (fun e => if e.contourId = id then f e else e) = list := by
  rw [List.map_congr_left (g := fun e => e) fun e he => if_neg (h e he)]
  exact List.map_id' list

/-- In a queue with no PLANNING entry the engine's choice becomes the one. -/
theorem planningIds_choose {queue : List Entry} {w : Entry} (hnodup : (queue.map Entry.contourId).Nodup) (hw : w ∈ queue)
    (hnone : planningIds queue = []) :
    planningIds (queue.map fun x => if x.contourId = w.contourId then { x with state := .planning } else x)
      = [w.contourId] := by
  induction queue with
  | nil => cases hw
  | cons e rest ih =>
    rw [List.map_cons, List.nodup_cons] at hnodup
    obtain ⟨he, hrest⟩ := hnodup
    have hstate : e.state ≠ .planning := by
      intro hp
      simp [planningIds_cons, hp] at hnone
    rw [planningIds_cons, if_neg hstate] at hnone
    rw [List.map_cons, planningIds_cons]
    by_cases hid : e.contourId = w.contourId
    · have hothers : rest.map (fun x => if x.contourId = w.contourId then { x with state := .planning } else x) = rest := by
        refine map_absent fun x hx hxid => he (List.mem_map.2 ⟨x, hx, hxid.trans hid.symm⟩)
      rw [hothers, hnone]
      simp [hid]
    · have hw' : w ∈ rest := by
        rcases List.mem_cons.1 hw with rfl | hw
        · exact absurd rfl hid
        · exact hw
      rw [ih hrest hw' hnone]
      simp [hid, hstate]

/-! ### The engine's choices and the head -/

theorem queueLaw_course {s t : State} (h : QueueLaw s) (hc : Course s t) : QueueLaw t := hc.keeps (fun _ _ => queueLaw_move) h

/-- In a queue of distinct contour_ids no entry behind the head has the head's. -/
theorem not_behind_head {s : State} {e : Entry} {rest : List Entry} (h : QueueLaw s) (hq : s.queue = e :: rest) :
    ∀ x ∈ rest, x.contourId ≠ e.contourId := by
  intro x hx hid
  have hnodup := h.2.1
  rw [hq, List.map_cons, List.nodup_cons] at hnodup
  exact hnodup.1 (List.mem_map.2 ⟨x, hx, hid⟩)

/-- The queue of `t` has the entry `e` at its head, and behind it entries with the contour_ids of `rest`. -/
def SameHead (e : Entry) (rest : List Entry) (t : State) : Prop :=
  ∃ others, t.queue = e :: others ∧ others.map Entry.contourId = rest.map Entry.contourId

theorem SameHead.head {e : Entry} {rest : List Entry} {t : State} (h : SameHead e rest t) : t.queue.head? = some e := by
  obtain ⟨others, hq, -⟩ := h
  rw [hq]; rfl

theorem SameHead.ids {e : Entry} {rest : List Entry} {t : State} (h : SameHead e rest t) :
    t.queue.map Entry.contourId = e.contourId :: rest.map Entry.contourId := by
  obtain ⟨others, hq, hids⟩ := h
  rw [hq, List.map_cons, hids]

/-- A change of another entry than the head keeps the head. -/
theorem sameHead_modifyEntry {s : State} {e : Entry} {rest : List Entry} {id : Nat} {f : Entry → Entry}
    (hq : s.queue = e :: rest) (hf : ∀ x, (f x).contourId = x.contourId) (hne : e.contourId ≠ id) :
    SameHead e rest (s.modifyEntry id f) := by
  refine ⟨rest.map fun x => if x.contourId = id then f x else x, ?_, ?_⟩
  · rw [State.modifyEntry, State.setQueue_queue, hq, List.map_cons, if_neg hne]
  · rw [List.map_map]
    refine List.map_congr_left fun x _ => ?_
    simp only [Function.comp_apply]
    split
    · exact hf x
    · rfl

/-- The engine's choice keeps a head that does not wait for a plan. -/
theorem sameHead_chooseWork {s : State} {e : Entry} {rest : List Entry} (h : QueueLaw s) (hq : s.queue = e :: rest)
    (he : e.state ≠ .waitingPlan) : SameHead e rest s.chooseWork := by
  rcases State.chooseWork_cases s with hc | ⟨w, -, hfind, hc⟩ <;> rw [hc]
  · exact ⟨rest, hq, rfl⟩
  · refine sameHead_modifyEntry (by rw [State.setPlanner_queue, hq]) (fun _ => rfl) fun hid => ?_
    have hw : w.state = .waitingPlan := by simpa using List.find?_some hfind
    have hmem := List.mem_of_find?_eq_some hfind
    rw [hq] at hmem
    rcases List.mem_cons.1 hmem with rfl | hmem
    · exact he hw
    · exact not_behind_head h hq w hmem hid.symm

theorem sameHead_dropRequest {s : State} {e : Entry} {rest : List Entry} (h : QueueLaw s) (hq : s.queue = e :: rest)
    (he : e.state ≠ .waitingPlan) : SameHead e rest s.dropRequest := by
  rcases State.dropRequest_cases s with ⟨-, hc⟩ | ⟨-, hc⟩ <;> rw [hc]
  · exact ⟨rest, hq, rfl⟩
  · exact sameHead_chooseWork (queueLaw_course h (Course.refl.setPlanner _)) hq he

/-! ### The engine and the PLANNING entries -/

/-- The queue law, with the PLANNING entries those whose contour plan is in flight. -/
structure Sound (s : State) : Prop where
  law : QueueLaw s
  plan : planningIds s.queue = planInFlight s.planner

namespace Sound

variable {u v : State}

theorem frame (h : Sound u) (hq : v.queue = u.queue := by simp) (hp : v.planner = u.planner := by simp)
    (hf : v.finished = u.finished := by simp) : Sound v :=
  ⟨queueLaw_of_map h.law (by rw [hq]) (by rw [hq]; exact h.law.2.2.1) hf, by rw [hq, hp]; exact h.plan⟩

theorem cond {c : Prop} [Decidable c] (h : Sound u) (h' : Sound v) : Sound (if c then u else v) := by
  split
  · exact h
  · exact h'

/-- The engine chooses its work: the entry it finds is PLANNING, and alone. -/
theorem chooseWork (h : Sound u) : Sound u.chooseWork := by
  refine ⟨queueLaw_course h.law Course.refl.chooseWork, ?_⟩
  rcases State.chooseWork_cases u with hc | ⟨w, hjob, hfind, hc⟩ <;> rw [hc]
  · exact h.plan
  · have hnone : planningIds u.queue = [] := by rw [h.plan, planInFlight, hjob]
    exact planningIds_choose h.law.2.1 (List.mem_of_find?_eq_some hfind) hnone

/-- A request in flight is not a contour plan. -/
theorem dropRequest (h : Sound u) : Sound u.dropRequest := by
  rcases State.dropRequest_cases u with ⟨-, hc⟩ | ⟨hr, hc⟩ <;> rw [hc]
  · exact h
  · refine Sound.chooseWork ⟨queueLaw_of_map h.law rfl h.law.2.2.1 rfl, ?_⟩
    have hnone : planInFlight u.planner = [] := by
      unfold State.requestOutstanding State.engineState at hr
      unfold planInFlight
      split at hr <;> simp_all
    rw [State.setPlanner_queue, h.plan, hnone]
    rfl

/-- The request that results from merging two requests is one. -/
theorem mergeRequest_ne_contour {a b k : JobKind} (hb : b ≠ .contour) (ha : a ≠ .contour)
    (h : mergeRequest a b = some k) : k ≠ .contour := by
  cases a <;> cases b <;> simp_all [mergeRequest] <;> (subst h; simp)

theorem startActiveJob {kind : JobKind} (hk : kind ≠ .contour) (hlaw : QueueLaw u) (hnone : planningIds u.queue = [])
    (e : Entry) : Sound (u.startActiveJob kind e) :=
  ⟨queueLaw_of_map hlaw rfl hlaw.2.2.1 rfl, by
    rw [State.startActiveJob_queue, hnone]
    simp [planInFlight, State.startActiveJob, hk]⟩

/-- A request taken returns the PLANNING entry, if there is one, to WAITING_PLAN (R95). -/
theorem takeRequest {kind : JobKind} (hk : kind ≠ .contour) (h : Sound u) : Sound (u.takeRequest kind) := by
  unfold State.takeRequest
  split
  · exact h
  · have hmark : Sound (if kind = .stop then u.setPlanner { u.planner with stopTaken := true } else u) := by
      split
      · exact ⟨queueLaw_of_map h.law rfl h.law.2.2.1 rfl, h.plan⟩
      · exact h
    dsimp only
    split
    · rename_i hjob
      exact startActiveJob hk hmark.law (by rw [hmark.plan, planInFlight, hjob]) _
    · rename_i job hjob
      split
      · rename_i hcontour
        refine startActiveJob hk (queueLaw_course hmark.law (Course.refl.modifyState _ rfl)) ?_ _
        rw [State.modifyEntry, State.setQueue_queue, planningIds_leave (fun _ => by simp), hmark.plan, planInFlight, hjob]
        simp [hcontour]
      · rename_i hother
        split
        · rename_i kind' hmerge
          exact startActiveJob (mergeRequest_ne_contour hk hother hmerge) hmark.law
            (by rw [hmark.plan, planInFlight, hjob]; simp [hother]) _
        · exact hmark

/-- The head changes, but not into or out of PLANNING. -/
theorem modifyHead {f : Entry → Entry} (h : Sound u) (hf : KeepsOwn f)
    (hst : ∀ e rest, u.queue = e :: rest → ((f e).state = .planning ↔ e.state = .planning)) : Sound (u.modifyHead f) := by
  refine ⟨queueLaw_course h.law (Course.refl.modifyHead hf), ?_⟩
  rw [modifyHead_queue, State.modifyHead_planner, ← h.plan]
  cases hq : u.queue with
  | nil => rfl
  | cons e rest => simp only [planningIds_cons, hf.contourId, hst e rest hq]

/-- An entry leaves the queue, its plan abandoned before or none in flight. -/
theorem removeEntry (h : Sound u) {e : Entry} (he : e ∈ u.queue) (hst : e.contourId ∉ planInFlight u.planner)
    (outcome : Option Outcome) : Sound (u.removeEntry e outcome) := by
  refine ⟨queueLaw_course h.law (Course.refl.removeEntry he outcome), ?_⟩
  rw [removeEntry_queue, planningIds_remove, h.plan, State.removeEntry_planner]
  exact List.filter_eq_self.2 fun id hid => by
    simp only [bne_iff_ne]
    rintro rfl
    exact hst hid

/-- An entry in another state than PLANNING has no contour plan in flight. -/
theorem not_inFlight (h : Sound u) {e : Entry} (he : e ∈ u.queue) (hst : e.state ≠ .planning) :
    e.contourId ∉ planInFlight u.planner := by
  rw [← h.plan]
  intro hin
  obtain ⟨x, hx, hplanning, hid⟩ := mem_planningIds.1 hin
  exact hst (List.inj_on_of_nodup_map h.law.2.1 hx he hid ▸ hplanning)

end Sound

/-! ### The ACTIVE head -/

/-- The engine is sound and the head is ACTIVE. -/
structure Loaded (s : State) : Prop where
  sound : Sound s
  active : ∃ e rest, s.queue = e :: rest ∧ e.state = .active

theorem isSome_activeEntry {s : State} : s.activeEntry.isSome = true ↔ ∃ e rest, s.queue = e :: rest ∧ e.state = .active := by
  rw [Option.isSome_iff_exists]
  exact exists_congr fun _ => State.activeEntry_eq_some

theorem activeEntry_none {s : State} (h : ∀ e rest, s.queue = e :: rest → e.state ≠ .active) : s.activeEntry = none := by
  rw [← Option.not_isSome_iff_eq_none, isSome_activeEntry]
  rintro ⟨e, rest, hq, he⟩
  exact h e rest hq he

theorem activeEntry_congr {s t : State} (h : t.queue = s.queue) : t.activeEntry = s.activeEntry := by
  unfold State.activeEntry
  rw [h]

theorem valve_closed {s : State} (h : ¬ s.jsq.valve = .opened) : s.jsq.valve = .closed := by
  cases hv : s.jsq.valve <;> simp_all

namespace Loaded

variable {u v : State}

theorem frame (h : Loaded u) (hq : v.queue = u.queue := by simp) (hp : v.planner = u.planner := by simp)
    (hf : v.finished = u.finished := by simp) : Loaded v :=
  ⟨h.sound.frame hq hp hf, by rw [hq]; exact h.active⟩

theorem cond {c : Prop} [Decidable c] (h : Loaded u) (h' : Loaded v) : Loaded (if c then u else v) := by
  split
  · exact h
  · exact h'

theorem head (h : Loaded u) : ∃ e, u.activeEntry = some e := Option.isSome_iff_exists.1 (isSome_activeEntry.2 h.active)

/-- The head stays ACTIVE where it stays in place. -/
theorem of_sameHead (h : Loaded u) (hv : Sound v)
    (hsame : ∀ e rest, u.queue = e :: rest → e.state = .active → SameHead e rest v) : Loaded v := by
  obtain ⟨e, rest, hq, he⟩ := h.active
  obtain ⟨others, hq', -⟩ := hsame e rest hq he
  exact ⟨hv, e, others, hq', he⟩

theorem chooseWork (h : Loaded u) : Loaded u.chooseWork :=
  h.of_sameHead h.sound.chooseWork fun _ _ hq he => sameHead_chooseWork h.sound.law hq (by simp [he])

theorem dropRequest (h : Loaded u) : Loaded u.dropRequest :=
  h.of_sameHead h.sound.dropRequest fun _ _ hq he => sameHead_dropRequest h.sound.law hq (by simp [he])

/-- The change of the head by something that keeps it ACTIVE. -/
theorem modifyHead {f : Entry → Entry} (h : Loaded u) (hf : KeepsOwn f)
    (hst : ∀ e, e.state = .active → (f e).state = .active) : Loaded (u.modifyHead f) := by
  obtain ⟨e, rest, hq, he⟩ := h.active
  refine ⟨h.sound.modifyHead hf fun x others hq' => ?_, f e, rest, ?_, hst e he⟩
  · rw [hq] at hq'
    cases hq'
    simp [hst e he, he]
  · rw [modifyHead_queue, hq]

end Loaded

/-- A contour plan in flight for another entry than the ACTIVE head: its entry is behind the head. -/
theorem inFlight_behind {s : State} (h : Sound s) {e : Entry} {rest : List Entry} (hq : s.queue = e :: rest)
    (he : e.state ≠ .planning) {job : Job} (hjob : s.planner.job = some job) (hk : job.kind = .contour) :
    e.contourId ≠ job.contour := by
  intro hid
  refine h.not_inFlight (e := e) (by simp [hq]) he ?_
  rw [planInFlight, hjob]
  simp [hk, hid]

/-- A request taken keeps the ACTIVE head. -/
theorem sameHead_takeRequest {s : State} {kind : JobKind} {e : Entry} {rest : List Entry} (h : Sound s)
    (hq : s.queue = e :: rest) (he : e.state ≠ .planning) : SameHead e rest (s.takeRequest kind) := by
  unfold State.takeRequest
  split
  · exact ⟨rest, hq, rfl⟩
  · have hmark : (if kind = .stop then s.setPlanner { s.planner with stopTaken := true } else s).queue = e :: rest := by
      split <;> simp [hq]
    have hjob : (if kind = .stop then s.setPlanner { s.planner with stopTaken := true } else s).planner.job = s.planner.job := by
      split <;> simp
    dsimp only
    rw [hjob]
    split
    · exact ⟨rest, by simpa using hmark, rfl⟩
    · split
      · obtain ⟨others, hothers, hids⟩ := sameHead_modifyEntry (f := fun x => { x with state := .waitingPlan }) hmark
          (fun _ => rfl) (inFlight_behind h hq he ‹_› ‹_›)
        exact ⟨others, by simpa using hothers, hids⟩
      · split
        · exact ⟨rest, by simpa using hmark, rfl⟩
        · exact ⟨rest, hmark, rfl⟩

theorem Loaded.takeRequest {u : State} {kind : JobKind} (hk : kind ≠ .contour) (h : Loaded u) :
    Loaded (u.takeRequest kind) :=
  h.of_sameHead (h.sound.takeRequest hk) fun _ _ hq he => sameHead_takeRequest h.sound hq (by simp [he])

end Sys2Proof.Proofs

/-! PROOFS. Every operation leaves the jet and the head agreeing, and so does every step (R110, R112, R113). -/

namespace Sys2Proof.Proofs

open Sys2Proof Sys2Proof.Machine

variable {u v : State}

/-! ### The states of the jet and the head -/

/-- The head is ACTIVE, the phase one of a contour being cut, the valve open only in the phases whose jet is (R110). -/
structure Running (s : State) : Prop where
  loaded : Loaded s
  phase : s.jsq.phase ≠ .idle ∧ s.jsq.phase ≠ .finishing
  valve : s.jsq.valve = .opened → s.jsq.phase.jetOpen = true

/-- No entry is ACTIVE, the phase is IDLE or FINISHING, and the jet is shut (R110, R113). -/
structure Resting (s : State) : Prop where
  sound : Sound s
  inactive : s.activeEntry = none
  phase : s.jsq.phase = .idle ∨ s.jsq.phase = .finishing
  valve : s.jsq.valve = .closed

/-- One of the two, as between any two steps. -/
def Agreeing (s : State) : Prop := Running s ∨ Resting s

/-- The laws of the jet say that the part is in one of the two states, and that no abrasive is asked for with the valve
closed. -/
theorem jetSafe_iff {s : State} : JetSafe s ↔ Agreeing s ∧ JetLaw s := by
  constructor
  · rintro ⟨hlaw, ⟨hphase, hvalve, hjob, hentry⟩, hjet, hshut⟩
    have hsound : Sound s := ⟨hlaw, (planningIds_eq_iff hlaw).2 ⟨hjob, hentry⟩⟩
    refine ⟨?_, hjet⟩
    by_cases ha : s.activeEntry.isSome = true
    · exact .inl ⟨⟨hsound, isSome_activeEntry.1 ha⟩, hphase.1 ha, hvalve⟩
    · have hnone : s.activeEntry = none := by simpa using ha
      refine .inr ⟨hsound, hnone, ?_, hshut hnone⟩
      by_contra hother
      push Not at hother
      exact ha (hphase.2 hother)
  · rintro ⟨hrun | hrest, hjet⟩
    · obtain ⟨⟨⟨hlaw, hplan⟩, hactive⟩, hphase, hvalve⟩ := hrun
      obtain ⟨hjob, hentry⟩ := (planningIds_eq_iff hlaw).1 hplan
      have hsome := isSome_activeEntry.2 hactive
      exact ⟨hlaw, ⟨⟨fun _ => hphase, fun _ => hsome⟩, hvalve, hjob, hentry⟩, hjet, fun hnone => by simp [hnone] at hsome⟩
    · obtain ⟨⟨hlaw, hplan⟩, hnone, hphase, hvalve⟩ := hrest
      obtain ⟨hjob, hentry⟩ := (planningIds_eq_iff hlaw).1 hplan
      refine ⟨hlaw, ⟨⟨fun hsome => by simp [hnone] at hsome, fun hother => ?_⟩, fun hopen => ?_, hjob, hentry⟩, hjet,
        fun _ => hvalve⟩
      · exact absurd hphase (not_or.2 hother)
      · rw [hvalve] at hopen; cases hopen

/-! ### Coming to rest -/

theorem Agreeing.frame (h : Agreeing u) (hq : v.queue = u.queue := by simp) (hp : v.planner = u.planner := by simp)
    (hf : v.finished = u.finished := by simp) (hj : v.jsq = u.jsq := by simp) : Agreeing v := by
  rcases h with ⟨hl, hphase, hvalve⟩ | ⟨hs, hnone, hphase, hvalve⟩
  · exact .inl ⟨hl.frame hq hp hf, by rw [hj]; exact hphase, by rw [hj]; exact hvalve⟩
  · exact .inr ⟨hs.frame hq hp hf, by rw [activeEntry_congr hq]; exact hnone, by rw [hj]; exact hphase, by rw [hj]; exact hvalve⟩

theorem Agreeing.cond {c : Prop} [Decidable c] (h : Agreeing u) (h' : Agreeing v) : Agreeing (if c then u else v) := by
  split
  · exact h
  · exact h'

theorem Agreeing.raise (h : Agreeing u) (src : Source) : Agreeing (u.raise src) := h.frame
theorem Agreeing.setStream (h : Agreeing u) (x : Stream) : Agreeing (u.setStream x) := h.frame
theorem Agreeing.setAttention (h : Agreeing u) (x : Attention) : Agreeing (u.setAttention x) := h.frame
theorem Agreeing.setMotion (h : Agreeing u) (x : MotionPort) : Agreeing (u.setMotion x) := h.frame
theorem Agreeing.setPump (h : Agreeing u) (x : PumpLink) : Agreeing (u.setPump x) := h.frame
theorem Agreeing.countWear (h : Agreeing u) (f : Counter → Counter) : Agreeing (u.countWear f) := h.frame
theorem Agreeing.settle (h : Agreeing u) : Agreeing u.settle := h.frame

/-- Without an ACTIVE head there is nothing to bring to rest. -/
theorem Agreeing.active_or_resting (h : Agreeing u) : Loaded u ∨ Resting u := h.imp_left Running.loaded

theorem sequencerIdle_jsq (s : State) :
    s.sequencerIdle.jsq = ⟨.idle, none, none, none, none, none, none, s.jsq.valve, s.jsq.abrasive, none, none⟩ := rfl

/-- An entry that comes to rest is HELD or FAILED (R155). -/
theorem hold_state (cause : Cause) (p : Place) (e : Entry) :
    (Entry.hold cause p e).state = .failed ∨ (Entry.hold cause p e).state = .held := by
  unfold Entry.hold
  exact ite_eq_or_eq ..

theorem becomeHeld_resting (h : Loaded u) (hv : u.jsq.valve = .closed) (cause : Cause) (point : Place) :
    Resting (u.becomeHeld cause point) := by
  obtain ⟨e, ha⟩ := h.head
  obtain ⟨rest, hq, he⟩ := State.activeEntry_eq_some.1 ha
  unfold State.becomeHeld
  rw [ha]
  dsimp only
  generalize State.pastBridge (u.segments e) e.passes point = p
  have hne : ∀ st, st ≠ .failed → st ≠ .held → ∀ x, (Entry.hold cause p x).state ≠ st := fun st h1 h2 x heq => by
    rcases hold_state cause p x with hx | hx <;> rw [hx] at heq
    · exact h1 heq.symm
    · exact h2 heq.symm
  have hheld : Sound (u.modifyHead (Entry.hold cause p)) := h.sound.modifyHead (keepsOwn_hold cause p) fun x others hq' => by
    rw [hq] at hq'
    cases hq'
    simp [hne .planning (by simp) (by simp), he]
  have hidle : Sound ((u.modifyHead (Entry.hold cause p)).endActive.sequencerIdle) := hheld.frame
  obtain ⟨others, hothers, -⟩ := sameHead_dropRequest (rest := rest) hidle.law
    (by simp [modifyHead_queue, hq]) (hne .waitingPlan (by simp) (by simp) e)
  refine ⟨hidle.dropRequest.frame, activeEntry_none fun x xs hx => ?_, .inl ?_, ?_⟩
  · rw [State.raise_queue, hothers] at hx
    cases hx
    exact hne .active (by simp) (by simp) e
  · simp [sequencerIdle_jsq]
  · simpa [sequencerIdle_jsq] using hv

theorem restAtOnce_closed (s : State) : s.restAtOnce.jsq.valve = .closed := by
  unfold State.restAtOnce
  by_cases hv : s.jsq.valve = .opened
  · simp [hv, State.jetOff_eq, State.leavePhase]
  · simpa [hv, State.leavePhase] using valve_closed hv

theorem Loaded.restAtOnce (h : Loaded u) : Loaded u.restAtOnce := h.frame

theorem immediateHold_resting (h : Loaded u) (cause : Cause) : Resting (u.immediateHold cause) := by
  obtain ⟨e, ha⟩ := h.head
  unfold State.immediateHold
  rw [ha]
  exact becomeHeld_resting h.restAtOnce (restAtOnce_closed u) ..

theorem immediateHold_agreeing (h : Agreeing u) (cause : Cause) : Agreeing (u.immediateHold cause) := by
  rcases h.active_or_resting with hl | hr
  · exact .inr (immediateHold_resting hl cause)
  · unfold State.immediateHold
    rw [hr.inactive]
    exact .inr hr

/-! ### Activation -/

theorem Loaded.makeDue (h : Loaded u) (c : Control) : Loaded (u.makeDue c) := h.frame

theorem pressureStep_jsq (target : Nat) (s : State) :
    (s.pressureStep target).jsq = { s.jsq with
      wait := some ⟨clampPressure s.config target, s.config.pressureTimeout.toNat * 1000⟩ } := by
  simp [State.pressureStep_eq]

/-- JSQ starts a contour with the jet shut. -/
theorem startSequence_running (h : Loaded u) (hv : u.jsq.valve = .closed) (e : Entry) (mode : PierceMode) (x y : Nat) :
    Running (u.startSequence e mode x y) :=
  ⟨h.frame, by simp [State.startSequence], by simp [State.startSequence, pressureStep_jsq, hv]⟩

theorem silenceAtStart_agreeing (h : Agreeing u) : Agreeing u.silenceAtStart :=
  have hmotion := (immediateHold_agreeing h .motionLinkFault).cond (c := u.motion.link = .silent) h
  (immediateHold_agreeing hmotion _).cond hmotion

theorem pumpSilenceAtStart_agreeing (h : Agreeing u) : Agreeing u.pumpSilenceAtStart := (immediateHold_agreeing h _).cond h

theorem activate_agreeing (h : Sound u) (hv : u.jsq.valve = .closed) {e : Entry} {rest : List Entry} (hq : u.queue = e :: rest)
    (he : e.state = .ready) : Agreeing (u.activate e) := by
  have hactive : Sound (u.modifyHead Entry.activate) := h.modifyHead keepsOwn_activate fun x others hq' => by
    rw [hq] at hq'
    cases hq'
    simp [he, Entry.activate]
  have hloaded : Loaded (u.modifyHead Entry.activate) := ⟨hactive, Entry.activate e, rest, by rw [modifyHead_queue, hq], rfl⟩
  have hbegun : Loaded ((((u.modifyHead Entry.activate).startStream ⟨0, 1⟩).setPlanner
      { ((u.modifyHead Entry.activate).startStream ⟨0, 1⟩).planner with stopTaken := false }).raise .contourStart) :=
    ⟨⟨queueLaw_of_map hactive.law (by simp) (by simpa using hactive.law.2.2.1) (by simp), by
      simpa [planInFlight] using hactive.plan⟩, by simpa using hloaded.active⟩
  unfold State.activate
  refine silenceAtStart_agreeing (.inl (startSequence_running ((hbegun.cond
    (hbegun.takeRequest (by simp))).makeDue _) ?_ ..))
  split <;> simp [hv]

theorem tryActivate_agreeing (h : Resting u) : Agreeing u.tryActivate := by
  rcases State.tryActivate_cases u with hc | ⟨e, rest, hq, -, he, -, hc⟩ <;> rw [hc]
  · exact .inr h
  · exact activate_agreeing h.sound h.valve hq he

/-- Activation is tried from any agreeing state: with a head ACTIVE nothing happens. -/
theorem tryActivate_of_agreeing (h : Agreeing u) : Agreeing u.tryActivate := by
  rcases h with hrun | hrest
  · rcases State.tryActivate_cases u with hc | ⟨e, rest, -, hidle, -, -, hc⟩ <;> rw [hc]
    · exact .inl hrun
    · exact absurd hidle hrun.phase.1
  · exact tryActivate_agreeing hrest

theorem activateNewHead_agreeing (h : Agreeing u) (old : State) : Agreeing (State.activateNewHead old u) :=
  h.cond (tryActivate_of_agreeing h)

theorem runOn_agreeing (h : Resting u) : Agreeing u.runOn :=
  (tryActivate_agreeing h).cond (Agreeing.frame (u := u) (.inr h))

/-! ### Leaving the queue -/

/-- With the head gone no entry is ACTIVE. -/
theorem removeEntry_head_inactive (h : QueueLaw u) {e : Entry} {rest : List Entry} (hq : u.queue = e :: rest)
    (outcome : Option Outcome) : (u.removeEntry e outcome).queue = rest ∧ ∀ x ∈ rest, x.state.begun = false := by
  have htail := h.2.2.1
  rw [hq] at htail
  refine ⟨?_, htail⟩
  rw [removeEntry_queue, hq, List.filter_cons_of_neg (by simp), List.filter_eq_self]
  exact fun x hx => by simpa using not_behind_head h hq x hx

/-- The engine's choice leaves no entry ACTIVE where none was. -/
theorem chooseWork_inactive (hnone : u.activeEntry = none) : u.chooseWork.activeEntry = none := by
  rcases State.chooseWork_cases u with hc | ⟨w, -, -, hc⟩ <;> rw [hc]
  · exact hnone
  · refine activeEntry_none fun e rest hq he => ?_
    rw [State.modifyEntry, State.setQueue_queue, State.setPlanner_queue] at hq
    cases hold : u.queue with
    | nil => simp [hold] at hq
    | cons x xs =>
      have hx : x.state ≠ .active := fun hx => by simp [State.activeEntry, hold, hx] at hnone
      rw [hold, List.map_cons] at hq
      split at hq
      · cases hq; cases he
      · cases hq; exact hx he

/-- The engine's choice does not begin an entry. -/
theorem dropRequest_inactive (hnone : u.activeEntry = none) : u.dropRequest.activeEntry = none := by
  rcases State.dropRequest_cases u with ⟨-, hc⟩ | ⟨-, hc⟩ <;> rw [hc]
  · exact hnone
  · exact chooseWork_inactive (u := u.setPlanner _) hnone

/-- With the jet shut and no entry ACTIVE, JSQ goes to a phase without a contour and a request is dropped. -/
theorem dropRequest_resting (h : Sound u) (hnone : u.activeEntry = none)
    (hphase : u.jsq.phase = .idle ∨ u.jsq.phase = .finishing) (hv : u.jsq.valve = .closed) : Resting u.dropRequest :=
  ⟨h.dropRequest, dropRequest_inactive hnone, by simpa using hphase, by simpa using hv⟩

/-- The head has been removed: the engine is sound and no entry is ACTIVE. -/
theorem removeEntry_head (h : Sound u) {e : Entry} {rest : List Entry} (hq : u.queue = e :: rest) (he : e.state ≠ .planning)
    (outcome : Option Outcome) : Sound (u.removeEntry e outcome) ∧ (u.removeEntry e outcome).activeEntry = none := by
  have hmem : e ∈ u.queue := by simp [hq]
  obtain ⟨hleft, hbegun⟩ := removeEntry_head_inactive h.law hq outcome
  refine ⟨h.removeEntry hmem (h.not_inFlight hmem he) outcome, activeEntry_none fun x xs hx hactive => ?_⟩
  have hx' := hbegun x (by rw [← hleft, hx]; simp)
  rw [hactive] at hx'
  cases hx'

theorem skipHead_agreeing (h : Sound u) (hv : u.jsq.valve = .closed) {e : Entry} {rest : List Entry} (hq : u.queue = e :: rest)
    (he : e.state ≠ .planning) : Agreeing u.skipHead := by
  have hended : Sound (if e.state = .active then u.endActive else u) := (Sound.frame h).cond h
  have hended_queue : (if e.state = .active then u.endActive else u).queue = e :: rest := by split <;> simp [hq]
  have hended_valve : (if e.state = .active then u.endActive else u).jsq.valve = .closed := by split <;> simp [hv]
  obtain ⟨hgone, hnone⟩ := removeEntry_head hended hended_queue he (some .skipped)
  unfold State.skipHead
  rw [hq]
  refine runOn_agreeing (dropRequest_resting hgone.frame ?_ (.inl rfl) ?_)
  · exact (activeEntry_congr (by simp)).trans hnone
  · simpa [sequencerIdle_jsq] using hended_valve

theorem immediateRest_agreeing (h : Loaded u) (cause : Cause) (ending : Ending) :
    Agreeing (u.immediateRest cause ending) := by
  obtain ⟨e, ha⟩ := h.head
  unfold State.immediateRest
  rw [ha]
  cases ending with
  | held => exact .inr (immediateHold_resting h cause)
  | skipped =>
    have hrest := h.restAtOnce.modifyHead (keepsOwn_donePlace
      (some (State.pastBridge (u.segments e) e.passes (u.restPoint e)))) fun _ he => he
    obtain ⟨x, others, hx, hactive⟩ := hrest.active
    exact skipHead_agreeing hrest.sound (by simpa using restAtOnce_closed u) hx (by simp [hactive])

theorem finish_resting (h : Loaded u) (hv : u.jsq.valve = .closed) : Resting u.finish := by
  obtain ⟨e, rest, hq, he⟩ := h.active
  have hcleared : Sound u.endActive.leavePhase.clearWindow := h.sound.frame
  obtain ⟨hgone, hnone⟩ := removeEntry_head (e := e) (rest := rest) hcleared (by simp [hq]) (by simp [he]) (some .done)
  unfold State.finish
  rw [hq]
  refine dropRequest_resting hgone.frame ?_ (.inr rfl) ?_
  · exact (activeEntry_congr (by simp)).trans hnone
  · simp [State.leavePhase, hv]

theorem restAtDone_agreeing (h : Loaded u) (hv : u.jsq.valve = .closed) (cause : Cause) (ending : Ending) :
    Agreeing (u.restAtDone cause ending) := by
  obtain ⟨e, ha⟩ := h.head
  have hcleared : Loaded u.clearWindow := h.frame
  unfold State.restAtDone
  rw [ha]
  refine Agreeing.cond (.inr (finish_resting hcleared (by simpa using hv))) ?_
  cases ending with
  | held => exact .inr (becomeHeld_resting hcleared (by simpa using hv) ..)
  | skipped =>
    obtain ⟨x, rest, hq, hx⟩ := hcleared.active
    exact skipHead_agreeing hcleared.sound (by simpa using hv) hq (by simp [hx])

/-! ### Segments done and faults -/

theorem Loaded.segmentDone (h : Loaded u) (e : Entry) (index : Nat) : Loaded (u.segmentDone e index) := by
  have hdone := h.modifyHead (f := fun x =>
    { x with
      donePlace := x.donePlace.map (State.advanceDone (u.segments e) x.passes index), resumeFailures := 0
      restartMark := false }) ⟨fun _ => rfl, fun _ => rfl, fun _ => rfl⟩ fun _ he => he
  unfold State.segmentDone
  dsimp only
  split
  · exact hdone.cond hdone.frame
  · exact hdone

/-- What a serial confirmation keeps: anything each segment done keeps. -/
theorem confirm_keeps {P : State → Prop} (e : Entry) (hdone : ∀ s index, P s → P (s.segmentDone e index)) (serial : Serial)
    (h : P u) : P (u.confirm serial e) := by
  unfold State.confirm
  split
  · rename_i hin
    clear hin
    dsimp only
    generalize u.stream.window.take _ = through
    induction through generalizing u with
    | nil => exact h
    | cons f through ih => exact ih (hdone _ _ h)
  · exact h

theorem Loaded.confirm (h : Loaded u) (serial : Serial) (e : Entry) : Loaded (u.confirm serial e) :=
  confirm_keeps e (fun _ _ h => h.segmentDone e _) serial h

theorem confirm_jsq (serial : Serial) (e : Entry) (s : State) : (s.confirm serial e).jsq = s.jsq :=
  confirm_keeps (P := fun t => t.jsq = s.jsq) e (fun t index h => by simpa using h) serial rfl

theorem startAbort_running (h : Loaded u) (cause : Cause) (ending : Ending) : Running (u.startAbort cause ending) :=
  ⟨Loaded.dropRequest h.frame, by simp [State.startAbort], by simp [State.startAbort, State.leavePhase, State.jetOff_eq]⟩

theorem jetOff_closed (s : State) : s.jetOff.jsq.valve = .closed := rfl

theorem faultWhileCutting_agreeing (h : Loaded u) (f : FaultEvent) (ending : Ending) (e : Entry) :
    Agreeing (u.faultWhileCutting f ending e) := by
  have hshut : Loaded u.jetOff := h.frame
  cases f with
  | linkSilence => exact restAtDone_agreeing hshut.frame (by simp [jetOff_closed]) ..
  | linkCheck => exact restAtDone_agreeing hshut.frame (by simp [jetOff_closed]) ..
  | motionFault => exact restAtDone_agreeing hshut (jetOff_closed u) ..
  | starved serial => exact restAtDone_agreeing (hshut.confirm ..) (by rw [confirm_jsq]; exact jetOff_closed u) ..
  | _ => exact .inl (startAbort_running h ..)

/-- In ABORTING the jet is shut (R110). -/
theorem Running.closed (h : Running u) (hphase : u.jsq.phase.jetOpen = false) : u.jsq.valve = .closed :=
  valve_closed fun hopen => absurd (h.valve hopen) (by simp [hphase])

theorem faultWhileAborting_agreeing (h : Running u) (hphase : u.jsq.phase = .aborting) (f : FaultEvent) (e : Entry) :
    Agreeing (u.faultWhileAborting f e) := by
  have hv := h.closed (by rw [hphase]; rfl)
  have hseen : Loaded (u.modifyHead Entry.seeLaterFault) := h.loaded.modifyHead keepsOwn_seeLaterFault fun _ he => he
  have hstay : Agreeing (u.modifyHead Entry.seeLaterFault) :=
    .inl ⟨hseen, by simpa using h.phase, by simpa using h.valve⟩
  have hend : Agreeing (u.modifyHead Entry.seeLaterFault).endAbort := restAtDone_agreeing hseen (by simpa using hv) ..
  cases f with
  | starved serial => exact restAtDone_agreeing (hseen.confirm ..) (by rw [confirm_jsq]; simpa using hv) ..
  | motionFault => exact hend
  | linkSilence => exact hend
  | _ => exact hstay

theorem takeFault_agreeing (h : Agreeing u) (f : FaultEvent) : Agreeing (u.takeFault f) := by
  rcases h with hrun | hrest
  · obtain ⟨e, ha⟩ := hrun.loaded.head
    have hhold : Agreeing (u.immediateHold f.cause) := .inr (immediateHold_resting hrun.loaded f.cause)
    unfold State.takeFault
    rw [ha]
    dsimp only
    split
    case h_7 => exact faultWhileCutting_agreeing hrun.loaded ..
    case h_8 =>
      have hloaded : Loaded (u.setJsq { u.jsq with stopCause := some f.cause }) := hrun.loaded.frame
      exact faultWhileCutting_agreeing (hloaded.modifyHead keepsOwn_seeLaterFault fun _ he => he) ..
    case h_9 => exact faultWhileAborting_agreeing hrun ‹_› ..
    case h_10 => exact .inl hrun
    case h_11 => exact .inl hrun
    all_goals exact hhold
  · rw [State.takeFault_of_inactive hrest.inactive]
    exact .inr hrest

/-! ### Events of the sequencer -/

theorem openJet_running (h : Loaded u) (e : Entry) : Running (u.openJet e) := by
  unfold State.openJet
  dsimp only
  split
  · exact ⟨h.frame, by simp, by simp [Phase.jetOpen]⟩
  · exact ⟨h.frame, by simp, by simp [Phase.jetOpen]⟩

theorem afterPierce_running (h : Loaded u) (e : Entry) : Running (u.afterPierce e) := by
  unfold State.afterPierce
  split
  · exact ⟨h.frame, by simp, by simp [Phase.jetOpen]⟩
  · exact ⟨h.frame, by simp, by simp [Phase.jetOpen]⟩

theorem Running.settle (h : Running u) : Running u.settle := ⟨h.loaded.frame, by simpa using h.phase, by simpa using h.valve⟩

theorem pierceExpires_agreeing (h : Agreeing u) : Agreeing u.pierceExpires := by
  rcases State.pierceExpires_cases u with hc | ⟨e, ha, -, -, hc⟩ <;> rw [hc]
  · exact h
  · rcases h with hrun | hrest
    · exact .inl (afterPierce_running (hrun.loaded.frame) e).settle
    · rw [hrest.inactive] at ha; cases ha

theorem pierceAtOnce_agreeing (h : Agreeing u) (old : State) : Agreeing (u.pierceAtOnce old) :=
  (pierceExpires_agreeing h).cond h

/-- JSQ with its phase and its valve as they were. -/
structure SamePhase (j k : Sequencer) : Prop where
  phase : k.phase = j.phase := by rfl
  valve : k.valve = j.valve := by rfl

theorem Running.setJsq (h : Running u) {x : Sequencer} (hx : SamePhase u.jsq x) : Running (u.setJsq x) :=
  ⟨h.loaded.frame, by simpa [hx.phase] using h.phase, by simpa [hx.phase, hx.valve] using h.valve⟩

theorem Agreeing.setJsq (h : Agreeing u) {x : Sequencer} (hx : SamePhase u.jsq x) : Agreeing (u.setJsq x) := by
  rcases h with hrun | ⟨hs, hnone, hp, hv⟩
  · exact .inl (hrun.setJsq hx)
  · exact .inr ⟨hs.frame, hnone, by simpa [hx.phase] using hp, by simpa [hx.valve] using hv⟩

theorem positioningEnd_running (h : Running u) (e : Entry) : Running (u.positioningEnd e) := by
  unfold State.positioningEnd
  split
  · exact openJet_running h.loaded e
  · exact h

theorem onArrived_agreeing (h : Agreeing u) (serial : Serial) : Agreeing (u.onArrived serial) := by
  rcases h with hrun | hrest
  · obtain ⟨e, ha⟩ := hrun.loaded.head
    unfold State.onArrived
    rw [ha]
    exact Agreeing.cond (.inl (positioningEnd_running (hrun.setJsq {}) e)) (.inl hrun)
  · unfold State.onArrived
    rw [hrest.inactive]
    exact .inr hrest

theorem onPressureReady_agreeing (h : Agreeing u) : Agreeing u.onPressureReady := by
  unfold State.onPressureReady
  split
  · exact h
  · have hclosed : Agreeing (u.setJsq { u.jsq with wait := none }) := h.setJsq {}
    dsimp only
    split
    · exact hclosed
    · rename_i e ha
      rcases hclosed with hrun | hrest
      · split
        · exact .inl (positioningEnd_running hrun e)
        · exact .inl (openJet_running hrun.loaded e)
        · exact .inl ⟨hrun.loaded.frame, by simp, by simp [Phase.jetOpen]⟩
        · exact .inl hrun
      · rw [hrest.inactive] at ha; cases ha

theorem startRepierce_running (h : Running u) (hphase : u.jsq.phase.jetOpen = false) (e : Entry) : Running (u.startRepierce e) :=
  ⟨h.loaded.frame, by simp [State.startRepierce],
    by simp [State.startRepierce, pressureStep_jsq, h.closed hphase]⟩

theorem holdingEnd_agreeing (h : Agreeing u) : Agreeing u.holdingEnd := by
  unfold State.holdingEnd
  split
  · split
    · rename_i hcond
      rcases h with hrun | hrest
      · have hshut : Loaded u.jetOff := hrun.loaded.frame
        split
        · exact .inr (becomeHeld_resting hshut (jetOff_closed u) ..)
        · obtain ⟨e, rest, hq, he⟩ := hshut.active
          exact skipHead_agreeing hshut.sound (jetOff_closed u) hq (by simp [he])
      · rcases hrest.phase with hp | hp <;> simp [hp] at hcond
    · exact h
  · exact h

theorem sequencerSegDone_agreeing (h : Running u) (e : Entry) (p : Place) : Agreeing (u.sequencerSegDone e p) := by
  have hshut : Loaded u.jetOff := h.loaded.frame
  unfold State.sequencerSegDone
  dsimp only
  split
  · split
    · exact .inr (finish_resting hshut (jetOff_closed u))
    · exact Agreeing.cond (.inl ⟨hshut.frame, by simp, by simp [jetOff_closed]⟩) (.inl h)
  · rename_i hphase
    exact Agreeing.cond (.inl (startRepierce_running h (by rw [hphase]; rfl) e)) (.inl h)
  · split
    · exact .inr (finish_resting hshut (jetOff_closed u))
    · exact holdingEnd_agreeing (.inl h)
  · exact .inl h

/-! ### Holds, skips and resumes -/

theorem plannedStop_running (h : Loaded u) (ending : Ending) : Running (plannedStop ending u) :=
  ⟨(h.takeRequest (kind := .stop) (by simp)).frame rfl rfl rfl, by simp [plannedStop], by simp [plannedStop, Phase.jetOpen]⟩

theorem holdHead_agreeing (h : Agreeing u) (hv : holdHead u = some v) : Agreeing v := by
  unfold holdHead at hv
  split at hv
  · cases hv
  · rename_i e ha
    rcases h with hrun | hrest
    · split_ifs at hv <;> cases hv
      · exact .inl (plannedStop_running hrun.loaded _)
      · exact immediateRest_agreeing hrun.loaded ..
      · exact .inl hrun
    · rw [hrest.inactive] at ha; cases ha

theorem skipRequest_agreeing (h : Agreeing u) (hv : skipRequest u = some v) : Agreeing v := by
  unfold skipRequest at hv
  split at hv
  · cases hv
  · rename_i e rest hq
    rcases h with hrun | hrest
    · obtain ⟨x, others, hx, hactive⟩ := hrun.loaded.active
      rw [hq] at hx
      cases hx
      rw [hactive] at hv
      dsimp only at hv
      split_ifs at hv <;> cases hv
      · exact .inl (plannedStop_running hrun.loaded _)
      · exact immediateRest_agreeing hrun.loaded ..
      · exact .inl (hrun.setJsq {})
    · have hactive : e.state ≠ .active := fun he =>
        absurd hrest.inactive (by simp [State.activeEntry, hq, he])
      split at hv
      · exact absurd ‹_› hactive
      · cases hv; exact skipHead_agreeing hrest.sound hrest.valve hq (by simp [*])
      · cases hv; exact skipHead_agreeing hrest.sound hrest.valve hq (by simp [*])
      · cases hv

theorem resumeHead_agreeing (h : Agreeing u) (hfault : resumeFault u = none) : Agreeing (resumeHead u) := by
  unfold resumeFault at hfault
  unfold resumeHead
  cases hq : u.queue with
  | nil => simp [hq] at hfault
  | cons e rest =>
    have hheld : e.state = .held := by
      by_contra hne
      simp [hq, hne] at hfault
    rcases h with hrun | hrest
    · obtain ⟨x, others, hx, hactive⟩ := hrun.loaded.active
      rw [hq] at hx
      cases hx
      rw [hheld] at hactive; cases hactive
    · have hactive : Sound (u.modifyHead Entry.resume) := hrest.sound.modifyHead keepsOwn_resume fun x others hq' => by
        rw [hq] at hq'
        cases hq'
        simp [hheld, Entry.resume]
      have hloaded : Loaded ((u.modifyHead Entry.resume).setPlanner
          { (u.modifyHead Entry.resume).planner with stopTaken := false }) :=
        ⟨⟨queueLaw_of_map hactive.law rfl hactive.law.2.2.1 rfl, hactive.plan⟩, Entry.resume e, rest, by
          rw [State.setPlanner_queue, modifyHead_queue, hq], rfl⟩
      have hstarted : Loaded (((u.modifyHead Entry.resume).setPlanner
          { (u.modifyHead Entry.resume).planner with stopTaken := false }).startStream (e.resumePoint.getD ⟨0, 1⟩)) :=
        hloaded.frame
      exact pumpSilenceAtStart_agreeing (.inl (startSequence_running (hstarted.takeRequest (by simp))
        (by simpa using hrest.valve) ..))

/-! ### Frames and the pump's reports -/

theorem deliver_agreeing (h : Agreeing u) (p : Placed) : Agreeing (deliver p u) := by
  unfold deliver
  split
  case h_2 => exact h.setStream _
  case h_3 => exact Agreeing.cond (h.setJsq {}) h
  case h_4 =>
    unfold deliverContourEnd
    split
    · rename_i hphase
      rcases h with hrun | hrest
      · exact absurd hphase hrun.phase.2
      · exact runOn_agreeing ⟨hrest.sound.frame, hrest.inactive, .inl rfl, hrest.valve⟩
    · exact h
  all_goals exact h

theorem takeRequest_agreeing (h : Agreeing u) {kind : JobKind} (hk : kind ≠ .contour) : Agreeing (u.takeRequest kind) := by
  rcases h with hrun | hrest
  · exact .inl ⟨hrun.loaded.takeRequest hk, by simpa using hrun.phase, by simpa using hrun.valve⟩
  · unfold State.takeRequest
    rw [hrest.inactive]
    exact .inr hrest

theorem reportSegDone_agreeing (h : Agreeing u) (serial : Serial) : Agreeing (reportSegDone serial u) := by
  unfold reportSegDone
  split
  · refine Agreeing.cond ?_ (h.raise _)
    unfold acceptSegDone
    dsimp only
    rcases h with hrun | hrest
    · split
      · refine sequencerSegDone_agreeing ⟨Loaded.segmentDone hrun.loaded.frame .., ?_, ?_⟩ ..
        · simpa using hrun.phase
        · simpa using hrun.valve
      · exact Agreeing.setStream (.inl hrun) _
    · split
      · rename_i e ha
        cases hrest.inactive.symm.trans ha
      · exact Agreeing.setStream (.inr hrest) _
  · exact h.raise _

theorem reportStopped_agreeing (h : Agreeing u) (serial : Serial) : Agreeing (reportStopped serial u) := by
  unfold reportStopped
  split
  · rename_i e ha
    rcases h with hrun | hrest
    · split
      · rename_i hphase
        exact restAtDone_agreeing (hrun.loaded.confirm ..) (by rw [confirm_jsq]; exact hrun.closed (by rw [hphase]; rfl)) ..
      · exact .inl hrun
    · rw [hrest.inactive] at ha; cases ha
  · exact h

theorem takeReport_agreeing (h : Agreeing u) (r : Report) : Agreeing (takeReport r u) := by
  cases r with
  | nothing => exact h
  | segDone serial => exact reportSegDone_agreeing h serial
  | arrived serial => exact onArrived_agreeing h serial
  | stopped serial => exact reportStopped_agreeing h serial
  | holdReq =>
    unfold takeReport
    cases hv : holdHead u with
    | none => exact h
    | some t => exact holdHead_agreeing h hv
  | resumeReq =>
    show Agreeing (if resumeFault u = none then resumeHead u else u)
    split
    · exact resumeHead_agreeing h ‹_›
    · exact h
  | skipReq =>
    unfold takeReport
    cases hv : skipRequest u with
    | none => exact h
    | some t => exact skipRequest_agreeing h hv
  | motionFault => exact takeFault_agreeing h _
  | starvedStop serial => exact (takeFault_agreeing (h.raise _) _).cond h
  | linkError => exact takeFault_agreeing (h.raise _) _
  | eventAck mask => exact h.setAttention _

theorem takeOverride_agreeing (h : Agreeing u) (raw : Byte) : Agreeing (takeOverride raw u) :=
  (takeRequest_agreeing (h.setMotion _) (by simp)).cond (h.setMotion _)

theorem completeExchange_agreeing (h : Agreeing u) (x : Exchange) (frame : Vector Byte 28) :
    Agreeing (completeExchange x frame u) := by
  have hended : Agreeing (endExchange u) := h.setMotion _
  have hdelivered := hended.cond (c := x.cancelled = true) (deliver_agreeing hended x.placed)
  refine pierceAtOnce_agreeing (Agreeing.settle ?_) u
  unfold judgeFrame
  split
  · exact takeReport_agreeing (takeOverride_agreeing (hdelivered.setMotion _) _) _
  · exact takeFault_agreeing (hdelivered.raise _) _

theorem acceptStatus_agreeing (h : Agreeing u) (r : PumpReport) : Agreeing (acceptStatus r u) := by
  have hheard : Agreeing (pumpHeard u) := h.setPump _
  have hcode : Agreeing (judgeFaultCode r (pumpHeard u)) :=
    hheard.cond (takeFault_agreeing (hheard.cond (hheard.raise _)) _)
  have hready : Agreeing (judgeReady r (judgeFaultCode r (pumpHeard u))) :=
    (onPressureReady_agreeing (hcode.setPump _)).cond hcode
  have hsag : Agreeing (judgeSag r (judgeReady r (judgeFaultCode r (pumpHeard u)))) :=
    ((hready.setPump _).cond (takeFault_agreeing ((hready.setPump _).raise _) _)).cond (hready.setPump _)
  have hflow : Agreeing (judgeFlow r (judgeSag r (judgeReady r (judgeFaultCode r (pumpHeard u))))) :=
    (hsag.raise _).cond hsag
  exact pierceAtOnce_agreeing (hflow.setPump _).settle u

/-! ### The completion of jobs and commits, and the commands of the queue -/

/-- The engine chooses again with no job in flight and no entry PLANNING. -/
theorem chooseWork_agreeing (h : Agreeing u) : Agreeing u.chooseWork := by
  rcases h with hrun | hrest
  · exact .inl ⟨hrun.loaded.chooseWork, by simpa using hrun.phase, by simpa using hrun.valve⟩
  · exact .inr ⟨hrest.sound.chooseWork, chooseWork_inactive hrest.inactive, by simpa using hrest.phase,
      by simpa using hrest.valve⟩

/-- The queue and the plan in flight have changed, but agree; JSQ is as it was, and so is whether the head is ACTIVE. -/
structure Reworked (s t : State) : Prop where
  sound : Sound t
  active : t.activeEntry.isSome = s.activeEntry.isSome
  jsq : t.jsq = s.jsq := by simp

theorem Agreeing.rework (h : Agreeing u) (hr : Reworked u v) : Agreeing v := by
  obtain ⟨hs, ha, hj⟩ := hr
  rcases h with ⟨hl, hphase, hvalve⟩ | ⟨-, hnone, hphase, hvalve⟩
  · refine .inl ⟨⟨hs, isSome_activeEntry.1 (ha.trans (isSome_activeEntry.2 hl.active))⟩, ?_, ?_⟩ <;> rw [hj]
    · exact hphase
    · exact hvalve
  · refine .inr ⟨hs, ?_, ?_, ?_⟩
    · rw [← Option.not_isSome_iff_eq_none, ha, hnone]
      simp
    · rw [hj]; exact hphase
    · rw [hj]; exact hvalve

/-- A change of every entry that leaves ACTIVE entries ACTIVE and makes none. -/
theorem activeEntry_map {f : Entry → Entry} (hst : ∀ e, (f e).state = .active ↔ e.state = .active)
    (hq : v.queue = u.queue.map f) : v.activeEntry.isSome = u.activeEntry.isSome := by
  unfold State.activeEntry
  rw [hq]
  cases u.queue with
  | nil => rfl
  | cons e rest =>
    simp only [List.map_cons, if_congr (hst e) rfl rfl]
    split <;> rfl

/-- A change of the entries with one contour_id, none of them an ACTIVE head, into a state that is not ACTIVE. -/
theorem activeEntry_modifyEntry {f : Entry → Entry} {id : Nat} (hf : ∀ e, (f e).state ≠ .active)
    (hne : ∀ e rest, u.queue = e :: rest → e.state = .active → e.contourId ≠ id) (hq : v.queue = (u.modifyEntry id f).queue) :
    v.activeEntry.isSome = u.activeEntry.isSome := by
  unfold State.activeEntry
  rw [hq, State.modifyEntry, State.setQueue_queue]
  cases hu : u.queue with
  | nil => rfl
  | cons e rest =>
    rw [List.map_cons]
    by_cases hid : e.contourId = id
    · have he : e.state ≠ .active := fun he => hne e rest hu he hid
      simp [hid, hf, he]
    · simp only [if_neg hid]

theorem planInFlight_abandonPlan (id : Nat) (s : State) :
    planInFlight (s.abandonPlan id).planner = (planInFlight s.planner).filter fun x => x != id := by
  unfold State.abandonPlan planInFlight
  cases hjob : s.planner.job with
  | none => simp [hjob]
  | some job =>
    by_cases hk : job.kind = .contour
    · by_cases hid : job.contour = id <;> simp [hk, hid, hjob]
    · simp [hk, hjob]

/-- The engine is sound where the PLANNING entries have, one by one, the plan in flight. -/
theorem Sound.of_mem (h : QueueLaw u) (hmem : ∀ id, id ∈ planningIds u.queue ↔ id ∈ planInFlight u.planner) : Sound u := by
  refine ⟨h, (planningIds_eq_iff h).2 ⟨fun job hjob hk => ?_, fun e he hst => ?_⟩⟩
  · obtain ⟨e, he, hst, hid⟩ := mem_planningIds.1 ((hmem _).2 (mem_planInFlight.2 ⟨job, hjob, hk, rfl⟩))
    exact ⟨e, he, hid, hst⟩
  · exact mem_planInFlight.1 ((hmem _).1 (mem_planningIds.2 ⟨e, he, hst, rfl⟩))

theorem Agreeing.sound (h : Agreeing u) : Sound u := h.elim (fun h => h.loaded.sound) Resting.sound

/-- An entry whose contour plan has completed (R102). -/
def becomesReady (stamp : Stamp) (e : Entry) : Entry :=
  { e with state := .ready, stamp := some stamp, overspeedCount := some 0 }

/-- A contour plan's words, entry and event, before the engine chooses again (R102). -/
def planWritten (job : Job) (e : Entry) (s : State) : State :=
  (((s.setStore (writeWords e.pages s.store (s.wordsOf job e))).modifyEntry job.contour (becomesReady job.stamp)).raise
    .planDone).setPlanner { s.planner with job := none }

theorem completeContourPlan_eq (job : Job) (e : Entry) (s : State) :
    completeContourPlan job e s = (match (planWritten job e s).chooseWork.queue with
      | h :: _ =>
        if h.contourId = job.contour then (planWritten job e s).chooseWork.tryActivate else (planWritten job e s).chooseWork
      | [] => (planWritten job e s).chooseWork).settle := rfl

@[simp] theorem planWritten_jsq (job : Job) (e : Entry) (s : State) : (planWritten job e s).jsq = s.jsq := by
  simp [planWritten]

theorem course_planWritten (job : Job) (e : Entry) (s : State) : Course s (planWritten job e s) :=
  (((Course.refl.writeWords e.pages _).modifyEntry job.contour (f := becomesReady job.stamp)
    ⟨fun _ => rfl, fun _ => rfl, fun _ => rfl⟩ fun _ he => Bool.noConfusion he).raise _).setPlanner _

theorem planWritten_agreeing (h : Agreeing u) {job : Job} (hjob : u.planner.job = some job) (hk : job.kind = .contour)
    (e : Entry) : Agreeing (planWritten job e u) := by
  refine h.rework { sound := ⟨queueLaw_course h.sound.law (course_planWritten job e u), ?_⟩, active := ?_ }
  · unfold planWritten
    rw [State.setPlanner_queue, State.raise_queue, State.modifyEntry, State.setQueue_queue,
      planningIds_leave (f := becomesReady job.stamp) (fun _ => by simp [becomesReady]), State.setStore_queue, h.sound.plan,
      planInFlight, hjob]
    simp [hk, planInFlight]
  · exact activeEntry_modifyEntry (f := becomesReady job.stamp) (fun _ => by simp [becomesReady]) (fun x rest hq hx =>
      inFlight_behind h.sound hq (by simp [hx]) hjob hk) rfl

theorem completeContourPlan_agreeing (h : Agreeing u) {job : Job} (hjob : u.planner.job = some job)
    (hk : job.kind = .contour) (e : Entry) : Agreeing (completeContourPlan job e u) := by
  have hchosen := chooseWork_agreeing (planWritten_agreeing h hjob hk e)
  rw [completeContourPlan_eq]
  refine Agreeing.settle ?_
  split
  · exact (tryActivate_of_agreeing hchosen).cond hchosen
  · exact hchosen

/-- The stamp and the count of flagged words that an active job leaves its entry (R103). -/
def takesWords (stamp : Stamp) (store : Store) (e : Entry) : Entry :=
  { e with stamp := some stamp, overspeedCount := some (overspeedCount store e.pages) }

theorem keepsOwn_takesWords (stamp : Stamp) (store : Store) : KeepsOwn (takesWords stamp store) :=
  ⟨fun _ => rfl, fun _ => rfl, fun _ => rfl⟩

/-- An active job's words, entry and event (R103). -/
def jobWritten (job : Job) (e : Entry) (s : State) : State :=
  let store := writeWords e.pages s.store (s.wordsOf job e)
  let t := (s.setStore store).modifyHead (takesWords job.stamp store)
  if (s.wordsOf job e).any fun w => w.2.overspeed then t.raise .overspeed else t

theorem completeActiveJob_eq (job : Job) (e : Entry) (s : State) :
    completeActiveJob job e s = (((handStopPlace job (jobWritten job e s)).setPlanner
      { (handStopPlace job (jobWritten job e s)).planner with job := none }).chooseWork).holdingEnd.settle := rfl

theorem jobWritten_cases (job : Job) (e : Entry) (s : State) :
    jobWritten job e s = ((s.setStore (writeWords e.pages s.store (s.wordsOf job e))).modifyHead
        (takesWords job.stamp (writeWords e.pages s.store (s.wordsOf job e))))
      ∨ jobWritten job e s = ((s.setStore (writeWords e.pages s.store (s.wordsOf job e))).modifyHead
        (takesWords job.stamp (writeWords e.pages s.store (s.wordsOf job e)))).raise .overspeed :=
  (ite_eq_or_eq ..).symm

theorem Agreeing.modifyHead {f : Entry → Entry} (h : Agreeing u) (hf : KeepsOwn f) (hst : ∀ e, (f e).state = e.state) :
    Agreeing (u.modifyHead f) := by
  refine h.rework { sound := h.sound.modifyHead hf fun e _ _ => by rw [hst], active := ?_ }
  unfold State.activeEntry
  rw [modifyHead_queue]
  cases u.queue with
  | nil => rfl
  | cons e rest =>
    simp only [hst]
    split <;> rfl

theorem jobWritten_agreeing (h : Agreeing u) (job : Job) (e : Entry) : Agreeing (jobWritten job e u) := by
  have hstored : Agreeing (u.setStore (writeWords e.pages u.store (u.wordsOf job e))) := h.frame
  have hstamped := hstored.modifyHead (keepsOwn_takesWords job.stamp (writeWords e.pages u.store (u.wordsOf job e))) fun _ => rfl
  rcases jobWritten_cases job e u with hc | hc <;> rw [hc]
  · exact hstamped
  · exact hstamped.raise _

@[simp] theorem jobWritten_planner (job : Job) (e : Entry) (s : State) : (jobWritten job e s).planner = s.planner := by
  rcases jobWritten_cases job e s with hc | hc <;> rw [hc] <;> simp

theorem holdAtDue_agreeing (h : Agreeing u) : Agreeing u.holdAtDue := h.frame

theorem handStopPlace_agreeing (h : Agreeing u) (job : Job) : Agreeing (handStopPlace job u) := by
  unfold handStopPlace
  split
  · exact holdAtDue_agreeing (h.setStream _)
  · exact h

theorem handStopPlace_planner (job : Job) (s : State) : (handStopPlace job s).planner = s.planner := by
  unfold handStopPlace
  split <;> simp

/-- An active job leaves the engine (R103). -/
theorem jobDone_agreeing (h : Agreeing u) {job : Job} (hjob : u.planner.job = some job) (hk : job.kind ≠ .contour) :
    Agreeing (u.setPlanner { u.planner with job := none }) := by
  refine h.rework ⟨⟨queueLaw_of_map h.sound.law rfl h.sound.law.2.2.1 rfl, ?_⟩, rfl, rfl⟩
  rw [State.setPlanner_queue, h.sound.plan]
  simp [planInFlight, hjob, hk]

theorem completeActiveJob_agreeing (h : Agreeing u) {job : Job} (hjob : u.planner.job = some job)
    (hk : job.kind ≠ .contour) (e : Entry) : Agreeing (completeActiveJob job e u) := by
  rw [completeActiveJob_eq]
  have hwritten := handStopPlace_agreeing (jobWritten_agreeing h job e) job
  exact (holdingEnd_agreeing (chooseWork_agreeing (jobDone_agreeing hwritten
    (by rw [handStopPlace_planner, jobWritten_planner, hjob]) hk))).settle

/-! ### Commits -/

/-- The state a completed commit leaves an entry in: a replaced entry that had been planned waits for a plan (R7). -/
theorem afterCommit_state (c : Commit) (result : CommitResult) (e : Entry) :
    (afterCommit c result e).state
      = if (c.bound = true ∧ e.contourId = c.contour) ∧ (result = .ok ∧ c.kind = .replace) ∧ e.state.planned = true
        then .waitingPlan else e.state := by
  unfold afterCommit
  by_cases hown : c.bound = true ∧ e.contourId = c.contour
  · rw [if_pos hown]
    unfold Entry.takeCommit
    by_cases hr : result = .ok
    · cases hk : c.kind with
      | append => simp [hr]
      | replace => by_cases hp : e.state.planned = true <;> simp [hr, hp, hown, Entry.replan]
    · simp [hr]
  · simp [hown]

theorem commitToEntry_planner (c : Commit) (result : CommitResult) (s : State) :
    (commitToEntry c result s).planner
      = if c.bound = true ∧ result = .ok ∧ c.kind = .replace then (s.abandonPlan c.contour).planner else s.planner := by
  unfold commitToEntry
  by_cases hb : c.bound = true
  · by_cases hr : result = .ok ∧ c.kind = .replace <;> simp [hb, hr]
  · simp [hb]

/-- A commit's effect on its entry, and on a plan in flight for it (R7, R105). -/
theorem commitToEntry_agreeing (h : Agreeing u) (c : Commit) (result : CommitResult) :
    Agreeing (commitToEntry c result u) := by
  have hlaw : QueueLaw (commitToEntry c result u) := by
    refine queueLaw_of_map h.sound.law ?_ ?_ (by simp)
    · rw [commitToEntry_queue, List.map_map]
      exact List.map_congr_left fun e _ => (afterCommit_own c result e).1
    · rw [commitToEntry_queue, ← List.map_tail]
      intro e he
      obtain ⟨x, hx, rfl⟩ := List.mem_map.1 he
      have hx' := h.sound.law.2.2.1 x hx
      by_contra hne
      have := (afterCommit_own c result x).2.2.1 (by simpa using hne)
      rw [this] at hx'
      cases hx'
  refine h.rework {
    sound := ⟨hlaw, ?_⟩
    active := activeEntry_map (f := afterCommit c result) (fun e => ?_) (commitToEntry_queue ..) }
  · rw [commitToEntry_queue, commitToEntry_planner]
    by_cases hr : c.bound = true ∧ result = .ok ∧ c.kind = .replace
    · have hstate : ∀ e, afterCommit c result e = if e.contourId = c.contour then Entry.takeCommit c result e else e := fun e => by
        simp [afterCommit, hr]
      have hleft : ∀ e, (Entry.takeCommit c result e).state ≠ .planning := fun e => by
        unfold Entry.takeCommit
        by_cases hp : e.state.planned = true
        · simp [hr, hp, Entry.replan]
        · cases hst : e.state <;> simp_all [EntryState.planned]
      rw [if_pos hr, planInFlight_abandonPlan, ← h.sound.plan, ← planningIds_leave hleft]
      exact congrArg _ (List.map_congr_left fun e _ => hstate e)
    · rw [if_neg hr, ← h.sound.plan]
      refine planningIds_map (fun e => (afterCommit_own c result e).1) (fun e => ?_) _
      rw [afterCommit_state, if_neg fun hcond => hr ⟨hcond.1.1, hcond.2.1⟩]
  · rw [afterCommit_state]
    split
    · rename_i hcond
      cases hst : e.state <;> simp_all [EntryState.planned]
    · rfl

theorem commitToStore_agreeing (h : Agreeing u) (c : Commit) (result : CommitResult) :
    Agreeing (commitToStore c result u) := h.frame

theorem completeCommit_agreeing (h : Agreeing u) (c : Commit) (rest : List Commit) :
    Agreeing (completeCommit c rest u) := by
  have hentry := commitToEntry_agreeing (commitToStore_agreeing h c (commitResult c u)) c (commitResult c u)
  have hfree : Agreeing (takeWaitingCommit rest ((commitToBuffer c (commitResult c u) (commitToEntry c (commitResult c u)
    (commitToStore c (commitResult c u) u))).raise .commitDone)) := hentry.frame
  have hchosen := chooseWork_agreeing hfree
  unfold completeCommit
  refine Agreeing.settle ?_
  unfold activateAfterCommit
  split
  · exact (tryActivate_of_agreeing hchosen).cond hchosen
  · exact hchosen

/-! ### The commands of the queue -/

/-- A state of an entry that is neither PLANNING nor one that has begun. -/
structure Waits (st : EntryState) : Prop where
  begun : st.begun = false
  planning : st ≠ .planning

/-- A command that changes an entry to another state than PLANNING and ACTIVE, from another state than these. -/
theorem modifyEntry_agreeing (h : Agreeing u) {id : Nat} {e : Entry} {f : Entry → Entry} (hf : KeepsOwn f)
    (he : u.entry id = some e) (hst : Waits e.state) (hnew : ∀ x, Waits (f x).state) : Agreeing (u.modifyEntry id f) := by
  obtain ⟨hmem, rfl⟩ := entry_some he
  have hcourse := Course.refl.modifyEntry (s := u) e.contourId hf fun x hx => absurd ((hnew x).begun.symm.trans hx) Bool.false_ne_true
  refine h.rework { sound := ⟨queueLaw_course h.sound.law hcourse, ?_⟩, active := ?_ }
  · rw [State.modifyEntry, State.setQueue_queue, planningIds_leave fun x => (hnew x).planning, h.sound.plan, State.setQueue_planner]
    refine List.filter_eq_self.2 fun id hid => ?_
    simp only [bne_iff_ne]
    rintro rfl
    exact h.sound.not_inFlight hmem hst.planning hid
  · refine activeEntry_modifyEntry (fun x hx => ?_) (fun x rest hq hx hid => ?_) rfl
    · have := (hnew x).begun
      rw [hx] at this
      cases this
    · have hsame : x = e := List.inj_on_of_nodup_map h.sound.law.2.1 (by simp [hq]) hmem hid
      rw [← hsame, hx] at hst
      exact absurd hst.begun (by simp [EntryState.begun])

/-- Taking an entry that has not begun out of the queue leaves an ACTIVE head, and makes none. -/
theorem activeEntry_filter {e : Entry} (h : QueueLaw u) (he : e ∈ u.queue) (hb : e.state.begun = false)
    (hq : v.queue = u.queue.filter fun x => x.contourId != e.contourId) :
    v.activeEntry.isSome = u.activeEntry.isSome := by
  unfold State.activeEntry
  rw [hq]
  have htail := h.2.2.1
  cases hu : u.queue with
  | nil => rfl
  | cons x rest =>
    by_cases hid : x.contourId = e.contourId
    · have hx : x = e := List.inj_on_of_nodup_map h.2.1 (by simp [hu]) he hid
      subst hx
      rw [List.filter_cons_of_neg (by simp)]
      have hinactive : x.state ≠ .active := fun hx => by rw [hx] at hb; cases hb
      rw [hu] at htail
      have hfirst : ∀ y ys, rest.filter (fun z => z.contourId != x.contourId) = y :: ys → y.state ≠ .active := by
        intro y ys hy hactive
        have hmem : y ∈ rest := List.mem_of_mem_filter (p := fun z => z.contourId != x.contourId) (by rw [hy]; simp)
        have := htail y hmem
        rw [hactive] at this
        cases this
      split
      · rename_i y ys hy
        simp [hfirst y ys hy, hinactive]
      · simp [hinactive]
    · rw [List.filter_cons_of_pos (by simpa using hid)]

/-- An entry that has not begun is removed, its plan abandoned first. -/
theorem removeUnbegun_agreeing (h : Agreeing u) {e : Entry} (he : e ∈ u.queue) (hb : e.state.begun = false)
    (outcome : Option Outcome) : Agreeing ((u.abandonPlan e.contourId).removeEntry e outcome) := by
  have hcourse := (Course.refl.abandonPlan (u := u) e.contourId).removeEntry (e := e) (by simpa using he) outcome
  refine h.rework {
    sound := ⟨queueLaw_course h.sound.law hcourse, ?_⟩
    active := activeEntry_filter h.sound.law he hb ?_ }
  · rw [removeEntry_queue, planningIds_remove, State.abandonPlan_queue, State.removeEntry_planner, planInFlight_abandonPlan,
      h.sound.plan]
  · rw [removeEntry_queue, State.abandonPlan_queue]

/-- Placing an entry that has not begun leaves an ACTIVE head, and makes none (R4). -/
theorem activeEntry_place {e : Entry} (before : Option Nat) (hb : e.state.begun = false)
    (hq : v.queue = place e before u.queue) : v.activeEntry.isSome = u.activeEntry.isSome := by
  have hinactive : e.state ≠ .active := fun he => by rw [he] at hb; cases hb
  unfold State.activeEntry
  rw [hq]
  cases u.queue with
  | nil => cases before <;> simp [place, hinactive]
  | cons x rest =>
    unfold place
    cases before with
    | none => by_cases hx : x.state = .active <;> simp [hx]
    | some id =>
      by_cases hid : x.contourId = id
      · by_cases hbegun : x.state.begun = true
        · by_cases hx : x.state = .active <;> simp_all [EntryState.begun]
        · have hx : x.state ≠ .active := fun hx => by rw [hx] at hbegun; exact hbegun rfl
          simp [hid, hbegun, hx, hinactive]
      · by_cases hx : x.state = .active <;> simp [hid, hx]

theorem mem_planningIds_of_mem {list list' : List Entry} (h : ∀ e, e ∈ list' → e.state = .planning → e ∈ list) {id : Nat}
    (hid : id ∈ planningIds list') : id ∈ planningIds list := by
  obtain ⟨e, he, hst, rfl⟩ := mem_planningIds.1 hid
  exact mem_planningIds.2 ⟨e, h e he hst, hst, rfl⟩

theorem open_agreeing (h : Agreeing u) {e : Entry} (before : Option Nat) (hlen : u.queue.length < 48)
    (hnew : u.entry e.contourId = none) (he : e.state = .loading) : Agreeing (u.setQueue (place e before u.queue)) := by
  have hlaw : QueueLaw (u.setQueue (place e before u.queue)) :=
    queueLaw_place h.sound.law (.refl _) hlen (entry_none hnew) (by rw [he]; rfl) rfl rfl
  refine h.rework { sound := .of_mem hlaw fun id => ?_, active := activeEntry_place before (by rw [he]; rfl) rfl }
  rw [State.setQueue_planner, ← h.sound.plan]
  refine ⟨mem_planningIds_of_mem fun x hx hst => ?_, mem_planningIds_of_mem fun x hx _ => ?_⟩
  · rcases List.mem_cons.1 ((place_perm e before u.queue).mem_iff.1 hx) with rfl | hx
    · rw [he] at hst; cases hst
    · exact hx
  · exact (place_perm e before u.queue).mem_iff.2 (List.mem_cons_of_mem _ hx)

theorem move_agreeing (h : Agreeing u) {e : Entry} (before : Option Nat) (he : e ∈ u.queue) (hb : e.state.begun = false) :
    Agreeing (u.setQueue (place e before (u.queue.filter fun x => x.contourId != e.contourId))) := by
  have hperm := (place_perm e before (u.queue.filter fun x => x.contourId != e.contourId)).trans
    (perm_cons_filter h.sound.law.2.1 he).symm
  refine h.rework { sound := .of_mem (queueLaw_move (.moved u e before he hb) h.sound.law) fun id => ?_, active := ?_ }
  · rw [State.setQueue_planner, ← h.sound.plan]
    exact ⟨mem_planningIds_of_mem fun x hx _ => hperm.mem_iff.1 hx, mem_planningIds_of_mem fun x hx _ => hperm.mem_iff.2 hx⟩
  · exact (activeEntry_place (u := u.setQueue (u.queue.filter fun x => x.contourId != e.contourId)) before hb rfl).trans
      (activeEntry_filter h.sound.law he hb rfl)

/-- A MAT_WRITE leaves the engine's job, or abandons it. -/
theorem abandonUser_cases (i : Nat) (s : State) :
    abandonUser i s = s ∨ abandonUser i s = s.setPlanner { s.planner with job := none } := by
  unfold abandonUser
  split
  · split
    · rcases State.abandonPlan_cases (_ : Job).contour s with hc | ⟨_, -, -, -, hc⟩
      · exact .inl hc
      · exact .inr hc
    · exact .inl rfl
  · exact .inl rfl

@[simp] theorem abandonUser_queue (i : Nat) (s : State) : (abandonUser i s).queue = s.queue := by
  rcases abandonUser_cases i s with hc | hc <;> rw [hc]; rfl
@[simp] theorem abandonUser_finished (i : Nat) (s : State) : (abandonUser i s).finished = s.finished := by
  rcases abandonUser_cases i s with hc | hc <;> rw [hc]; rfl
@[simp] theorem abandonUser_jsq (i : Nat) (s : State) : (abandonUser i s).jsq = s.jsq := by
  rcases abandonUser_cases i s with hc | hc <;> rw [hc]; rfl

/-- The plan that a MAT_WRITE leaves in flight is not that of a PLANNING user of the record (R57, R105). -/
theorem mem_planInFlight_abandonUser {i id : Nat} :
    id ∈ planInFlight (abandonUser i u).planner ↔ id ∈ planInFlight u.planner
      ∧ ¬ ∃ e ∈ u.queue, (returnsAtWrite i e = true ∧ e.state = .planning) ∧ e.contourId = id := by
  unfold abandonUser
  cases hjob : u.planner.job with
  | none => simp [planInFlight, hjob]
  | some job =>
    have hone : id ∈ planInFlight u.planner → id = job.contour := fun hid => by
      obtain ⟨job', hjob', -, rfl⟩ := mem_planInFlight.1 hid
      rw [hjob] at hjob'
      cases hjob'
      rfl
    dsimp only
    split
    · rename_i hany
      obtain ⟨e, he, hret⟩ := List.any_eq_true.1 hany
      simp only [Bool.and_eq_true, beq_iff_eq] at hret
      rw [planInFlight_abandonPlan, List.mem_filter]
      refine ⟨fun ⟨hid, hne⟩ => absurd (hone hid) (by simpa using hne), fun ⟨hid, hnone⟩ => ?_⟩
      exact absurd ⟨e, he, hret.1, by rw [hone hid, hret.2]⟩ hnone
    · rename_i hany
      refine ⟨fun hid => ⟨hid, ?_⟩, And.left⟩
      rintro ⟨e, he, hret, heid⟩
      refine hany (List.any_eq_true.2 ⟨e, he, ?_⟩)
      simp [hret, heid, hone hid]

/-- The planned users of a rewritten record return to WAITING_PLAN, the PLANNING one with its plan (R57, R105). -/
theorem replanUsers_agreeing (h : Agreeing u) (i : Nat) :
    Agreeing ((abandonUser i u).setQueue
      ((abandonUser i u).queue.map fun e => if returnsAtWrite i e then e.replan else e)) := by
  have hstate : ∀ e : Entry, (if returnsAtWrite i e then e.replan else e).state
      = if returnsAtWrite i e then .waitingPlan else e.state := fun e => by split <;> rfl
  have hid : ∀ e : Entry, (if returnsAtWrite i e then e.replan else e).contourId = e.contourId := fun e => by
    split <;> rfl
  have hlaw : QueueLaw ((abandonUser i u).setQueue
      ((abandonUser i u).queue.map fun e => if returnsAtWrite i e then e.replan else e)) := by
    refine queueLaw_of_map h.sound.law (by simp only [State.setQueue_queue, abandonUser_queue, List.map_map, Function.comp_def, hid]) ?_ (by simp)
    simp only [State.setQueue_queue, abandonUser_queue, ← List.map_tail]
    intro e he
    obtain ⟨x, hx, rfl⟩ := List.mem_map.1 he
    rw [hstate]
    split
    · rfl
    · exact h.sound.law.2.2.1 x hx
  refine h.rework {
    sound := .of_mem hlaw fun id => ?_
    active := activeEntry_map (fun e => ?_) (by rw [State.setQueue_queue, abandonUser_queue]) }
  · rw [State.setQueue_planner, mem_planInFlight_abandonUser, ← h.sound.plan, State.setQueue_queue, abandonUser_queue]
    simp only [mem_planningIds, List.mem_map]
    constructor
    · rintro ⟨_, ⟨e, he, rfl⟩, hst, heid⟩
      rw [hstate] at hst
      rw [hid] at heid
      by_cases hret : returnsAtWrite i e = true
      · simp [hret] at hst
      · rw [if_neg hret] at hst
        refine ⟨⟨e, he, hst, heid⟩, ?_⟩
        rintro ⟨x, hx, ⟨hxret, -⟩, hxid⟩
        exact hret (List.inj_on_of_nodup_map h.sound.law.2.1 hx he (hxid.trans heid.symm) ▸ hxret)
    · rintro ⟨⟨e, he, hst, heid⟩, hnone⟩
      have hret : ¬ returnsAtWrite i e = true := fun hret => hnone ⟨e, he, ⟨hret, hst⟩, heid⟩
      exact ⟨_, ⟨e, he, rfl⟩, by rw [hstate, if_neg hret, hst], by rw [hid, heid]⟩
  · rw [hstate]
    split
    · rename_i hret
      cases hst : e.state <;> simp_all [returnsAtWrite, EntryState.planned]
    · rfl

theorem filterRemoves_agreeing (taken : List Entry) (h : Agreeing u) (hnodup : (taken.map Entry.contourId).Nodup)
    (hin : ∀ e ∈ taken, e ∈ u.queue ∧ e.state.begun = false) : Agreeing (taken.foldl filterRemove u) := by
  induction taken generalizing u with
  | nil => exact h
  | cons e taken ih =>
    rw [List.map_cons, List.nodup_cons] at hnodup
    obtain ⟨he, hb⟩ := hin e List.mem_cons_self
    refine ih (removeUnbegun_agreeing h he hb (some .skipped)) hnodup.2 fun x hx => ?_
    obtain ⟨hmem, hbegun⟩ := hin x (List.mem_cons_of_mem _ hx)
    refine ⟨?_, hbegun⟩
    rw [filterRemove, removeEntry_queue, State.abandonPlan_queue, List.mem_filter]
    exact ⟨hmem, by simpa using fun hid => hnodup.1 (List.mem_map.2 ⟨x, hx, hid⟩)⟩

/-- A part without entries and with its jet shut. -/
theorem empty_agreeing (hq : u.queue = []) (hf : u.finished = []) (hjob : u.planner.job = none) (hphase : u.jsq.phase = .idle)
    (hv : u.jsq.valve = .closed) : Agreeing u :=
  .inr ⟨⟨⟨by simp [hq], by simp [hq], by simp [hq], by simp [hf]⟩, by simp [hq, planningIds, planInFlight, hjob]⟩,
    by simp [State.activeEntry, hq], .inl hphase, hv⟩

theorem Agreeing.issueIdlePressure (h : Agreeing u) : Agreeing u.issueIdlePressure := h.frame

theorem jobReset_agreeing (s : State) : Agreeing (jobResetCommand s).2 := by
  rw [jobResetCommand_eq]
  exact Agreeing.issueIdlePressure (empty_agreeing (by rw [State.jetOff_queue]; rfl) (by rw [State.jetOff_finished]; rfl)
    (by rw [State.jetOff_planner]; rfl) rfl rfl)

theorem Agreeing.setBuffer (h : Agreeing u) (name : BufferName) (b : Buffer) : Agreeing (u.setBuffer name b) := h.frame
theorem Agreeing.setFreePages (h : Agreeing u) (x : List Nat) : Agreeing (u.setFreePages x) := h.frame
theorem Agreeing.changeCounter (h : Agreeing u) (i : Fin 4) (f : Counter → Counter) : Agreeing (changeCounter i f u) :=
  h.frame (by simp [Machine.changeCounter]) (by simp [Machine.changeCounter]) (by simp [Machine.changeCounter])
    (by simp [Machine.changeCounter])

/-- A change of an entry that keeps its state. -/
theorem Agreeing.modifyEntry (h : Agreeing u) (id : Nat) {f : Entry → Entry} (hf : KeepsOwn f)
    (hst : ∀ e, (f e).state = e.state) : Agreeing (u.modifyEntry id f) := by
  have hstate : ∀ e, (if e.contourId = id then f e else e).state = e.state := fun e => by
    split
    · exact hst e
    · rfl
  have hid : ∀ e, (if e.contourId = id then f e else e).contourId = e.contourId := fun e => by
    split
    · exact hf.contourId e
    · rfl
  refine h.rework {
    sound := ⟨queueLaw_course h.sound.law (Course.refl.modifyEntry id hf fun e => by rw [hst]; exact fun hb => hb), ?_⟩
    active := activeEntry_map (fun e => by rw [hstate]) rfl }
  rw [State.modifyEntry, State.setQueue_queue, planningIds_map hid fun e => by rw [hstate]]
  exact h.sound.plan

theorem acceptCommit_agreeing (h : Agreeing u) {c : Commit} {r : Reply} (hr : r = acceptCommit c u) : Agreeing r.2 := by
  rw [hr]
  exact Agreeing.modifyEntry (Agreeing.setBuffer (h.frame (v := u.setEngine (u.engine ++ [c]))) _ _) c.contour
    ⟨fun _ => rfl, fun _ => rfl, fun _ => rfl⟩ fun _ => rfl

theorem writeMaterial_agreeing (h : Agreeing u) (i : Fin 24) (record : Material) : Agreeing (writeMaterial i record u) :=
  chooseWork_agreeing (replanUsers_agreeing (u := u.setMaterials (u.materials.set i (rewriteRecord record u.materials[i])))
    h.frame i)

/-- A refused command leaves the part as it was. -/
theorem Agreeing.of_refused {r : Reply} (h : Agreeing u) (hr : Refused r u) : Agreeing r.2 := by rw [hr.2]; exact h

/-- A command that answers OK with the state `v`. -/
theorem Agreeing.of_okay {r : Reply} {payload : Payload} (hr : r = okay payload v) (h : Agreeing v) : Agreeing r.2 := by
  rw [hr]
  exact h

theorem filterSkip_agreeing (h : Agreeing u) (base mask : BitVec 16) : Agreeing (filterSkipCommand base mask u).2 := by
  have hremoved := filterRemoves_agreeing (u.queue.filter (filterMatches base mask)) h
    (h.sound.law.2.1.sublist (List.filter_sublist.map _)) fun e he => by
      obtain ⟨hmem, hmatch⟩ := List.mem_filter.1 he
      exact ⟨hmem, by simp only [filterMatches, Bool.and_eq_true, Bool.not_eq_true'] at hmatch; exact hmatch.1⟩
  exact (activateNewHead_agreeing (chooseWork_agreeing hremoved) u).settle

theorem runCommand_agreeing (c : Instr) (h : Agreeing u) : Agreeing (runCommand c u).2 := by
  cases c with
  | bufClear buffer =>
    rcases bufClearCommand_cases buffer u with hr | ⟨_, -, -, hr⟩
    · exact h.of_refused hr
    · exact .of_okay hr (h.setBuffer ..)
  | bufWrite buffer startSlot records =>
    rcases bufWriteCommand_cases buffer startSlot records u with hr | ⟨_, _, -, -, -, hr⟩
    · exact h.of_refused hr
    · exact .of_okay hr (h.setBuffer ..)
  | bufRead buffer slot => exact (bufReadCommand_snd buffer slot u).symm ▸ h
  | commitStatus buffer => exact (commitStatusCommand_snd buffer u).symm ▸ h
  | contourOpen id tag material quality passes pierceMode closed startX startY beforeId =>
    rcases contourOpenCommand_cases id tag material quality passes pierceMode closed startX startY beforeId u with
      hr | ⟨e, _, he, -, hlen, hnew, -, hopened, hr⟩
    · exact h.of_refused hr
    · exact .of_okay hr (hopened ▸ (activateNewHead_agreeing (open_agreeing h _ hlen hnew (by rw [he]; rfl)) u).settle)
  | contourAppend buffer id =>
    rcases contourAppendCommand_cases buffer id u with hr | ⟨_, _, _, _, rest, -, -, -, -, -, -, -, hr⟩
    · exact h.of_refused hr
    · exact acceptCommit_agreeing (h.setFreePages rest) hr
  | contourReplace buffer id position =>
    rcases contourReplaceCommand_cases buffer id position u with hr | ⟨_, _, _, _, -, -, -, -, -, -, hr⟩
    · exact h.of_refused hr
    · exact acceptCommit_agreeing h hr
  | contourClose id =>
    rcases contourCloseCommand_cases id u with hr | ⟨e, he, hst, -, -, hr⟩
    · exact h.of_refused hr
    · exact .of_okay hr (chooseWork_agreeing (modifyEntry_agreeing h (keepsOwn_state _) he ⟨by rw [hst]; rfl, by simp [hst]⟩
        fun _ => ⟨rfl, by simp⟩))
  | contourDelete id =>
    rcases contourDeleteCommand_cases id u with hr | ⟨e, he, hb, hr⟩
    · exact h.of_refused hr
    · exact .of_okay hr (activateNewHead_agreeing (chooseWork_agreeing
        (removeUnbegun_agreeing h (entry_some he).1 hb none)) u).settle
  | contourMove id beforeId =>
    rcases contourMoveCommand_cases id beforeId u with hr | ⟨e, he, hb, -, ⟨-, hr⟩ | ⟨_, -, hmoved, hr⟩⟩
    · exact h.of_refused hr
    · exact .of_okay hr h
    · exact .of_okay hr (hmoved ▸ (activateNewHead_agreeing (move_agreeing h _ (entry_some he).1 hb) u).settle)
  | contourQuery id => exact (contourQueryCommand_snd id u).symm ▸ h
  | filterSkip base mask => exact filterSkip_agreeing h base mask
  | hold =>
    rcases holdCommand_cases u with hr | ⟨t, ht, hr⟩
    · exact h.of_refused hr
    · exact .of_okay hr (holdHead_agreeing h ht).settle
  | resume =>
    rcases resumeCommand_cases u with hr | ⟨hfault, hr⟩
    · exact h.of_refused hr
    · exact .of_okay hr (resumeHead_agreeing h hfault).settle
  | skip =>
    rcases skipCommand_cases u with hr | ⟨t, ht, hr⟩
    · exact h.of_refused hr
    · exact .of_okay hr (skipRequest_agreeing h ht).settle
  | finishedRead n =>
    rcases finishedReadCommand_cases n u with hr | hr
    · exact h.of_refused hr
    · refine .of_okay hr (h.rework {
        sound := ⟨queueLaw_course h.sound.law (Course.refl.move (.read u n.toNat)), h.sound.plan⟩, active := rfl })
  | matWrite index record =>
    rcases matWriteCommand_cases index record u with hr | ⟨i, -, -, -, hr⟩
    · exact h.of_refused hr
    · exact .of_okay hr (writeMaterial_agreeing h i record)
  | matRead index => exact (matReadCommand_snd index u).symm ▸ h
  | matInvalidate index =>
    rcases matInvalidateCommand_cases index u with hr | ⟨i, -, -, hr⟩
    · exact h.of_refused hr
    · exact .of_okay hr h.frame
  | configSet record =>
    rcases configSetCommand_cases record u with hr | ⟨-, -, hr⟩
    · exact h.of_refused hr
    · exact .of_okay hr h.frame
  | wearConfig counter source limit =>
    rcases wearConfigCommand_cases counter source limit u with hr | ⟨i, src, t, -, -, ht, hr⟩
    · exact h.of_refused hr
    · exact .of_okay hr (ht ▸ h.changeCounter ..)
  | wearLevels t1 t2 t3 d1 d2 d3 =>
    rcases wearLevelsCommand_cases t1 t2 t3 d1 d2 d3 u with hr | ⟨t, -, ht, hr⟩
    · exact h.of_refused hr
    · exact .of_okay hr (ht ▸ h.frame)
  | wearLoad counter value =>
    rcases wearLoadCommand_cases counter value u with hr | ⟨i, t, -, ht, hr⟩
    · exact h.of_refused hr
    · exact .of_okay hr (ht ▸ h.changeCounter ..)
  | wearReset counter =>
    rcases wearResetCommand_cases counter u with hr | ⟨i, t, -, ht, hr⟩
    · exact h.of_refused hr
    · exact .of_okay hr (ht ▸ h.changeCounter ..)
  | routeSet jatnRoute matnRoute jatnMode matnMode =>
    rcases routeSetCommand_cases jatnRoute matnRoute jatnMode matnMode u with hr | ⟨_, _, -, -, hr⟩
    · exact h.of_refused hr
    · exact .of_okay hr (h.setAttention _)
  | eventsAck mask => exact h.setAttention _
  | jobReset => exact jobReset_agreeing u
  | _ => exact h

/-! ### Every step -/

theorem chooseRecord_agreeing (h : Agreeing u) : Agreeing (chooseRecord u) := by
  unfold chooseRecord
  split
  · exact (h.setStream _).setMotion _
  · split
    · exact ((h.setStream _).setStream _).setMotion _
    · split
      · unfold placeSeg
        split
        · exact h
        · exact holdAtDue_agreeing (((h.setStream _).setMotion _).setStream _)
      · exact h.setMotion _

theorem closeTransmitted_agreeing (h : Agreeing u) : Agreeing (closeTransmitted u) := by
  unfold closeTransmitted
  split
  · rename_i hphase
    rcases h with hrun | hrest
    · have hv := hrun.closed (by rw [hphase]; rfl)
      exact .inl ⟨hrun.loaded.frame, by simp, by simp [hv]⟩
    · rcases hrest.phase with hp | hp <;> rw [hp] at hphase <;> cases hphase
  · exact h

theorem agreeing_kept : Kept Agreeing where
  port := fun s p h => h.frame
  command := fun c s h => runCommand_agreeing c h
  powerOn := fun s _ => empty_agreeing rfl rfl rfl rfl rfl
  commit := fun s c rest _ h => completeCommit_agreeing h c rest
  contourPlan := fun s job e hjob hk _ h => completeContourPlan_agreeing h hjob hk e
  activeJob := fun s job e hjob hk _ h => completeActiveJob_agreeing h hjob hk e
  frameStart := fun s _ h => chooseRecord_agreeing h
  frameComplete := fun s x frame _ h => completeExchange_agreeing h x frame
  cutShort := fun s x _ h => (h.setMotion _).cond ((h.setMotion _).setStream _)
  linkTimeout := fun s h => (takeFault_agreeing ((h.setMotion _).raise _) _).settle
  waitExpiry := fun s _ h => (takeFault_agreeing ((h.setJsq {}).raise _) _).settle
  pierce := fun s h => pierceExpires_agreeing h
  sent := fun s m rest _ h => (closeTransmitted_agreeing (h.setPump _)).cond (h.setPump _)
  assembly := fun s a h => h.setPump _
  status := fun s r h => acceptStatus_agreeing h r
  reportTimeout := fun s h => (takeFault_agreeing ((h.setPump _).raise _) _).settle
  unit := fun s i h => h.frame
  tick := fun s h => ((((h.setJsq {}).setMotion _).setPump _).countWear _).settle
  line := fun s name h => ⟨h.setAttention _, h.setAttention _⟩

/-- R112 holds after every move: the valve is closed with the abrasive at 0, and nothing else sets the one or the other. -/
theorem jetLaw_move {s t : State} (hm : Move s t) (h : JetLaw s) : JetLaw t := by
  cases hm with
  | frame hf => rw [JetLaw, hf.valve, hf.abrasive]; exact h
  | completed c rest heng hdone => rw [JetLaw, hdone.valve, hdone.abrasive]; exact h
  | remove e outcome he => rw [JetLaw, State.removeEntry_jsq]; exact h
  | cleared _ _ _ _ _ _ ha _ => exact fun _ => ha
  | pressure target => exact h
  | opens rate => exact fun hv => Valve.noConfusion hv
  | shuts => exact fun _ => rfl
  | _ => exact h

/-- A law of the settings that every move keeps is kept by every step. -/
theorem jetLaw_kept : Kept JetLaw :=
  kept_of_moves (fun _ _ => jetLaw_move) fun _ base mask =>
    filterSkip_keeps (fun _ _ => jetLaw_move) (fun s e outcome h => by rw [JetLaw, State.removeEntry_jsq]; exact h) base mask

theorem settingsLaw_kept : Kept SettingsLaw :=
  kept_of_moves (fun _ _ => settingsLaw_move) fun _ base mask =>
    filterSkip_keeps (fun _ _ => settingsLaw_move) (fun s e outcome h => by
      rw [SettingsLaw, State.removeEntry_jsq, State.removeEntry_pump]; exact h) base mask

/-- The laws of the jet hold after every step. -/
theorem jetSafe_step {c : Instr} {s t : State} (hstep : exec c s = .next t) (h : JetSafe s) : JetSafe t := by
  obtain ⟨hagree, hjet⟩ := jetSafe_iff.1 h
  exact jetSafe_iff.2 ⟨agreeing_kept.exec hstep hagree, jetLaw_kept.exec hstep hjet⟩

/-- Settles O60: the queue, the sequencer and the engine agree after every step, and the settings are kept by every move. -/
theorem jetSafeKept : Obligations.JetSafeKept := fun _ _ _ hstep => ⟨jetSafe_step hstep, settingsLaw_kept.exec hstep⟩

end Sys2Proof.Proofs

/-! PROOFS. The machine as a whole and the bytes of the job port: one step, the power-on values, counting the bytes of a command
and reading the bytes of a response (R22, R181, R182). -/

namespace Sys2Proof.Proofs

open Sys2Proof Sys2Proof.Machine

/-! ### One step -/

/-- A step takes the command at the front of the queue. -/
theorem step_of_waiting {s : State} {c : Instr} {rest : List Instr} (h : s.pending = c :: rest) :
    step s = exec c (s.setPending rest) := by
  unfold step
  rw [h]

theorem step_of_empty {s : State} (h : s.pending = []) : step s = .next s := by
  unfold step
  rw [h]

/-- Settles O1, by what the front of the queue is. -/
theorem stepRunsFrontCommand : Obligations.StepRunsFrontCommand :=
  ⟨fun c rest s => step_of_waiting (s := s.setPending (c :: rest)) rfl, fun _ h => step_of_empty h⟩

/-! ### Power-on -/

/-- At power-on JATN takes every source and MATN the six of R188. -/
theorem reset_routes (src : Source) : State.reset.attention.jatn.route &&& src.bit ≠ 0
    ∧ (State.reset.attention.matn.route &&& src.bit ≠ 0 ↔ src.number ∈ [5, 6, 7, 8, 9, 11]) := by
  cases src <;> decide

/-- Settles O4: the reset state read block by block, whatever commands wait. -/
theorem powerOnValues : Obligations.PowerOnValues := by
  intro s
  refine ⟨_, exec_powerOnReset s, rfl, rfl, rfl, rfl, rfl, rfl, rfl, ?_, rfl, rfl, rfl, rfl, rfl, rfl, rfl, rfl, rfl, rfl, rfl,
    rfl, rfl, rfl, rfl, rfl, rfl, fun src => (reset_routes src).1, fun src => (reset_routes src).2⟩
  intro i
  simp [State.reset]

/-- Settles O5, law by law: the reset state has nothing queued, nothing under way and the jet shut. -/
theorem resetMeetsLaws : Obligations.ResetMeetsLaws := by
  have hqueue : QueueLaw State.reset := by unfold QueueLaw; decide
  have hserials : SerialLaw State.reset := ⟨.inl rfl, fun i a b h => by simp [segSerials, State.reset, State.freshStream] at h,
    fun _ h => by simp [State.reset, State.freshStream] at h⟩
  have hagree : BlocksAgree State.reset := by
    refine ⟨by decide, by decide, ?_, ?_⟩ <;> simp [State.reset]
  have hsettings : SettingsLaw State.reset := by
    constructor <;> simp [State.reset, valveSettings, abrasiveSettings, State.idleSequencer]
  exact ⟨hqueue, Tests.pagesPlaced_reset, reset_store_wf, by simp [MaterialsValid, State.reset], Tests.wearLaw_reset, ⟨rfl, rfl⟩,
    by unfold WindowLaw; decide, hserials, ⟨hqueue, hagree, fun _ => rfl, fun _ => rfl⟩, hsettings, by decide⟩

/-! ### JOB_RESET -/

/-- A message joins the tail of a list with room (R167). -/
theorem enqueueMessage_of_room {list : List PumpMessage} (h : list.length < 16) (m : PumpMessage) :
    enqueueMessage m list = list ++ [m] := if_neg (Nat.not_le.2 h)

/-- Behind the message in transmission the settings of a reset go out in order (R174). -/
theorem enqueue_reset (list : List PumpMessage) (p : Nat) :
    enqueueMessage (.setPressure p) (enqueueMessage (.setValve .closed) (enqueueMessage (.setAbrasive 0) (list.take 1)))
      = list.take 1 ++ [.setAbrasive 0, .setValve .closed, .setPressure p] := by
  have hlen : (list.take 1).length ≤ 1 := by simp
  have hpair : (list.take 1 ++ [PumpMessage.setAbrasive 0] ++ [PumpMessage.setValve .closed]).length < 16 := by
    simp only [List.length_append, List.length_singleton]
    omega
  rw [enqueueMessage_of_room (list := list.take 1) (by omega),
    enqueueMessage_of_room (list := list.take 1 ++ _) (by rw [List.length_append, List.length_singleton]; omega),
    enqueueMessage_of_room hpair]
  simp only [List.append_assoc, List.cons_append, List.nil_append]

/-- The jet shut and the idle pressure asked for (R132, R174). -/
theorem jetOff_issueIdlePressure (u : State) : u.jetOff.issueIdlePressure
    = (u.setJsq { u.jsq with valve := .closed, abrasive := 0 }).setPump { u.pump with
        transmit := enqueueMessage (.setPressure (clampPressure u.config u.config.idlePressure.toNat))
          (enqueueMessage (.setValve .closed) (enqueueMessage (.setAbrasive 0) u.pump.transmit))
        target := clampPressure u.config u.config.idlePressure.toNat, ready := false, sag := 0 } := rfl

/-- What JOB_RESET sends to the pump (R132, R174, R186). -/
theorem jobResetCommand_pump (s : State) : (jobResetCommand s).2.pump = { s.pump with
    transmit := s.pump.transmit.take 1
      ++ [.setAbrasive 0, .setValve .closed, .setPressure (clampPressure s.config s.config.idlePressure.toNat)]
    target := clampPressure s.config s.config.idlePressure.toNat, ready := false, sag := 0 } := by
  rw [← enqueue_reset, jobResetCommand_eq, okay, jetOff_issueIdlePressure]
  rfl

/-- What JOB_RESET leaves outside the pump link (R186). -/
theorem jobResetCommand_snd (s : State) :
    (jobResetCommand s).2 = ((clearWork s).setJsq State.idleSequencer).setPump (jobResetCommand s).2.pump := by
  rw [jobResetCommand_eq, okay, jetOff_issueIdlePressure]
  rw [show (clearWork s).jsq = State.idleSequencer from rfl]
  rfl

theorem clearWork_freePages (s : State) : (clearWork s).freePages = List.range 256 := by rw [clearWork, State.allPages]

/-- The port's own passage through EXECUTING makes no difference to a JOB_RESET. -/
theorem exec_jobReset {s : State} (hopen : portOpen s) :
    exec .jobReset s = .next ((jobResetCommand s).2.respond ⟨.ok, .empty⟩) := by
  have hexec : exec .jobReset s = .next (s.onJobPort jobResetCommand) := rfl
  rw [hexec, State.onJobPort_of_open hopen]
  rfl

/-- ABORT is due after a reset exactly where a contour may be moving (R165). -/
theorem abortAtReset_iff (s : State) : abortAtReset s = true ↔ s.activeEntry.isSome
    ∧ (s.jsq.phase ∈ [.positioning, .cutting, .holding, .bridgeTravel, .aborting] ∨ s.stream.window ≠ []) := by
  have hphase : s.jsq.phase.mayMove = true ↔ s.jsq.phase ∈ [.positioning, .cutting, .holding, .bridgeTravel, .aborting] := by
    cases s.jsq.phase <;> simp [Phase.mayMove]
  simp [abortAtReset, ← hphase]

/-- The pulse a line gives after a reset (R186). -/
theorem clearSet_pulse (l : Line) :
    l.clearSet.pulse = if l.pulse = .high true ∨ l.pulse = .high false then .high false else .idle := by
  unfold Line.clearSet
  cases l.pulse with
  | high owed => cases owed <;> simp
  | idle | gap => simp

/-- Settles O6: the cleared part, the settings behind the message in transmission, and the lines. -/
theorem jobResetClearsWork : Obligations.JobResetClearsWork := by
  intro s p hopen hp
  refine ⟨_, exec_jobReset hopen, ?_⟩
  rw [jobResetCommand_snd, jobResetCommand_pump, hp]
  refine ⟨rfl, rfl, rfl, rfl, rfl, rfl, rfl, rfl, rfl, ?_, rfl, rfl, rfl, rfl, ?_, rfl, rfl, rfl, rfl, rfl, rfl, rfl, rfl, ?_⟩
  · simp only [State.respond, State.setPort_freePages, State.setPump_freePages, State.setJsq_freePages, clearWork_freePages]
  · simp only [← abortAtReset_iff]
    rfl
  · rintro line line' (⟨rfl, rfl⟩ | ⟨rfl, rfl⟩)
    · exact clearSet_pulse s.attention.jatn
    · exact clearSet_pulse s.attention.matn

/-! ### Bytes written -/

theorem exec_commandByteWrite (dma : Bool) (b : Byte) (s : State) : exec (.commandByteWrite dma b) s = .next (dataWrite b s) := rfl

theorem dataWrite_of_waitHeader {s : State} (h : s.port.condition = .waitHeader) (b : Byte) :
    dataWrite b s = countBytes [b] s := by
  unfold dataWrite
  rw [h]

theorem dataWrite_of_receiving {s : State} {bytes : List Byte} (h : s.port.condition = .receiving bytes) (b : Byte) :
    dataWrite b s = countBytes (bytes ++ [b]) s := by
  unfold dataWrite
  rw [h]

/-- A byte written while a response waits is not taken (R181). -/
theorem dataWrite_of_busy {s : State} (h : s.port.condition = .executing ∨ ∃ r k, s.port.condition = .responding r k)
    (b : Byte) : dataWrite b s = s.setPort { s.port with ovr := true } := by
  unfold dataWrite
  rcases h with h | ⟨r, k, h⟩ <;> rw [h]

/-- A header that names a length above 770 is refused (R182). -/
theorem countBytes_of_too_long {n0 n1 : Byte} (h : 770 < (join2 n0 n1).toNat) (code : Byte) (body : List Byte) (s : State) :
    countBytes (code :: n0 :: n1 :: body) s = s.respond ⟨.badCommand, .empty⟩ := if_pos h

/-- Behind the header the command waits for the rest of its body (R182). -/
theorem countBytes_of_partial {n0 n1 : Byte} {body : List Byte} (h : (join2 n0 n1).toNat ≤ 770)
    (hlen : body.length < (join2 n0 n1).toNat) (code : Byte) (s : State) :
    countBytes (code :: n0 :: n1 :: body) s = s.setPort { s.port with condition := .receiving (code :: n0 :: n1 :: body) } := by
  unfold countBytes
  exact (if_neg (Nat.not_lt.2 h)).trans (if_neg (Nat.not_le.2 hlen))

/-- The last byte of the body completes the command (R182). -/
theorem countBytes_of_complete {n0 n1 : Byte} {body : List Byte} (h : (join2 n0 n1).toNat ≤ 770)
    (hlen : body.length = (join2 n0 n1).toNat) (code : Byte) (s : State) :
    countBytes (code :: n0 :: n1 :: body) s = s.onJobPort (runBytes code body) := by
  unfold countBytes
  exact (if_neg (Nat.not_lt.2 h)).trans (if_pos hlen.ge)

/-- A complete command that spells none is refused (R182). -/
theorem onJobPort_runBytes_of_none {s : State} (hopen : portOpen s) {code : Byte} {body : List Byte}
    (h : decodeCommand code body = none) : s.onJobPort (runBytes code body) = s.respond ⟨.badCommand, .empty⟩ :=
  onJobPort_of_unchanged hopen (by rw [runBytes, h]; rfl)

/-- A complete command that spells one is that command. -/
theorem runBytes_of_some {code : Byte} {body : List Byte} {c : Instr} (h : decodeCommand code body = some c) :
    runBytes code body = runCommand c := by
  funext s
  rw [runBytes, h]

/-- A body byte is expected in RECEIVING behind the header, and nowhere else (R182). -/
theorem drq_iff (s : State) : s.drq = true ↔
    ∃ code n0 n1 body, s.port.condition = .receiving (code :: n0 :: n1 :: body) ∧ body.length < (join2 n0 n1).toNat := by
  unfold State.drq State.expectsBody
  split
  · rename_i code n0 n1 body h
    rw [h]
    simp
  · rename_i h
    constructor
    · simp
    · rintro ⟨code, n0, n1, body, hc, -⟩
      exact (h code n0 n1 body hc).elim

/-- Settles O7, by the condition of the port and the bytes it holds. -/
theorem commandBytesCounted : Obligations.CommandBytesCounted := by
  intro dma b s
  simp only [exec_commandByteWrite, Host.Outcome.next.injEq]
  refine ⟨fun h => by rw [dataWrite_of_waitHeader h]; rfl, fun code h => by rw [dataWrite_of_receiving h]; rfl, fun code n0 h hlong => ?_,
    fun code n0 h hlow hhigh => ?_, fun code n0 h hzero hnone => ?_, fun code n0 n1 body h hlen hpart => ?_,
    fun code n0 n1 body h hlen hlast hnone => ?_, fun h => dataWrite_of_busy h b, fun bytes h => ?_, drq_iff s⟩
  · rw [dataWrite_of_receiving h]
    exact countBytes_of_too_long hlong code [] s
  · rw [dataWrite_of_receiving h]
    exact countBytes_of_partial (body := []) hhigh hlow code s
  · rw [dataWrite_of_receiving h]
    exact (countBytes_of_complete (body := []) (by omega) hzero.symm code s).trans (onJobPort_runBytes_of_none (.inr ⟨_, h⟩) hnone)
  · rw [dataWrite_of_receiving h]
    exact countBytes_of_partial hlen (by simpa using hpart) code s
  · rw [dataWrite_of_receiving h]
    exact (countBytes_of_complete hlen (by simpa using hlast) code s).trans (onJobPort_runBytes_of_none (.inr ⟨_, h⟩) hnone)
  · have hexec : exec .commandByteGap s = execCommandByteGap s := rfl
    rw [hexec, execCommandByteGap, h]
    rfl

/-! ### Bytes read -/

theorem exec_responseByteRead (s : State) : exec .responseByteRead s = .next (dataRead s) := rfl

/-- A read in RESPONDING gives the next byte of the response (R181). -/
theorem dataRead_of_responding {s : State} {r : Response} {k : Nat} (h : s.port.condition = .responding r k) :
    dataRead s = s.setPort
      ⟨if k + 1 < r.bytes.length then .responding r (k + 1) else .waitHeader, s.port.ovr, r.bytes.getD k 0⟩ := by
  unfold dataRead
  rw [h]

/-- A read in the other conditions gives 0 (R181). -/
theorem dataRead_of_not_responding {s : State} (h : ∀ r k, s.port.condition ≠ .responding r k) :
    dataRead s = s.setPort ⟨s.port.condition, s.port.ovr, 0⟩ := by
  unfold dataRead
  split
  · exact (h _ _ ‹_›).elim
  all_goals rfl

theorem exec_statusByteRead (s : State) :
    exec .statusByteRead s = .next (s.setPort ⟨s.port.condition, false, s.statusByte⟩) := rfl

/-- The bits of the status byte, by the condition of the port and the two flags (R181). -/
theorem statusByte_bits (s : State) :
    (s.statusByte.getLsbD 0 = true ↔ s.port.condition ≠ .executing)
      ∧ (s.statusByte.getLsbD 1 = true ↔ ∃ r k, s.port.condition = .responding r k)
      ∧ (s.statusByte.getLsbD 2 = true ↔ s.port.condition = .executing)
      ∧ s.statusByte.getLsbD 3 = s.port.ovr ∧ s.statusByte.getLsbD 4 = s.jatn ∧ s.statusByte.toNat < 32 := by
  unfold State.statusByte
  generalize s.jatn = atn
  generalize s.port.ovr = ovr
  cases s.port.condition <;> cases atn <;> cases ovr <;> simp

/-- Settles O10: the reads by the condition of the port, the layouts of a response by its definition. -/
theorem portReads : Obligations.PortReads := by
  intro s
  refine ⟨fun r k h hmore => ?_, fun r k h hlast => ?_, fun h => ?_, ⟨_, exec_statusByteRead s, statusByte_bits s⟩, fun _ => rfl,
    fun _ => rfl, fun st p r => ?_, fun m => ?_, rfl, rfl, rfl, rfl⟩
  · rw [exec_responseByteRead, dataRead_of_responding h, if_pos hmore]
  · rw [exec_responseByteRead, dataRead_of_responding h, if_neg (Nat.not_lt.2 hlast)]
  · rw [exec_responseByteRead, dataRead_of_not_responding h]
  · refine ⟨(Config.responseField (.bufferSlot st p (some r)) 0).take 255
      ++ (Config.responseField (.bufferSlot st p (some r)) 1).take 255, ?_⟩
    simp [Payload.bytes, Payload.parts, bodyBytes, BodyPart.one, BodyPart.optional]
  · simp [Payload.bytes, Payload.parts, bodyBytes, BodyPart.mask]

end Sys2Proof.Proofs

/-! PROOFS. A refused command changes nothing (R184); command bytes and commands are inverse to each other, and a command written
byte by byte is that command (R182, R183, R189, R190). -/

namespace Sys2Proof.Proofs

open Sys2Proof Sys2Proof.Machine

/-! ### Refusals -/

/-- A reply that changes no state unless its code is OK (R184). -/
structure Honest (r : Reply) (s : State) : Prop where
  unchanged : r.1.status ≠ .ok → r.2 = s

theorem honest_of_refused {r : Reply} {s : State} (h : Refused r s) : Honest r s := ⟨fun _ => h.2⟩

theorem honest_of_okay {r : Reply} {s t : State} {payload : Payload} (h : r = okay payload t) : Honest r s := by
  rw [h]
  exact ⟨fun hne => absurd rfl hne⟩

theorem honest_of_accepted {r : Reply} {s t : State} {c : Commit} (h : r = acceptCommit c t) : Honest r s := by
  rw [h]
  exact ⟨fun hne => absurd rfl hne⟩

theorem honest_of_unchanged {r : Reply} {s : State} (h : r.2 = s) : Honest r s := ⟨fun _ => h⟩

/-- Every command's block answers a refusal with the state it took (R184). -/
theorem runCommand_honest (c : Instr) (s : State) : Honest (runCommand c s) s := by
  cases c with
  | bufClear buffer =>
    rcases bufClearCommand_cases buffer s with h | ⟨_, -, -, h⟩
    exacts [honest_of_refused h, honest_of_okay h]
  | bufWrite buffer startSlot records =>
    rcases bufWriteCommand_cases buffer startSlot records s with h | ⟨_, _, -, -, -, h⟩
    exacts [honest_of_refused h, honest_of_okay h]
  | bufRead buffer slot => exact honest_of_unchanged (bufReadCommand_snd ..)
  | commitStatus buffer => exact honest_of_unchanged (commitStatusCommand_snd ..)
  | contourOpen id tag material quality passes pierceMode closed startX startY beforeId =>
    rcases contourOpenCommand_cases id tag material quality passes pierceMode closed startX startY beforeId s with
      h | ⟨_, _, -, -, -, -, -, -, h⟩
    exacts [honest_of_refused h, honest_of_okay h]
  | contourAppend buffer id =>
    rcases contourAppendCommand_cases buffer id s with h | ⟨_, _, _, _, _, -, -, -, -, -, -, -, h⟩
    exacts [honest_of_refused h, honest_of_accepted h]
  | contourReplace buffer id position =>
    rcases contourReplaceCommand_cases buffer id position s with h | ⟨_, _, _, _, -, -, -, -, -, -, h⟩
    exacts [honest_of_refused h, honest_of_accepted h]
  | contourClose id =>
    rcases contourCloseCommand_cases id s with h | ⟨_, -, -, -, -, h⟩
    exacts [honest_of_refused h, honest_of_okay h]
  | contourDelete id =>
    rcases contourDeleteCommand_cases id s with h | ⟨_, -, -, h⟩
    exacts [honest_of_refused h, honest_of_okay h]
  | contourMove id beforeId =>
    rcases contourMoveCommand_cases id beforeId s with h | ⟨_, -, -, -, ⟨-, h⟩ | ⟨_, -, -, h⟩⟩
    exacts [honest_of_refused h, honest_of_okay h, honest_of_okay h]
  | contourQuery id => exact honest_of_unchanged (contourQueryCommand_snd ..)
  | hold =>
    rcases holdCommand_cases s with h | ⟨_, -, h⟩
    exacts [honest_of_refused h, honest_of_okay h]
  | resume =>
    rcases resumeCommand_cases s with h | ⟨-, h⟩
    exacts [honest_of_refused h, honest_of_okay h]
  | skip =>
    rcases skipCommand_cases s with h | ⟨_, -, h⟩
    exacts [honest_of_refused h, honest_of_okay h]
  | finishedRead n =>
    rcases finishedReadCommand_cases n s with h | h
    exacts [honest_of_refused h, honest_of_okay h]
  | matWrite index record =>
    rcases matWriteCommand_cases index record s with h | ⟨_, -, -, -, h⟩
    exacts [honest_of_refused h, honest_of_okay h]
  | matRead index => exact honest_of_unchanged (matReadCommand_snd ..)
  | matInvalidate index =>
    rcases matInvalidateCommand_cases index s with h | ⟨_, -, -, h⟩
    exacts [honest_of_refused h, honest_of_okay h]
  | configSet record =>
    rcases configSetCommand_cases record s with h | ⟨-, -, h⟩
    exacts [honest_of_refused h, honest_of_okay h]
  | wearConfig counter source limit =>
    rcases wearConfigCommand_cases counter source limit s with h | ⟨_, _, _, -, -, -, h⟩
    exacts [honest_of_refused h, honest_of_okay h]
  | wearLevels t1 t2 t3 d1 d2 d3 =>
    rcases wearLevelsCommand_cases t1 t2 t3 d1 d2 d3 s with h | ⟨_, -, -, h⟩
    exacts [honest_of_refused h, honest_of_okay h]
  | wearLoad counter value =>
    rcases wearLoadCommand_cases counter value s with h | ⟨_, _, -, -, h⟩
    exacts [honest_of_refused h, honest_of_okay h]
  | wearReset counter =>
    rcases wearResetCommand_cases counter s with h | ⟨_, _, -, -, h⟩
    exacts [honest_of_refused h, honest_of_okay h]
  | routeSet jatnRoute matnRoute jatnMode matnMode =>
    rcases routeSetCommand_cases jatnRoute matnRoute jatnMode matnMode s with h | ⟨_, _, -, -, h⟩
    exacts [honest_of_refused h, honest_of_okay h]
  | filterSkip | eventsAck | jobReset => exact ⟨fun hne => absurd rfl hne⟩
  | _ => exact ⟨fun _ => rfl⟩

/-- Settles O11: the port holds the reply, and a reply that refuses leaves the state the command took. -/
theorem refusalChangesNothing : Obligations.RefusalChangesNothing := by
  intro c s t r n hc hopen hexec hr hne
  rw [exec_of_command hc, State.onJobPort_of_open hopen] at hexec
  generalize hu : s.setPort { s.port with condition := .executing } = u at hexec
  cases hexec
  obtain ⟨hreply, -⟩ := PortCondition.responding.inj hr
  have hsame := (runCommand_honest c u).unchanged (by rw [hreply]; exact hne)
  rw [hreply, hsame, ← hu]
  exact respond_setPort s .executing r

end Sys2Proof.Proofs

/-! PROOFS. Command bytes and commands are inverse to each other, and a command written byte by byte is that command (R182, R183,
R189, R190). -/

namespace Sys2Proof.Proofs

open Sys2Proof Sys2Proof.Machine

/-! ### Multi-byte fields -/

theorem join2_split (x : BitVec 16) : join2 (x.extractLsb' 0 8) (x.extractLsb' 8 8) = x :=
  (BitVec.extractLsb'_append_extractLsb'_eq_extractLsb' rfl).trans BitVec.extractLsb'_eq_self

theorem join3_split (x : BitVec 24) : join3 (x.extractLsb' 0 8) (x.extractLsb' 8 8) (x.extractLsb' 16 8) = x := by
  have hlow : x.extractLsb' 8 8 ++ x.extractLsb' 0 8 = x.extractLsb' 0 16 :=
    BitVec.extractLsb'_append_extractLsb'_eq_extractLsb' rfl
  rw [join3, hlow]
  exact (BitVec.extractLsb'_append_extractLsb'_eq_extractLsb' rfl).trans BitVec.extractLsb'_eq_self

theorem join4_split (x : BitVec 32) :
    join4 (x.extractLsb' 0 8) (x.extractLsb' 8 8) (x.extractLsb' 16 8) (x.extractLsb' 24 8) = x := by
  have hpair : x.extractLsb' 8 8 ++ x.extractLsb' 0 8 = x.extractLsb' 0 16 :=
    BitVec.extractLsb'_append_extractLsb'_eq_extractLsb' rfl
  have hlow : x.extractLsb' 16 8 ++ x.extractLsb' 0 16 = x.extractLsb' 0 24 :=
    BitVec.extractLsb'_append_extractLsb'_eq_extractLsb' rfl
  rw [join4, hpair, hlow]
  exact (BitVec.extractLsb'_append_extractLsb'_eq_extractLsb' rfl).trans BitVec.extractLsb'_eq_self

theorem split2_join (b0 b1 : Byte) : split2 (join2 b0 b1) = [b0, b1] := by
  rw [split2, join2, BitVec.extractLsb'_append_eq_right, BitVec.extractLsb'_append_eq_left]

theorem split3_join (b0 b1 b2 : Byte) : split3 (join3 b0 b1 b2) = [b0, b1, b2] := by
  have h0 : (b2 ++ (b1 ++ b0)).extractLsb' 0 8 = b0 :=
    (BitVec.extractLsb'_append_eq_of_add_le (by decide)).trans BitVec.extractLsb'_append_eq_right
  have h1 : (b2 ++ (b1 ++ b0)).extractLsb' 8 8 = b1 :=
    (BitVec.extractLsb'_append_eq_of_add_le (by decide)).trans BitVec.extractLsb'_append_eq_left
  rw [split3, join3, h0, h1, BitVec.extractLsb'_append_eq_left]

theorem split4_join (b0 b1 b2 b3 : Byte) : split4 (join4 b0 b1 b2 b3) = [b0, b1, b2, b3] := by
  have hlow (start : Nat) (h : start + 8 ≤ 24) :
      (join4 b0 b1 b2 b3).extractLsb' start 8 = (join3 b0 b1 b2).extractLsb' start 8 :=
    BitVec.extractLsb'_append_eq_of_add_le h
  have htop : (join4 b0 b1 b2 b3).extractLsb' 24 8 = b3 := BitVec.extractLsb'_append_eq_left
  have hthree := split3_join b0 b1 b2
  rw [split3] at hthree
  rw [split4, hlow 0 (by decide), hlow 8 (by decide), hlow 16 (by decide), htop]
  exact congrArg (· ++ [b3]) hthree

theorem split2_append (x : BitVec 16) (rest : List Byte) :
    split2 x ++ rest = x.extractLsb' 0 8 :: x.extractLsb' 8 8 :: rest := rfl

theorem split3_append (x : BitVec 24) (rest : List Byte) :
    split3 x ++ rest = x.extractLsb' 0 8 :: x.extractLsb' 8 8 :: x.extractLsb' 16 8 :: rest := rfl

/-! ### Records of several fields -/

theorem decodeRecords_bytes (r : SegRecord) (rest : List Byte) :
    decodeRecords (r.bytes ++ rest) = (decodeRecords rest).map (r :: ·) := by
  have hstep : decodeRecords (r.bytes ++ rest) = match decodeRecords rest with
      | some rs => some (⟨r.kindByte, r.roleByte, r.radiusPresence, r.dwellPresence,
          join3 (r.lengthField.extractLsb' 0 8) (r.lengthField.extractLsb' 8 8) (r.lengthField.extractLsb' 16 8),
          join3 (r.radiusField.extractLsb' 0 8) (r.radiusField.extractLsb' 8 8) (r.radiusField.extractLsb' 16 8),
          join2 (r.headingIn.extractLsb' 0 8) (r.headingIn.extractLsb' 8 8),
          join2 (r.headingOut.extractLsb' 0 8) (r.headingOut.extractLsb' 8 8),
          join4 (r.endX.extractLsb' 0 8) (r.endX.extractLsb' 8 8) (r.endX.extractLsb' 16 8) (r.endX.extractLsb' 24 8),
          join4 (r.endY.extractLsb' 0 8) (r.endY.extractLsb' 8 8) (r.endY.extractLsb' 16 8) (r.endY.extractLsb' 24 8),
          join2 (r.dwellField.extractLsb' 0 8) (r.dwellField.extractLsb' 8 8)⟩ :: rs)
      | none => none := by
    conv_lhs => unfold decodeRecords
    rfl
  rw [hstep]
  simp only [join2_split, join3_split, join4_split]
  cases decodeRecords rest <;> rfl

theorem decodeRecords_flatMap (records : List SegRecord) : decodeRecords (records.flatMap SegRecord.bytes) = some records := by
  induction records with
  | nil => rfl
  | cons r rest ih => rw [List.flatMap_cons, decodeRecords_bytes, ih]; rfl

/-- Only the bytes of a list of records decode to it. -/
theorem flatMap_of_decodeRecords {body : List Byte} {records : List SegRecord} (h : decodeRecords body = some records) :
    records.flatMap SegRecord.bytes = body := by
  induction body using decodeRecords.induct generalizing records with
  | case1 => cases h; rfl
  | case2 k o rp dp l0 l1 l2 r0 r1 r2 i0 i1 u0 u1 x0 x1 x2 x3 y0 y1 y2 y3 d0 d1 rest rs hrs ih =>
    unfold decodeRecords at h
    rw [hrs] at h
    cases h
    rw [List.flatMap_cons, ih hrs, SegRecord.bytes]
    simp only [split2_join, split3_join, split4_join, List.cons_append, List.nil_append]
  | case3 k o rp dp l0 l1 l2 r0 r1 r2 i0 i1 u0 u1 x0 x1 x2 x3 y0 y1 y2 y3 d0 d1 rest hrs ih =>
    unfold decodeRecords at h
    rw [hrs] at h
    cases h
  | case4 body hnil hcons =>
    unfold decodeRecords at h
    split at h
    · exact absurd rfl hnil
    · exact (hcons _ _ _ _ _ _ _ _ _ _ _ _ _ _ _ _ _ _ _ _ _ _ _ _ _ rfl).elim
    · cases h

theorem decodeMaterial_bytes (m : Material) : decodeMaterial m.bytes = some m := by
  unfold Material.bytes
  simp only [List.cons_append, split2_append, split3_append]
  rw [split2, decodeMaterial.eq_1]
  simp only [join2_split, join3_split]

/-- Only the bytes of a material decode to it. -/
theorem bytes_of_decodeMaterial {body : List Byte} {m : Material} (h : decodeMaterial body = some m) : m.bytes = body := by
  induction body using decodeMaterial.fun_cases with
  | case1 =>
    rw [decodeMaterial.eq_1] at h
    cases h
    unfold Material.bytes
    simp only [split2_join, split3_join, List.cons_append, List.nil_append]
  | case2 body hshape =>
    rw [decodeMaterial.eq_2 body hshape] at h
    cases h

theorem decodeConfig_bytes (c : MachineConfig) : decodeConfig c.bytes = some c := by
  simp only [decodeConfig, MachineConfig.bytes, split2, split3, split4, List.cons_append, List.nil_append, join2_split,
    join3_split, join4_split]

/-- Only the bytes of a configuration decode to it. -/
theorem bytes_of_decodeConfig {body : List Byte} {c : MachineConfig} (h : decodeConfig body = some c) : c.bytes = body := by
  unfold decodeConfig at h
  split at h
  · cases h
    simp only [MachineConfig.bytes, split2_join, split3_join, split4_join, List.cons_append, List.nil_append]
  · cases h

/-! ### Commands -/

/-- The bodies a decoder takes, with code `n`, are those of the well-formed commands it gives. -/
structure Spells (n : Byte) (decode : List Byte → Option Instr) : Prop where
  command : ∀ body c, decode body = some c → c.wellFormed = true ∧ encodeCommand c = some (n, body)

theorem spells_emptyBody {n : Byte} {c : Instr} (hwf : c.wellFormed = true) (h : encodeCommand c = some (n, [])) :
    Spells n (emptyBody c) := by
  constructor
  intro body d hd
  unfold emptyBody at hd
  split_ifs at hd with hbody
  cases hd
  exact ⟨hwf, hbody ▸ h⟩

theorem spells_bufClear : Spells 1 decodeBufClear := by
  constructor
  intro body c h
  unfold decodeBufClear at h
  split at h <;> cases h
  exact ⟨rfl, rfl⟩

theorem spells_bufWrite : Spells 2 decodeBufWrite := by
  constructor
  intro body c h
  unfold decodeBufWrite at h
  split at h
  · split at h
    · rename_i records hrecords
      split_ifs at h with hlen
      cases h
      exact ⟨by simp [Instr.wellFormed, hlen], by rw [encodeCommand, flatMap_of_decodeRecords hrecords]⟩
    · cases h
  · cases h

theorem spells_bufRead : Spells 3 decodeBufRead := by
  constructor
  intro body c h
  unfold decodeBufRead at h
  split at h <;> cases h
  exact ⟨rfl, rfl⟩

theorem spells_commitStatus : Spells 4 decodeCommitStatus := by
  constructor
  intro body c h
  unfold decodeCommitStatus at h
  split at h <;> cases h
  exact ⟨rfl, rfl⟩

theorem spells_contourOpen : Spells 5 decodeContourOpen := by
  constructor
  intro body c h
  unfold decodeContourOpen at h
  split at h <;> cases h
  exact ⟨rfl, by simp [encodeCommand, split2_join, split4_join]⟩

theorem spells_contourAppend : Spells 6 decodeContourAppend := by
  constructor
  intro body c h
  unfold decodeContourAppend at h
  split at h <;> cases h
  exact ⟨rfl, by simp [encodeCommand, split2_join]⟩

theorem spells_contourReplace : Spells 7 decodeContourReplace := by
  constructor
  intro body c h
  unfold decodeContourReplace at h
  split at h <;> cases h
  exact ⟨rfl, by simp [encodeCommand, split2_join]⟩

theorem spells_contourClose : Spells 8 decodeContourClose := by
  constructor
  intro body c h
  unfold decodeContourClose at h
  split at h <;> cases h
  exact ⟨rfl, by simp [encodeCommand, split2_join]⟩

theorem spells_contourDelete : Spells 9 decodeContourDelete := by
  constructor
  intro body c h
  unfold decodeContourDelete at h
  split at h <;> cases h
  exact ⟨rfl, by simp [encodeCommand, split2_join]⟩

theorem spells_contourMove : Spells 10 decodeContourMove := by
  constructor
  intro body c h
  unfold decodeContourMove at h
  split at h <;> cases h
  exact ⟨rfl, by simp [encodeCommand, split2_join]⟩

theorem spells_contourQuery : Spells 11 decodeContourQuery := by
  constructor
  intro body c h
  unfold decodeContourQuery at h
  split at h <;> cases h
  exact ⟨rfl, by simp [encodeCommand, split2_join]⟩

theorem spells_filterSkip : Spells 13 decodeFilterSkip := by
  constructor
  intro body c h
  unfold decodeFilterSkip at h
  split at h <;> cases h
  exact ⟨rfl, by simp [encodeCommand, split2_join]⟩

theorem spells_finishedRead : Spells 17 decodeFinishedRead := by
  constructor
  intro body c h
  unfold decodeFinishedRead at h
  split at h <;> cases h
  exact ⟨rfl, rfl⟩

theorem spells_matWrite : Spells 18 decodeMatWrite := by
  constructor
  intro body c h
  unfold decodeMatWrite at h
  split at h
  · obtain ⟨m, hm, rfl⟩ := Option.map_eq_some_iff.1 h
    exact ⟨rfl, by rw [encodeCommand, bytes_of_decodeMaterial hm]⟩
  · cases h

theorem spells_matRead : Spells 19 decodeMatRead := by
  constructor
  intro body c h
  unfold decodeMatRead at h
  split at h <;> cases h
  exact ⟨rfl, rfl⟩

theorem spells_matInvalidate : Spells 20 decodeMatInvalidate := by
  constructor
  intro body c h
  unfold decodeMatInvalidate at h
  split at h <;> cases h
  exact ⟨rfl, rfl⟩

theorem spells_configSet : Spells 21 decodeConfigSet := by
  constructor
  intro body c h
  obtain ⟨config, hconfig, rfl⟩ := Option.map_eq_some_iff.1 h
  exact ⟨rfl, by rw [encodeCommand, bytes_of_decodeConfig hconfig]⟩

theorem spells_wearConfig : Spells 23 decodeWearConfig := by
  constructor
  intro body c h
  unfold decodeWearConfig at h
  split at h <;> cases h
  exact ⟨rfl, by simp [encodeCommand, split4_join]⟩

theorem spells_wearLevels : Spells 24 decodeWearLevels := by
  constructor
  intro body c h
  unfold decodeWearLevels at h
  split at h <;> cases h
  exact ⟨rfl, by simp [encodeCommand, split2_join, split4_join]⟩

theorem spells_wearLoad : Spells 25 decodeWearLoad := by
  constructor
  intro body c h
  unfold decodeWearLoad at h
  split at h <;> cases h
  exact ⟨rfl, by simp [encodeCommand, split4_join]⟩

theorem spells_wearReset : Spells 26 decodeWearReset := by
  constructor
  intro body c h
  unfold decodeWearReset at h
  split at h <;> cases h
  exact ⟨rfl, rfl⟩

theorem spells_routeSet : Spells 28 decodeRouteSet := by
  constructor
  intro body c h
  unfold decodeRouteSet at h
  split at h <;> cases h
  exact ⟨rfl, by simp [encodeCommand, split2_join]⟩

theorem spells_eventsAck : Spells 30 decodeEventsAck := by
  constructor
  intro body c h
  unfold decodeEventsAck at h
  split at h <;> cases h
  exact ⟨rfl, by simp [encodeCommand, split2_join]⟩

theorem Spells.at {n code : Byte} {decode : List Byte → Option Instr} {body : List Byte} {c : Instr} (hd : Spells n decode)
    (hcode : code.toNat = n.toNat) (h : decode body = some c) : c.wellFormed = true ∧ encodeCommand c = some (code, body) := by
  rw [BitVec.eq_of_toNat_eq hcode]
  exact hd.command body c h

/-- Only the bytes of a well-formed command decode to it, row by row of R183. -/
theorem encodeCommand_of_decodeCommand {code : Byte} {body : List Byte} {c : Instr} (h : decodeCommand code body = some c) :
    c.wellFormed = true ∧ encodeCommand c = some (code, body) := by
  unfold decodeCommand at h
  split at h
  case h_1 hcode => exact spells_bufClear.at hcode h
  case h_2 hcode => exact spells_bufWrite.at hcode h
  case h_3 hcode => exact spells_bufRead.at hcode h
  case h_4 hcode => exact spells_commitStatus.at hcode h
  case h_5 hcode => exact spells_contourOpen.at hcode h
  case h_6 hcode => exact spells_contourAppend.at hcode h
  case h_7 hcode => exact spells_contourReplace.at hcode h
  case h_8 hcode => exact spells_contourClose.at hcode h
  case h_9 hcode => exact spells_contourDelete.at hcode h
  case h_10 hcode => exact spells_contourMove.at hcode h
  case h_11 hcode => exact spells_contourQuery.at hcode h
  case h_12 hcode => exact (spells_emptyBody (n := 12) rfl rfl).at hcode h
  case h_13 hcode => exact spells_filterSkip.at hcode h
  case h_14 hcode => exact (spells_emptyBody (n := 14) rfl rfl).at hcode h
  case h_15 hcode => exact (spells_emptyBody (n := 15) rfl rfl).at hcode h
  case h_16 hcode => exact (spells_emptyBody (n := 16) rfl rfl).at hcode h
  case h_17 hcode => exact spells_finishedRead.at hcode h
  case h_18 hcode => exact spells_matWrite.at hcode h
  case h_19 hcode => exact spells_matRead.at hcode h
  case h_20 hcode => exact spells_matInvalidate.at hcode h
  case h_21 hcode => exact spells_configSet.at hcode h
  case h_22 hcode => exact (spells_emptyBody (n := 22) rfl rfl).at hcode h
  case h_23 hcode => exact spells_wearConfig.at hcode h
  case h_24 hcode => exact spells_wearLevels.at hcode h
  case h_25 hcode => exact spells_wearLoad.at hcode h
  case h_26 hcode => exact spells_wearReset.at hcode h
  case h_27 hcode => exact (spells_emptyBody (n := 27) rfl rfl).at hcode h
  case h_28 hcode => exact spells_routeSet.at hcode h
  case h_29 hcode => exact (spells_emptyBody (n := 29) rfl rfl).at hcode h
  case h_30 hcode => exact spells_eventsAck.at hcode h
  case h_31 hcode => exact (spells_emptyBody (n := 31) rfl rfl).at hcode h
  case h_32 hcode => exact (spells_emptyBody (n := 32) rfl rfl).at hcode h
  case h_33 => cases h

/-- A well-formed BUF_WRITE is what its body decodes to (R28). -/
theorem decodeBufWrite_bytes (buffer startSlot : Byte) {records : List SegRecord} (h : 1 ≤ records.length ∧ records.length ≤ 32) :
    decodeBufWrite (buffer :: startSlot :: records.flatMap SegRecord.bytes) = some (.bufWrite buffer startSlot records) := by
  simp only [decodeBufWrite, decodeRecords_flatMap]
  exact if_pos h

theorem decodeMatWrite_bytes (index : Byte) (m : Material) :
    decodeMatWrite (index :: m.bytes) = some (.matWrite index m) := by
  simp only [decodeMatWrite, decodeMaterial_bytes, Option.map_some]

theorem decodeConfigSet_bytes (config : MachineConfig) : decodeConfigSet config.bytes = some (.configSet config) := by
  rw [decodeConfigSet, decodeConfig_bytes, Option.map_some]

theorem decodeCommand_bufWrite (body : List Byte) : decodeCommand 2 body = decodeBufWrite body := rfl

theorem decodeCommand_matWrite (body : List Byte) : decodeCommand 18 body = decodeMatWrite body := rfl

theorem decodeCommand_configSet (body : List Byte) : decodeCommand 21 body = decodeConfigSet body := rfl

/-- Every well-formed command is what its code and body decode to, row by row of R183. -/
theorem decodeCommand_of_encodeCommand {c : Instr} {code : Byte} {body : List Byte} (hwf : c.wellFormed = true)
    (h : encodeCommand c = some (code, body)) : decodeCommand code body = some c := by
  cases c
  case bufWrite buffer startSlot records =>
    cases h
    rw [decodeCommand_bufWrite]
    exact decodeBufWrite_bytes buffer startSlot (by simpa [Instr.wellFormed] using hwf)
  case matWrite index record =>
    cases h
    rw [decodeCommand_matWrite]
    exact decodeMatWrite_bytes index record
  case configSet record =>
    cases h
    rw [decodeCommand_configSet]
    exact decodeConfigSet_bytes record
  case bufClear | bufRead | commitStatus | finishedRead | matRead | matInvalidate | wearReset => cases h; rfl
  case queueList | hold | resume | skip | configRead | wearRead | eventsRead | status | jobReset => cases h; rfl
  case contourOpen | contourAppend | contourReplace | contourClose | contourDelete | contourMove | contourQuery | filterSkip
      | wearConfig | wearLevels | wearLoad | routeSet | eventsAck =>
    cases h
    exact congrArg some (by simp only [join2_split, join4_split])
  all_goals cases h

theorem records_length (records : List SegRecord) : (records.flatMap SegRecord.bytes).length = 24 * records.length := by
  rw [List.length_flatMap, List.map_eq_replicate_iff.2 (fun r _ => show r.bytes.length = 24 from rfl), List.sum_replicate,
    smul_eq_mul, Nat.mul_comm]

theorem material_length (m : Material) : m.bytes.length = 59 := by
  unfold Material.bytes
  simp only [List.length_append, split2, split3, List.length_cons, List.length_nil]

/-- The body of a well-formed command fits the port: at most the 770 bytes of 32 records (R182). -/
theorem length_le_of_encodeCommand {c : Instr} {code : Byte} {body : List Byte} (hwf : c.wellFormed = true)
    (h : encodeCommand c = some (code, body)) : body.length ≤ 770 := by
  cases c
  case bufWrite buffer startSlot records =>
    cases h
    have hlen : records.length ≤ 32 := by simp [Instr.wellFormed] at hwf; exact hwf.2
    rw [List.length_cons, List.length_cons, records_length]
    omega
  case matWrite index record =>
    cases h
    rw [List.length_cons, material_length]
    decide
  case bufClear | bufRead | commitStatus | finishedRead | matRead | matInvalidate | wearReset => cases h; simp
  case queueList | hold | resume | skip | configRead | wearRead | eventsRead | status | jobReset => cases h; decide
  case contourOpen | contourAppend | contourReplace | contourClose | contourDelete | contourMove | contourQuery | filterSkip
      | configSet | wearConfig | wearLevels | wearLoad | routeSet | eventsAck =>
    cases h
    simp [split2, split3, split4, MachineConfig.bytes]
  all_goals cases h

/-- Settles O9, one direction by the command and the other by the code. -/
theorem commandCodecRoundTrip : Obligations.CommandCodecRoundTrip :=
  ⟨fun _ _ _ hwf h => ⟨length_le_of_encodeCommand hwf h, decodeCommand_of_encodeCommand hwf h⟩,
    fun _ _ _ h => encodeCommand_of_decodeCommand h⟩

/-! ### A command written byte by byte -/

theorem feedBytes_cons (dma : Bool) (b : Byte) (rest : List Byte) (s : State) :
    feedBytes dma (b :: rest) s = feedBytes dma rest (dataWrite b s) := rfl

/-- What the port held before a command leaves no mark, as long as it was open. -/
theorem onJobPort_setPort {s : State} (hopen : portOpen s) (bytes : List Byte) (f : State → Reply) :
    (s.setPort { s.port with condition := .receiving bytes }).onJobPort f = s.onJobPort f := by
  rw [State.onJobPort_of_open hopen, State.onJobPort_of_open (.inr ⟨bytes, rfl⟩)]
  rfl

/-- The body's bytes written one by one: the last one hands the command over (R182). -/
theorem feedBytes_body {dma : Bool} {code n0 n1 : Byte} {s : State} (hopen : portOpen s) (hlen : (join2 n0 n1).toNat ≤ 770)
    (rest : List Byte) : ∀ sent, rest ≠ [] → sent.length + rest.length = (join2 n0 n1).toNat →
      feedBytes dma rest (s.setPort { s.port with condition := .receiving (code :: n0 :: n1 :: sent) })
        = .next (s.onJobPort (runBytes code (sent ++ rest))) := by
  induction rest with
  | nil => exact fun _ h => absurd rfl h
  | cons b rest ih =>
    intro sent _ htotal
    rw [feedBytes_cons, dataWrite_of_receiving rfl]
    simp only [List.cons_append]
    cases rest with
    | nil =>
      rw [countBytes_of_complete hlen (by simpa using htotal), onJobPort_setPort hopen]
      rfl
    | cons b' rest =>
      rw [countBytes_of_partial hlen (by simp at htotal ⊢; omega)]
      have hnext := ih (sent ++ [b]) (by simp) (by simp at htotal ⊢; omega)
      rw [List.append_assoc] at hnext
      exact hnext

/-- The header's length bytes say the length of a body that fits (R182). -/
theorem join2_of_length {body : List Byte} (h : body.length ≤ 770) :
    (join2 ((BitVec.ofNat 16 body.length).extractLsb' 0 8) ((BitVec.ofNat 16 body.length).extractLsb' 8 8)).toNat
      = body.length := by
  rw [join2_split, BitVec.toNat_ofNat]
  omega

/-- The header's three bytes, from WAIT_HEADER on (R182). -/
theorem feedBytes_header {s : State} (hwait : s.port.condition = .waitHeader) (dma : Bool) (code n0 n1 : Byte)
    (rest : List Byte) : feedBytes dma (code :: n0 :: n1 :: rest) s
      = feedBytes dma rest (countBytes [code, n0, n1] (s.setPort { s.port with condition := .receiving [code, n0] })) := by
  rw [feedBytes_cons, dataWrite_of_waitHeader hwait]
  rfl

/-- Settles O8: the header is counted, then the body up to its last byte, with which the command is carried out. -/
theorem wholeCommandRunsItsRow : Obligations.WholeCommandRunsItsRow := by
  intro dma c code body s hwf hcode hwait
  have hlen := length_le_of_encodeCommand hwf hcode
  have hruns : runBytes code body = runCommand c := runBytes_of_some (decodeCommand_of_encodeCommand hwf hcode)
  have hopen : portOpen s := .inl hwait
  have hjoin := join2_of_length hlen
  rw [exec_of_command (by rw [hcode]; rfl), commandBytes, split2, ← hruns]
  simp only [List.cons_append, List.nil_append]
  rw [feedBytes_header hwait]
  cases body with
  | nil =>
    rw [countBytes_of_complete (by rw [hjoin]; decide) hjoin.symm, onJobPort_setPort hopen]
    rfl
  | cons b rest =>
    rw [countBytes_of_partial (by omega) (by rw [hjoin]; simp)]
    exact feedBytes_body hopen (by omega) (b :: rest) [] (by simp) (by rw [hjoin]; simp)

end Sys2Proof.Proofs

/-! PROOFS. The commands that are refused, and those that only read or ask for work, answered one by one (R13, R14, R28, R30,
R31, R37, R61, R180, R184, R185, R187). -/

namespace Sys2Proof.Proofs

open Sys2Proof Sys2Proof.Machine

/-! ### Answers -/

theorem badArg_eq (offset : Nat) (s : State) : badArg offset s = (badField offset, s) := rfl

theorem refusePlain_eq (status : Status) (s : State) : refusePlain status s = (plainRefusal status, s) := rfl

/-- The state a command's block takes: the port in EXECUTING (R182). -/
abbrev atWork (s : State) : State := s.setPort { s.port with condition := .executing }

/-- A command whose block answers without a change leaves only its response. -/
theorem exec_answers {c : Instr} (hc : (encodeCommand c).isSome = true) {s : State} (hopen : portOpen s) {r : Response}
    (h : runCommand c (atWork s)
      = (r, atWork s)) : exec c s = .next (s.respond r) := by
  rw [exec_of_command hc, onJobPort_of_unchanged hopen h]

@[simp] theorem setPort_entry (s : State) (p : JobPort) (id : Nat) : (s.setPort p).entry id = s.entry id := rfl

@[simp] theorem setPort_segments (s : State) (p : JobPort) (e : Entry) : (s.setPort p).segments e = s.segments e := rfl

/-- An entry has begun exactly where it is ACTIVE, HELD or FAILED. -/
theorem begun_eq_true_iff (st : EntryState) : st.begun = true ↔ st ∈ [.active, .held, .failed] := by cases st <;> simp [EntryState.begun]

theorem begun_eq_false_iff (st : EntryState) : st.begun = false ↔ st ∈ [.loading, .waitingPlan, .planning, .ready] := by
  cases st <;> simp [EntryState.begun]

/-! ### Commands on the buffers -/

section
variable {buffer startSlot pos : Byte} {records : List SegRecord} {id : BitVec 16} {u : State} {name : BufferName} {e : Entry}

theorem bufWrite_wrongLength (h : records.length = 0 ∨ 32 < records.length) :
    bufWriteCommand buffer startSlot records u = (⟨.badCommand, .empty⟩, u) := if_pos (by omega)

theorem bufWrite_inLength (h : 1 ≤ records.length) (h' : records.length ≤ 32) (hname : BufferName.ofByte buffer = some name) :
    bufWriteCommand buffer startSlot records u
      = if 31 < startSlot.toNat ∧ startSlot ≠ 255 then (badField 1, u)
        else if (u.buffer name).state = .free then
          okay (.writePointer ((u.buffer name).write startSlot records).pointer)
            (u.setBuffer name ((u.buffer name).write startSlot records))
        else (plainRefusal .busy, u) := by
  unfold bufWriteCommand
  rw [if_neg (not_not_intro ⟨h, h'⟩), hname]
  rfl

theorem contourAppend_named (hname : BufferName.ofByte buffer = some name) (he : u.entry id.toNat = some e) :
    contourAppendCommand buffer id u
      = if e.state ≠ .loading then (plainRefusal .wrongState, u)
        else if (u.buffer name).state ≠ .free then (plainRefusal .busy, u)
        else
          match (u.buffer name).fill with
          | none => (plainRefusal .gap, u)
          | some k =>
            if 32 ≤ e.pages.length + pendingAppends u id.toNat then (plainRefusal .full, u)
            else
              match u.freePages with
              | [] => (plainRefusal .full, u)
              | page :: rest => acceptCommit ⟨.append, name, id.toNat, true, k, page⟩ (u.setFreePages rest) := by
  unfold contourAppendCommand
  rw [hname]
  simp only [he]
  rfl

theorem contourReplace_named (hname : BufferName.ofByte buffer = some name) (he : u.entry id.toNat = some e) :
    contourReplaceCommand buffer id pos u
      = if e.state.begun then (plainRefusal .wrongState, u)
        else
          match e.pages[pos.toNat]? with
          | none => (badField 3, u)
          | some page =>
            if (u.buffer name).state ≠ .free then (plainRefusal .busy, u)
            else
              match (u.buffer name).fill with
              | none => (plainRefusal .gap, u)
              | some k => acceptCommit ⟨.replace, name, id.toNat, true, k, page⟩ u := by
  unfold contourReplaceCommand
  rw [hname]
  simp only [he]
  rfl

end

/-- Settles O17, check by check. -/
theorem commitRefusals : Obligations.CommitRefusals := by
  intro buffer startSlot pos records id s hopen
  refine ⟨fun h => exec_answers rfl hopen (bufWrite_wrongLength h), fun h0 h1 => ?_, fun name hname => ?_⟩
  · have hnone := bufferName_ofByte_eq_none h0 h1
    refine ⟨fun hlow hhigh => exec_answers rfl hopen ?_, exec_answers rfl hopen ?_, exec_answers rfl hopen ?_⟩
    · simp [runCommand, bufWriteCommand, hlow, hhigh, hnone, badArg_eq]
    · simp [runCommand, contourAppendCommand, hnone, badArg_eq]
    · simp [runCommand, contourReplaceCommand, hnone, badArg_eq]
  · refine ⟨fun hlow hhigh h31 h255 => exec_answers rfl hopen ?_, fun hlow hhigh hslot hbusy => exec_answers rfl hopen ?_,
      fun habsent => ⟨exec_answers rfl hopen ?_, exec_answers rfl hopen ?_⟩, fun e he => ?_⟩
    · exact (bufWrite_inLength hlow hhigh hname).trans (if_pos ⟨h31, h255⟩)
    · exact (bufWrite_inLength hlow hhigh hname).trans ((if_neg (by rintro ⟨h, h'⟩; exact hslot.elim (by omega) h')).trans
        (if_neg (by simpa using hbusy)))
    · simp [runCommand, contourAppendCommand, hname, habsent, refusePlain_eq]
    · simp [runCommand, contourReplaceCommand, hname, habsent, refusePlain_eq]
    · have happend := contourAppend_named (u := atWork s) hname he
      have hreplace := contourReplace_named (pos := pos) (u := atWork s) hname he
      simp only [setPort_buffer, State.setPort_freePages] at happend hreplace
      have hpending : pendingAppends (atWork s) id.toNat
          = s.engine.countP (fun c => c.kind == .append && c.contour == id.toNat && c.bound) := rfl
      refine ⟨fun hstate => exec_answers rfl hopen (happend.trans ?_), fun hstate hbusy => exec_answers rfl hopen (happend.trans ?_),
        fun hstate hfree hgap => exec_answers rfl hopen (happend.trans ?_),
        fun hstate hfree hfill hfull => exec_answers rfl hopen (happend.trans ?_),
        fun hbegun => exec_answers rfl hopen (hreplace.trans ?_),
        fun hstate hpos => exec_answers rfl hopen (hreplace.trans ?_),
        fun hstate hpos hbusy => exec_answers rfl hopen (hreplace.trans ?_),
        fun hstate hpos hfree hgap => exec_answers rfl hopen (hreplace.trans ?_)⟩
      · simp [hstate]
      · simp [hstate, hbusy]
      · simp [hstate, hfree, hgap]
      · obtain ⟨k, hk⟩ := Option.ne_none_iff_exists'.1 hfill
        rw [hpending]
        rcases hfull with hfull | hempty
        · simp [hstate, hfree, hk, hfull]
        · simp [hstate, hfree, hk, hempty]
      · simp [(begun_eq_true_iff _).2 hbegun]
      · simp [(begun_eq_false_iff _).2 hstate, List.getElem?_eq_none hpos]
      · simp [(begun_eq_false_iff _).2 hstate, List.getElem?_eq_getElem hpos, hbusy]
      · simp [(begun_eq_false_iff _).2 hstate, List.getElem?_eq_getElem hpos, hfree, hgap]

/-! ### Commits asked for -/

/-- A commit taken by the engine: its place in the engine's order, its buffer's state, and its entry's commits pending (R30,
R32, R6). -/
theorem acceptCommit_eq (c : Commit) (u : State) {st : BufferState} (hst : st = if u.engine = [] then .committing else .commitWaiting) :
    acceptCommit c u = okay (.pageAndState c.page st)
      (((u.setEngine (u.engine ++ [c])).setBuffer c.buffer { u.buffer c.buffer with state := st }).setQueue
        (u.queue.map fun x => if x.contourId = c.contour then { x with commitsPending := x.commitsPending + 1 } else x)) := by
  have hstate : (if u.engine.isEmpty then BufferState.committing else .commitWaiting) = st := by
    simp only [hst, List.isEmpty_iff]
  unfold acceptCommit
  rw [hstate]
  obtain ⟨kind, name, contour, bound, fill, page⟩ := c
  cases name <;> rfl

/-- Settles O16: the accepting branch of each command, and what its commit does. -/
theorem commitsAccepted : Obligations.CommitsAccepted := by
  intro buffer id s name e k st hopen hname he hfree hfill hst
  refine ⟨fun page rest hloading hroom hpages => ?_, fun pos page hstate hpage => ?_⟩
  · have hrun : runCommand (.contourAppend buffer id) (atWork s)
        = acceptCommit ⟨.append, name, id.toNat, true, k, page⟩
            ((atWork s).setFreePages rest) := by
      have hcount : pendingAppends (atWork s) id.toNat
          = s.engine.countP (fun c => c.kind == .append && c.contour == id.toNat && c.bound) := rfl
      refine (contourAppend_named (u := atWork s) hname he).trans ?_
      simp [hloading, hfree, hfill, hcount, Nat.not_le.2 hroom, hpages]
    rw [exec_of_command rfl, State.onJobPort_of_open hopen, hrun,
      acceptCommit_eq _ ((atWork s).setFreePages rest) hst]
    cases name <;> rfl
  · have hrun : runCommand (.contourReplace buffer id pos) (atWork s)
        = acceptCommit ⟨.replace, name, id.toNat, true, k, page⟩ (atWork s) := by
      refine (contourReplace_named (u := atWork s) hname he).trans ?_
      simp [(begun_eq_false_iff _).2 hstate, hfree, hfill, hpage]
    rw [exec_of_command rfl, State.onJobPort_of_open hopen, hrun, acceptCommit_eq _ (atWork s) hst]
    cases name <;> rfl

/-! ### Commands that only read -/

/-- An index of the material table, as the operand byte names it. -/
theorem ofNat_index {index : Byte} {m : Fin 24} (h : m.val = index.toNat) : Fin.ofNat 24 index.toNat = m :=
  Fin.ext (by rw [Fin.val_ofNat, ← h]; exact Nat.mod_eq_of_lt m.isLt)

/-- A comparison with an index is one of records. -/
theorem val_beq_index {index : Byte} {m : Fin 24} (h : m.val = index.toNat) (i : Fin 24) :
    (i.val == index.toNat) = (i == m) := by
  rw [← h, Bool.eq_iff_iff, beq_iff_eq, beq_iff_eq, Fin.ext_iff]

theorem matReadCommand_of_index {index : Byte} {m : Fin 24} (h : m.val = index.toNat) (s : State) :
    matReadCommand index s = okay (.material
      ⟨(s.materials[m]).revision.toNat, s.queue.countP (fun e => e.material == m),
        (s.queue.find? fun e => e.state.begun && e.material == m).map Entry.contourId, (s.materials[m]).fields⟩) s := by
  have hrange : ¬ 23 < index.toNat := by omega
  simp only [matReadCommand, hrange, if_false, ofNat_index h, headUser, val_beq_index h]

/-- The places a cursor stands at, as CONTOUR_QUERY reports them. -/
theorem cursorPlace_eq (segs : List SegRecord) (passes : Nat) : State.cursorPlace segs passes = fun
    | .seg p => p
    | .fin => ⟨segs.length, passes⟩ := by
  funext c
  cases c <;> rfl

/-- Settles O32, command by command. -/
theorem readsChangeNothing : Obligations.ReadsChangeNothing := by
  intro s hopen
  refine ⟨fun buffer name hname => exec_answers rfl hopen ?_, fun id e he => exec_answers rfl hopen ?_,
    exec_answers rfl hopen rfl, fun index m hm => exec_answers rfl hopen (matReadCommand_of_index hm (s.setPort _)),
    exec_answers rfl hopen rfl,
    exec_answers rfl hopen rfl, exec_answers rfl hopen rfl, exec_answers rfl hopen rfl,
    fun buffer h0 h1 => exec_answers rfl hopen ?_, fun index h => exec_answers rfl hopen (if_pos h)⟩
  · simp [runCommand, commitStatusCommand, hname, okay]
  · simp only [runCommand, contourQueryCommand, setPort_entry, he, okay, viewEntry, cursorPlace_eq]
    rfl
  · simp [runCommand, commitStatusCommand, bufferName_ofByte_eq_none h0 h1, badArg_eq]

end Sys2Proof.Proofs

/-! PROOFS. Filling the slots of a staging buffer and the fill that a commit asks for (R28, R30). -/

namespace Sys2Proof.Proofs

open Sys2Proof Sys2Proof.Machine

/-! ### The fill of a buffer -/

/-- The filled slots are exactly the leading ones, k in number, where filled means before slot k (R30). -/
theorem leadingRecords_gapless (l : List (Option SegRecord)) : ∀ k,
    ((leadingRecords l).length = k ∧ l.countP Option.isSome = k) ↔ ∀ i, (l.getD i none).isSome = true ↔ i < k := by
  induction l with
  | nil =>
    intro k
    constructor
    · rintro ⟨rfl, -⟩ i
      simp [leadingRecords]
    · intro hall
      have hk : k = 0 := by simpa using hall 0
      exact ⟨hk.symm, hk.symm⟩
  | cons x rest ih =>
    intro k
    cases x with
    | none =>
      rw [show leadingRecords (none :: rest) = [] from rfl, List.countP_cons_of_neg (by simp)]
      constructor
      · rintro ⟨rfl, hcount⟩ i
        cases i with
        | zero => simp
        | succ i =>
          rw [List.getD_cons_succ]
          cases hi : rest[i]? with
          | none => simp [List.getD_eq_getElem?_getD, hi]
          | some y => simpa [List.getD_eq_getElem?_getD, hi] using List.countP_eq_zero.1 hcount y (List.mem_of_getElem? hi)
      · intro hall
        have hk : k = 0 := by simpa using hall 0
        subst hk
        refine ⟨rfl, List.countP_eq_zero.2 fun y hy hsome => ?_⟩
        obtain ⟨i, hi⟩ := List.getElem?_of_mem hy
        exact absurd ((hall (i + 1)).1 (by simpa [List.getD_eq_getElem?_getD, hi] using hsome)) (Nat.not_lt_zero _)
    | some r =>
      rw [show leadingRecords (some r :: rest) = r :: leadingRecords rest from rfl, List.countP_cons_of_pos (by rfl),
        List.length_cons]
      cases k with
      | zero => exact ⟨fun h => absurd h.1 (Nat.succ_ne_zero _), fun hall => absurd ((hall 0).1 rfl) (Nat.lt_irrefl 0)⟩
      | succ k =>
        rw [Nat.succ_inj, Nat.succ_inj, ih k]
        constructor
        · intro hall i
          cases i with
          | zero => simp
          | succ i => rw [List.getD_cons_succ, hall i, Nat.succ_lt_succ_iff]
        · intro hall i
          rw [← List.getD_cons_succ (x := some r), hall (i + 1), Nat.succ_lt_succ_iff]

/-- Settles O15: the fill is the number of leading records where those are all the filled slots. -/
theorem fillMeansGapless : Obligations.FillMeansGapless := by
  intro b k
  have hgapless := leadingRecords_gapless b.slots.toList k
  have hfill : b.fill = some k ↔ 1 ≤ k ∧ (leadingRecords b.slots.toList).length = k ∧ b.slots.toList.countP Option.isSome = k := by
    unfold Buffer.fill
    dsimp only
    split_ifs with hcond
    · rw [Option.some_inj]
      exact ⟨fun h => ⟨h ▸ hcond.1, h, h ▸ hcond.2⟩, fun h => h.2.1⟩
    · exact ⟨nofun, fun ⟨hpos, hlen, hcount⟩ => absurd ⟨hlen ▸ hpos, hlen ▸ hcount⟩ hcond⟩
  rw [hfill, hgapless]
  constructor
  · rintro ⟨hpos, hall⟩
    refine ⟨hpos, ?_, fun i h => by rw [← hall i, slots_toList_getD b h]⟩
    by_contra hk
    have h32 := (hall 32).2 (by omega)
    rw [List.getD_eq_default _ _ (by rw [Vector.length_toList])] at h32
    exact Bool.noConfusion h32
  · rintro ⟨hpos, hk, hall⟩
    refine ⟨hpos, fun i => ?_⟩
    by_cases hi : i < 32
    · rw [slots_toList_getD b hi, hall i hi]
    · rw [List.getD_eq_default _ _ (by rw [Vector.length_toList]; omega)]
      simp only [Option.isSome_none, Bool.false_eq_true, false_iff]
      omega

/-! ### Filling slots -/

theorem fillSlots_pointer (records : List SegRecord) : ∀ (slots : Vector (Option SegRecord) 32) (p : Fin 32),
    (fillSlots slots p records).2.val = (p.val + records.length) % 32 := by
  induction records with
  | nil => intro slots p; exact (Nat.mod_eq_of_lt p.isLt).symm
  | cons r rest ih =>
    intro slots p
    rw [fillSlots, ih, Fin.val_add, List.length_cons]
    have hone : (1 : Fin 32).val = 1 := rfl
    omega

/-- The records one after another from the pointer on, wrapping; every other slot is kept (R28). -/
theorem fillSlots_slot (records : List SegRecord) (hlen : records.length ≤ 32) :
    ∀ (slots : Vector (Option SegRecord) 32) (p : Fin 32) (k : Nat) (h : k < 32),
      (fillSlots slots p records).1[k]
        = if (k + 32 - p.val) % 32 < records.length then records[(k + 32 - p.val) % 32]? else slots[k] := by
  induction records with
  | nil => intro slots p k h; simp [fillSlots]
  | cons r rest ih =>
    intro slots p k h
    have hone : (1 : Fin 32).val = 1 := rfl
    have hp := p.isLt
    rw [List.length_cons] at hlen ⊢
    rw [fillSlots, ih (by omega), Fin.val_add, hone]
    by_cases hk : k = p.val
    · have hback : ¬ (k + 32 - (p.val + 1) % 32) % 32 < rest.length := by omega
      have hzero : (k + 32 - p.val) % 32 = 0 := by omega
      rw [if_neg hback, hzero, if_pos (Nat.succ_pos _)]
      simp [hk]
    · have hstep : (k + 32 - p.val) % 32 = (k + 32 - (p.val + 1) % 32) % 32 + 1 := by omega
      rw [hstep, List.getElem?_cons_succ]
      have hother : (slots.set p (some r))[k] = slots[k] := Vector.getElem_set_ne _ _ (by omega)
      simp only [hother, Nat.succ_lt_succ_iff]

/-- The slot a BUF_WRITE starts from: its start_slot, or the write pointer where 255 stands for an absent one (R28, R184). -/
theorem write_start {startSlot : Byte} {b : Buffer} {start : Nat}
    (h : startSlot.toNat ≤ 31 ∧ start = startSlot.toNat ∨ startSlot = 255 ∧ start = b.pointer.val) :
    (if startSlot = 255 then b.pointer else Fin.ofNat 32 startSlot.toNat).val = start := by
  rcases h with ⟨hle, rfl⟩ | ⟨rfl, rfl⟩
  · rw [if_neg (by rintro rfl; exact absurd hle (by decide)), Fin.val_ofNat]
    omega
  · rw [if_pos rfl]

/-- Settles O13: the accepted command writes its buffer, and the buffer is filled from the start on. -/
theorem bufWriteFillsSlots : Obligations.BufWriteFillsSlots := by
  intro buffer startSlot records s name start hopen hlow hhigh hname hfree hstart
  have hvalid : ¬ (31 < startSlot.toNat ∧ startSlot ≠ 255) := by
    rintro ⟨h, h'⟩
    exact hstart.elim (fun h => by omega) (fun h => h' h.1)
  have hpointer := write_start hstart
  have hend : ((s.buffer name).write startSlot records).pointer.val = (start + records.length) % 32 := by
    rw [← hpointer]
    exact fillSlots_pointer ..
  have hrun : runCommand (.bufWrite buffer startSlot records) (atWork s)
      = okay (.writePointer ((start + records.length) % 32)) ((atWork s).setBuffer name ((s.buffer name).write startSlot records)) := by
    refine (bufWrite_inLength hlow hhigh hname).trans ((if_neg hvalid).trans ((if_pos (by simpa using hfree)).trans ?_))
    simp only [setPort_buffer, hend]
  refine ⟨(s.setBuffer name ((s.buffer name).write startSlot records)).respond
    ⟨.ok, .writePointer ((start + records.length) % 32)⟩, ?_, ?_⟩
  · rw [exec_of_command rfl, State.onJobPort_of_open hopen, hrun]
    exact congrArg Host.Outcome.next (respond_setBuffer_setPort s .executing name _ _)
  · have hbuffer : ((s.setBuffer name ((s.buffer name).write startSlot records)).respond
        ⟨.ok, .writePointer ((start + records.length) % 32)⟩).buffer name = (s.buffer name).write startSlot records := by
      rw [State.respond, setPort_buffer, setBuffer_buffer_same]
    rw [hbuffer]
    refine ⟨rfl, hfree, rfl, hend, fun k h => ?_⟩
    rw [← hpointer]
    exact fillSlots_slot records hhigh ..

end Sys2Proof.Proofs

/-! PROOFS. Checks in the order of a table: what the first that fails answers; the checks of CONFIG_SET, of the material records,
and the refusals of the contour queue (R3, R10, R11, R13, R54, R55, R57, R185). -/

namespace Sys2Proof.Proofs

open Sys2Proof Sys2Proof.Machine

/-! ### The first check that fails -/

section
variable {α : Type} {checks l r : List (α × Prop)} {c : α × Prop} {answer a b : Option α}

theorem firstFailure_nil : firstFailure ([] : List (α × Prop)) none :=
  ⟨by simp, fun l c r h => by simp at h⟩

theorem firstFailure_cons_fails (h : c.2) : firstFailure (c :: r) (some c.1) := by
  refine ⟨by simp [h], fun l d r' heq hl hd => ?_⟩
  cases l with
  | nil => rw [(List.cons.inj heq).1]
  | cons x l => exact absurd ((List.cons.inj heq).1 ▸ h) (hl x List.mem_cons_self)

theorem firstFailure_cons_passes (h : ¬ c.2) (hr : firstFailure r answer) : firstFailure (c :: r) answer := by
  refine ⟨by rw [hr.1]; simp [h], fun l d r' heq hl hd => ?_⟩
  cases l with
  | nil => exact absurd ((List.cons.inj heq).1 ▸ hd) h
  | cons x l => exact hr.2 l d r' (List.cons.inj heq).2 (fun y hy => hl y (List.mem_cons_of_mem _ hy)) hd

/-- The first check decides, or the others do. -/
theorem firstFailure_cons [Decidable c.2] (hr : firstFailure r answer) :
    firstFailure (c :: r) (if c.2 then some c.1 else answer) := by
  split_ifs with h
  · exact firstFailure_cons_fails h
  · exact firstFailure_cons_passes h hr

/-- One table behind another, whose own answer matters where the first table answers none. -/
theorem firstFailure_append (hl : firstFailure l a) (hr : a = none → firstFailure r b) :
    firstFailure (l ++ r) (a.orElse fun _ => b) := by
  induction l generalizing a with
  | nil =>
    cases hl.1.2 (by simp)
    exact hr rfl
  | cons c l ih =>
    by_cases hc : c.2
    · rw [hl.2 [] c l rfl (by simp) hc]
      exact firstFailure_cons_fails hc
    · refine firstFailure_cons_passes hc (ih ⟨?_, fun l' d r' heq hall hd => ?_⟩ hr)
      · rw [hl.1]
        simp [hc]
      · exact hl.2 (c :: l') d r' (by rw [heq]; rfl) (by simpa [hc] using hall) hd

/-- A check that fails only behind one that has failed can be left out. -/
theorem firstFailure_drop (h : firstFailure (l ++ c :: r) a) (hc : c.2 → ∃ d ∈ l, d.2) : firstFailure (l ++ r) a := by
  induction l generalizing a with
  | nil =>
    have hnot : ¬ c.2 := fun hf => by simpa using hc hf
    refine ⟨by rw [h.1]; simp [hnot], fun l' d r' heq hall hd => h.2 (c :: l') d r' (by rw [List.nil_append] at heq; rw [heq]; rfl)
      (by simpa [hnot] using hall) hd⟩
  | cons x l ih =>
    by_cases hx : x.2
    · rw [h.2 [] x (l ++ c :: r) rfl (by simp) hx]
      exact firstFailure_cons_fails hx
    · refine firstFailure_cons_passes hx (ih ⟨by rw [h.1]; simp [hx], fun l' d r' heq hall hd => ?_⟩ fun hf => ?_)
      · exact h.2 (x :: l') d r' (by rw [List.cons_append, heq]; rfl) (by simpa [hx] using hall) hd
      · obtain ⟨d, hd, hdf⟩ := hc hf
        rcases List.mem_cons.1 hd with rfl | hd
        · exact absurd hdf hx
        · exact ⟨d, hd, hdf⟩

end

/-- A field's check fails exactly where its value is out of range. -/
theorem ok_eq_false_iff (f : FieldCheck) : f.ok = false ↔ f.fails.2 := by
  unfold FieldCheck.ok FieldCheck.fails
  simp only [Bool.and_eq_false_iff, decide_eq_false_iff_not, not_and_or]

/-- A table of ranges answers the offset of the first field out of its range. -/
theorem firstFailure_ranges (fields : List FieldCheck) :
    firstFailure (fields.map FieldCheck.fails) (firstOutOfRange fields) := by
  induction fields with
  | nil => exact firstFailure_nil
  | cons f rest ih =>
    unfold firstOutOfRange at ih ⊢
    rw [List.map_cons, List.find?_cons]
    cases hok : f.ok with
    | true => exact firstFailure_cons_passes (fun h => by simp [(ok_eq_false_iff f).2 h] at hok) ih
    | false => exact firstFailure_cons_fails ((ok_eq_false_iff f).1 hok)

/-- A table of ranges whose fields are all in range. -/
theorem firstOutOfRange_eq_none {fields : List FieldCheck} :
    firstOutOfRange fields = none ↔ ∀ f ∈ fields, f.low ≤ f.value ∧ f.value ≤ f.high := by
  rw [(firstFailure_ranges fields).1, List.forall_mem_map]
  exact forall₂_congr fun f _ => not_not

/-- A table of ranges with a field out of range behind fields that are in range. -/
theorem firstOutOfRange_eq_some {fields l r : List FieldCheck} {f : FieldCheck} (heq : fields = l ++ f :: r)
    (hl : ∀ g ∈ l, g.low ≤ g.value ∧ g.value ≤ g.high) (hf : ¬ (f.low ≤ f.value ∧ f.value ≤ f.high)) :
    firstOutOfRange fields = some f.offset := by
  refine (firstFailure_ranges fields).2 (l.map FieldCheck.fails) f.fails (r.map FieldCheck.fails) (by simp [heq]) ?_ hf
  intro d hd
  obtain ⟨g, hg, rfl⟩ := List.mem_map.1 hd
  exact not_not_intro (hl g hg)

/-! ### CONFIG_SET -/

theorem firstFailure_configFault (c : MachineConfig) :
    firstFailure ((configRanges c).map FieldCheck.fails ++ [(8, c.pumpPMax.toNat < c.pumpPMin.toNat)]) (configFault c) :=
  firstFailure_append (firstFailure_ranges _) fun _ => firstFailure_cons firstFailure_nil

theorem anyBegun_iff (s : State) : anyBegun s = true ↔ ∃ e ∈ s.queue, e.state ∈ [.active, .held, .failed] := by
  rw [anyBegun, List.any_eq_true]
  simp only [begun_eq_true_iff]

/-- Settles O35: the refusals, the acceptance, and the table of ranges. -/
theorem configReplaced : Obligations.ConfigReplaced := by
  intro record s hopen
  refine ⟨fun offset hfault => exec_answers rfl hopen ?_, fun hpass => ⟨fun hwrong => exec_answers rfl hopen ?_,
    fun hnone hbed => ?_⟩, firstFailure_configFault record⟩
  · simp [runCommand, configSetCommand, hfault, badArg_eq]
  · have hany : anyBegun (atWork s) = anyBegun s := rfl
    by_cases hbegun : anyBegun s = true
    · simp [runCommand, configSetCommand, hpass, hany, hbegun, refusePlain_eq]
    · obtain ⟨hne, hbed⟩ := hwrong.resolve_left fun h => hbegun ((anyBegun_iff s).2 h)
      simp [runCommand, configSetCommand, hpass, hany, hbegun, refusePlain_eq, hne, hbed]
  · have hbegun : anyBegun (atWork s) = false := by
      rw [Bool.eq_false_iff, ne_eq, anyBegun_iff]
      rintro ⟨e, he, hstate⟩
      have hnot := hnone e he
      rw [← begun_eq_true_iff] at hstate
      rw [← begun_eq_false_iff, hstate] at hnot
      cases hnot
    have hkeep : ¬ ((record.bedXMax ≠ s.config.bedXMax ∨ record.bedYMax ≠ s.config.bedYMax) ∧ s.queue ≠ []) := by
      rintro ⟨hx, hq⟩
      rcases hbed with h | ⟨h, h'⟩
      · exact hq h
      · exact hx.elim (fun hne => hne h) fun hne => hne h'
    have hrun : runCommand (.configSet record) (atWork s) = okay .empty ((atWork s).setConfig record) := by
      simp only [runCommand, configSetCommand, hpass, hbegun]
      exact if_neg hkeep
    rw [exec_of_command rfl, State.onJobPort_of_open hopen, hrun]
    rfl

/-! ### The refusals of the contour queue -/

/-- Settles O31: the header's ranges in their order, then the checks against the queue and the material table. -/
theorem queueRefusals : Obligations.QueueRefusals := by
  intro id tag beforeId material quality passes pierceMode closed startX startY s fields open_ hopen hcommand hfields
  subst hcommand
  have hheader : headerRanges s.config id.toNat material.toNat quality.toNat passes.toNat pierceMode.toNat closed.toNat
      startX.toNat startY.toNat = fields := hfields.symm
  have hmissing : (beforeId ≠ 0 ∧ s.entry beforeId.toNat = none) → beforeMissing (atWork s) beforeId = true := by
    rintro ⟨hne, hnone⟩
    rw [beforeMissing, optionalId, if_neg hne]
    simpa using hnone
  refine ⟨fun l f r heq hl hf => exec_answers rfl hopen ?_, fun hall => ⟨fun hfull => exec_answers rfl hopen ?_,
    fun hroom hdup => exec_answers rfl hopen ?_, fun hroom hnew habsent => exec_answers rfl hopen ?_⟩,
    fun habsent => ⟨exec_answers rfl hopen ?_, exec_answers rfl hopen ?_, exec_answers rfl hopen ?_⟩,
    fun e he => ⟨fun hbegun => ⟨exec_answers rfl hopen ?_, exec_answers rfl hopen ?_⟩, fun hwaits hb hnone => exec_answers rfl hopen ?_⟩⟩
  · simp only [runCommand, contourOpenCommand, State.setPort_config, hheader, firstOutOfRange_eq_some heq hl hf, badArg_eq]
  · simp [runCommand, contourOpenCommand, hheader, firstOutOfRange_eq_none.2 hall, refusePlain_eq, hfull]
  · simp [runCommand, contourOpenCommand, hheader, firstOutOfRange_eq_none.2 hall, refusePlain_eq, Nat.not_le.2 hroom,
      Option.isSome_iff_ne_none.2 hdup]
  · have hindex : (Fin.ofNat 24 material.toNat).val = material.toNat := by
      have hmat := hall ⟨4, material.toNat, 0, 23⟩ (by rw [hfields]; simp)
      rw [Fin.val_ofNat]
      exact Nat.mod_eq_of_lt (by have := hmat.2; simp at this; omega)
    rcases habsent with hinvalid | hbefore
    · have hnone := hinvalid _ hindex
      simp only [Fin.getElem_fin, Fin.val_ofNat] at hnone
      simp [runCommand, contourOpenCommand, hheader, firstOutOfRange_eq_none.2 hall, refusePlain_eq, Nat.not_le.2 hroom, hnew,
        hnone]
    · simp [runCommand, contourOpenCommand, hheader, firstOutOfRange_eq_none.2 hall, refusePlain_eq, Nat.not_le.2 hroom, hnew,
        hmissing hbefore]
  · simp [runCommand, contourDeleteCommand, habsent, refusePlain_eq]
  · simp [runCommand, contourMoveCommand, habsent, refusePlain_eq]
  · simp [runCommand, contourQueryCommand, habsent, refusePlain_eq]
  · simp [runCommand, contourDeleteCommand, he, refusePlain_eq, (begun_eq_true_iff _).2 hbegun]
  · simp [runCommand, contourMoveCommand, he, refusePlain_eq, (begun_eq_true_iff _).2 hbegun]
  · simp [runCommand, contourMoveCommand, he, refusePlain_eq, (begun_eq_false_iff _).2 hwaits, hmissing ⟨hb, hnone⟩]

end Sys2Proof.Proofs

/-! PROOFS. What the operations on the course of the contour never touch, and what they only gather: a property of the state
that the updates of the queue, the engine, the sequencer, the stream, the links and the wear counts keep is kept by every
operation made of them. -/

namespace Sys2Proof.Proofs

open Sys2Proof Sys2Proof.Machine

/-- A count on a counter: the value does not fall, and stays in range (R175). -/
def Counts (f : Counter → Counter) : Prop :=
  ∀ c, c.value ≤ 4294967295 → c.value ≤ (f c).value ∧ (f c).value ≤ 4294967295

/-- What operations other than the exchanges do to the records in flight: the oldest leave the window, and the repeat record
may be dropped. -/
structure Thins (x y : Stream) : Prop where
  window : y.window <:+ x.window
  again : y.again = x.again ∨ y.again = none
  nextSerial : y.nextSerial = x.nextSerial
  lastKind : y.lastKind = x.lastKind

theorem thins_of_same {x y : Stream} (hwindow : y.window = x.window := by rfl) (hagain : y.again = x.again := by rfl)
    (hnext : y.nextSerial = x.nextSerial := by rfl) (hkind : y.lastKind = x.lastKind := by rfl) : Thins x y :=
  ⟨hwindow ▸ List.suffix_refl _, .inl hagain, hnext, hkind⟩

theorem thins_dropped (x : Stream) (p : Placed → Bool) {y : Stream} (hwindow : y.window = x.window := by rfl)
    (hagain : y.again = x.again.filter p := by rfl) (hnext : y.nextSerial = x.nextSerial := by rfl)
    (hkind : y.lastKind = x.lastKind := by rfl) : Thins x y := by
  refine ⟨hwindow ▸ List.suffix_refl _, ?_, hnext, hkind⟩
  rw [hagain]
  cases x.again with
  | none => exact .inl rfl
  | some q =>
    cases h : p q with
    | true => exact .inl (by simp [Option.filter, h])
    | false => exact .inr (by simp [Option.filter, h])

/-- A property that the updates below keep. -/
structure Steady (R : State → Prop) : Prop where
  setQueue : ∀ {u} x, R u → R (u.setQueue x)
  setStore : ∀ {u} x, R u → R (u.setStore x)
  setFreePages : ∀ {u} x, R u → R (u.setFreePages x)
  setEngine : ∀ {u} x, R u → R (u.setEngine x)
  setFinished : ∀ {u} x, R u → R (u.setFinished x)
  setPlanner : ∀ {u} x, R u → R (u.setPlanner x)
  setJsq : ∀ {u} x, R u → R (u.setJsq x)
  setStream : ∀ {u} x, Thins u.stream x → R u → R (u.setStream x)
  endActive : ∀ {u}, R u → R u.endActive
  setPump : ∀ {u} x, R u → R (u.setPump x)
  raise : ∀ {u} src, R u → R (u.raise src)
  settle : ∀ {u}, R u → R u.settle
  countWear : ∀ {u} f, Counts f → R u → R (u.countWear f)

theorem counts_pierce : Counts Counter.pierce := by
  intro c hc
  unfold Counter.pierce Counter.add
  split
  · exact ⟨by simp; omega, by simp⟩
  · exact ⟨le_rfl, hc⟩

theorem counts_cut (length : Nat) : Counts (Counter.cut length) := by
  intro c hc
  unfold Counter.cut Counter.add
  split
  · exact ⟨by simp; omega, by simp⟩
  · exact ⟨le_rfl, hc⟩

namespace Steady

variable {R : State → Prop} {u v : State}

theorem cond {c : Prop} [Decidable c] (hu : R u) (hv : R v) : R (if c then u else v) := by
  split
  · exact hu
  · exact hv

/-! ### Settings, the due list and the engine -/

variable (h : Steady R)
include h

theorem makeDue (c : Control) (hu : R u) : R (u.makeDue c) := h.setStream _ thins_of_same hu
theorem makeStopDue (c : Control) (hu : R u) : R (u.makeStopDue c) := h.setStream _ (thins_dropped _ _) hu
theorem clearWindow (hu : R u) : R u.clearWindow := h.setStream _ ⟨List.nil_suffix, .inl rfl, rfl, rfl⟩ hu
theorem startStream (p : Place) (hu : R u) : R (u.startStream p) := h.setStream _ thins_of_same hu
theorem leavePhase (hu : R u) : R u.leavePhase := h.setJsq _ hu
theorem sequencerIdle (hu : R u) : R u.sequencerIdle := h.setJsq _ (h.leavePhase hu)
theorem modifyHead (f : Entry → Entry) (hu : R u) : R (u.modifyHead f) := h.setQueue _ hu
theorem modifyEntry (id : Nat) (f : Entry → Entry) (hu : R u) : R (u.modifyEntry id f) := h.setQueue _ hu
theorem issue (m : PumpMessage) (hu : R u) : R (u.issue m) := h.setPump _ hu
theorem jetOn (rate : Nat) (hu : R u) : R (u.jetOn rate) := h.setJsq _ (h.issue _ (h.issue _ hu))
theorem jetOff (hu : R u) : R u.jetOff := h.setJsq _ (h.issue _ (h.issue _ hu))
theorem issueIdlePressure (hu : R u) : R u.issueIdlePressure := h.issue _ hu
theorem pressureStep (target : Nat) (hu : R u) : R (u.pressureStep target) := h.setJsq _ (h.issue _ hu)
theorem startActiveJob (kind : JobKind) (e : Entry) (hu : R u) : R (u.startActiveJob kind e) := h.setPlanner _ hu

theorem holdAtDue (hu : R u) : R u.holdAtDue := by
  unfold State.holdAtDue
  split
  · exact cond (h.setStream _ thins_of_same (h.makeDue _ hu)) hu
  · exact hu

theorem chooseWork (hu : R u) : R u.chooseWork := by
  rcases State.chooseWork_cases u with hc | ⟨e, -, -, hc⟩ <;> rw [hc]
  · exact hu
  · exact h.modifyEntry _ _ (h.setPlanner _ hu)

theorem abandonPlan (id : Nat) (hu : R u) : R (u.abandonPlan id) := by
  rcases State.abandonPlan_cases id u with hc | ⟨_, -, -, -, hc⟩ <;> rw [hc]
  · exact hu
  · exact h.setPlanner _ hu

theorem dropRequest (hu : R u) : R u.dropRequest := by
  rcases State.dropRequest_cases u with ⟨-, hc⟩ | ⟨-, hc⟩ <;> rw [hc]
  · exact hu
  · exact h.chooseWork (h.setPlanner _ hu)

theorem takeRequest (kind : JobKind) (hu : R u) : R (u.takeRequest kind) := by
  unfold State.takeRequest
  split
  · exact hu
  · have hmark : R (if kind = .stop then u.setPlanner { u.planner with stopTaken := true } else u) :=
      cond (h.setPlanner _ hu) hu
    dsimp only
    split
    · exact h.startActiveJob _ _ hmark
    · split
      · exact h.startActiveJob _ _ (h.modifyEntry _ _ hmark)
      · split
        · exact h.startActiveJob _ _ hmark
        · exact hmark

/-! ### Rest, activation and leaving -/

theorem becomeHeld (cause : Cause) (point : Place) (hu : R u) : R (u.becomeHeld cause point) := by
  unfold State.becomeHeld
  split
  · exact hu
  · exact h.raise _ (h.dropRequest (h.sequencerIdle (h.endActive (h.modifyHead _ hu))))

theorem restAtOnce (hu : R u) : R u.restAtOnce :=
  h.clearWindow (h.leavePhase (cond (h.jetOff (h.makeStopDue _ hu)) (h.makeStopDue _ hu)))

theorem immediateHold (cause : Cause) (hu : R u) : R (u.immediateHold cause) := by
  unfold State.immediateHold
  split
  · exact hu
  · exact h.becomeHeld _ _ (h.restAtOnce hu)

theorem pumpSilenceAtStart (hu : R u) : R u.pumpSilenceAtStart := cond (h.immediateHold _ hu) hu

theorem silenceAtStart (hu : R u) : R u.silenceAtStart := h.pumpSilenceAtStart (cond (h.immediateHold _ hu) hu)

theorem startSequence (e : Entry) (mode : PierceMode) (x y : Nat) (hu : R u) : R (u.startSequence e mode x y) :=
  h.setJsq _ (h.pressureStep _ (h.makeDue _ hu))

theorem activate (e : Entry) (hu : R u) : R (u.activate e) :=
  have hbegun := h.raise .contourStart (h.setPlanner { u.planner with stopTaken := false }
    (h.startStream ⟨0, 1⟩ (h.modifyHead Entry.activate hu)))
  h.silenceAtStart (h.startSequence e e.pierceMode e.startX e.startY (h.makeDue (.contourBegin e.contourId)
    (cond hbegun (h.takeRequest _ hbegun))))

theorem tryActivate (hu : R u) : R u.tryActivate := by
  rcases State.tryActivate_cases u with hc | ⟨e, _, -, -, -, -, hc⟩ <;> rw [hc]
  · exact hu
  · exact h.activate e hu

theorem runOn (hu : R u) : R u.runOn := cond (h.tryActivate hu) (h.raise _ (h.issueIdlePressure hu))

theorem addFinished (f : Finished) (hu : R u) : R (u.addFinished f) := h.raise _ (h.setFinished _ hu)

theorem removeEntry (e : Entry) (outcome : Option Outcome) (hu : R u) : R (u.removeEntry e outcome) := by
  have hleft := h.setEngine (u.engine.map fun c => if c.contour = e.contourId then { c with bound := false } else c)
    (h.setQueue (u.queue.filter fun x => x.contourId != e.contourId) (h.setStore (erasePages e.pages u.store)
      (h.setFreePages (u.freePages ++ e.pages) hu)))
  have hcursor := cond (c := e.state.begun = true) (h.setStream { u.stream with cursor := none, lastExit := none } thins_of_same hleft) hleft
  cases outcome with
  | none => exact hcursor
  | some o => exact h.addFinished _ hcursor

theorem skipHead (hu : R u) : R u.skipHead := by
  unfold State.skipHead
  split
  · exact hu
  · exact h.runOn (h.dropRequest (h.sequencerIdle (h.setStream _ thins_of_same (h.removeEntry _ _ (cond (h.endActive hu) hu)))))

theorem immediateRest (cause : Cause) (ending : Ending) (hu : R u) : R (u.immediateRest cause ending) := by
  unfold State.immediateRest
  split
  · exact hu
  · cases ending with
    | held => exact h.immediateHold cause hu
    | skipped => exact h.skipHead (h.modifyHead _ (h.restAtOnce hu))

theorem finish (hu : R u) : R u.finish := by
  unfold State.finish
  split
  · exact hu
  · exact h.dropRequest (h.setJsq _ (h.makeDue _ (h.removeEntry _ _ (h.clearWindow (h.leavePhase (h.endActive hu))))))

theorem restAtDone (cause : Cause) (ending : Ending) (hu : R u) : R (u.restAtDone cause ending) := by
  unfold State.restAtDone
  split
  · exact hu
  · refine cond (h.finish (h.clearWindow hu)) ?_
    cases ending with
    | held => exact h.becomeHeld _ _ (h.clearWindow hu)
    | skipped => exact h.skipHead (h.clearWindow hu)

/-! ### Segments done, faults and events -/

theorem segmentDone (e : Entry) (index : Nat) (hu : R u) : R (u.segmentDone e index) := by
  unfold State.segmentDone
  dsimp only
  split
  · exact cond (h.modifyHead _ hu) (h.countWear _ (counts_cut _) (h.modifyHead _ hu))
  · exact h.modifyHead _ hu

theorem confirm (serial : Serial) (e : Entry) (hu : R u) : R (u.confirm serial e) :=
  confirm_keeps e (fun _ _ => h.segmentDone e _) serial hu

theorem startAbort (cause : Cause) (ending : Ending) (hu : R u) : R (u.startAbort cause ending) :=
  h.dropRequest (h.setJsq _ (h.leavePhase (h.makeStopDue _ (h.jetOff hu))))

theorem faultWhileCutting (f : FaultEvent) (ending : Ending) (e : Entry) (hu : R u) :
    R (u.faultWhileCutting f ending e) := by
  cases f with
  | linkSilence => exact h.restAtDone _ _ (h.makeStopDue _ (h.jetOff hu))
  | linkCheck => exact h.restAtDone _ _ (h.makeStopDue _ (h.jetOff hu))
  | motionFault => exact h.restAtDone _ _ (h.jetOff hu)
  | starved serial => exact h.restAtDone _ _ (h.confirm serial e (h.jetOff hu))
  | _ => exact h.startAbort _ _ hu

theorem endAbort (hu : R u) : R u.endAbort := h.restAtDone _ _ hu

theorem faultWhileAborting (f : FaultEvent) (e : Entry) (hu : R u) : R (u.faultWhileAborting f e) := by
  have hseen := h.modifyHead Entry.seeLaterFault hu
  cases f with
  | starved serial => exact h.endAbort (h.confirm serial e hseen)
  | motionFault => exact h.endAbort hseen
  | linkSilence => exact h.endAbort hseen
  | _ => exact hseen

theorem takeFault (f : FaultEvent) (hu : R u) : R (u.takeFault f) := by
  unfold State.takeFault
  split
  · exact hu
  · split
    case h_7 => exact h.faultWhileCutting _ _ _ hu
    case h_8 => exact h.faultWhileCutting _ _ _ (h.modifyHead _ (h.setJsq _ hu))
    case h_9 => exact h.faultWhileAborting _ _ hu
    case h_10 => exact hu
    case h_11 => exact hu
    all_goals exact h.immediateHold _ hu

theorem openJet (e : Entry) (hu : R u) : R (u.openJet e) := cond (h.setJsq _ (h.jetOn _ hu)) (h.setJsq _ (h.jetOn _ hu))

theorem afterPierce (e : Entry) (hu : R u) : R (u.afterPierce e) := by
  unfold State.afterPierce
  split
  · exact h.setJsq _ (h.pressureStep _ hu)
  · exact h.setJsq _ hu

theorem pierceExpires (hu : R u) : R u.pierceExpires := by
  rcases State.pierceExpires_cases u with hc | ⟨e, -, -, -, hc⟩ <;> rw [hc]
  · exact hu
  · exact h.settle (h.afterPierce e (h.countWear _ counts_pierce (h.setJsq _ hu)))

theorem pierceAtOnce (old : State) (hu : R u) : R (u.pierceAtOnce old) := cond (h.pierceExpires hu) hu

theorem positioningEnd (e : Entry) (hu : R u) : R (u.positioningEnd e) := cond (h.openJet e hu) hu

theorem onArrived (serial : Serial) (hu : R u) : R (u.onArrived serial) := by
  unfold State.onArrived
  split
  · exact hu
  · exact cond (h.positioningEnd _ (h.setJsq _ hu)) hu

theorem onPressureReady (hu : R u) : R u.onPressureReady := by
  unfold State.onPressureReady
  split
  · exact hu
  · have hclosed : R (u.setJsq { u.jsq with wait := none }) := h.setJsq _ hu
    dsimp only
    split
    · exact hclosed
    · split
      · exact h.positioningEnd _ hclosed
      · exact h.openJet _ hclosed
      · exact h.setJsq _ hclosed
      · exact hclosed

theorem holdingEnd (hu : R u) : R u.holdingEnd := by
  unfold State.holdingEnd
  split
  · refine cond ?_ hu
    split
    · exact h.becomeHeld _ _ (h.jetOff hu)
    · exact h.skipHead (h.jetOff hu)
  · exact hu

theorem sequencerSegDone (e : Entry) (p : Place) (hu : R u) : R (u.sequencerSegDone e p) := by
  unfold State.sequencerSegDone
  dsimp only
  split
  · split
    · exact h.finish (h.jetOff hu)
    · exact cond (h.setJsq _ (h.jetOff hu)) hu
  · exact cond (h.setJsq _ (h.pressureStep _ hu)) hu
  · split
    · exact h.finish (h.jetOff hu)
    · exact h.holdingEnd hu
  · exact hu

/-! ### Holds, skips and resumes -/

theorem plannedStop (ending : Ending) (hu : R u) : R (Machine.plannedStop ending u) := h.setJsq _ (h.takeRequest _ hu)

theorem holdHead (hu : R u) (hv : Machine.holdHead u = some v) : R v := by
  unfold Machine.holdHead at hv
  split at hv
  · cases hv
  · split_ifs at hv <;> cases hv
    · exact h.plannedStop _ hu
    · exact h.immediateRest _ _ hu
    · exact hu

theorem skipRequest (hu : R u) (hv : Machine.skipRequest u = some v) : R v := by
  unfold Machine.skipRequest at hv
  split at hv
  · cases hv
  · split at hv
    · split_ifs at hv <;> cases hv
      · exact h.plannedStop _ hu
      · exact h.immediateRest _ _ hu
      · exact h.setJsq _ hu
    · cases hv; exact h.skipHead hu
    · cases hv; exact h.skipHead hu
    · cases hv

theorem resumeHead (hu : R u) : R (Machine.resumeHead u) := by
  unfold Machine.resumeHead
  split
  · exact hu
  · exact h.pumpSilenceAtStart (h.startSequence _ _ _ _ (h.takeRequest _ (h.startStream _ (h.setPlanner _ (h.modifyHead _ hu)))))

/-! ### Reports -/

theorem reportSegDone (serial : Serial) (hu : R u) : R (Machine.reportSegDone serial u) := by
  unfold Machine.reportSegDone
  split
  · next f rest hwindow =>
    have hleft : R (u.setStream { u.stream with window := rest }) :=
      h.setStream _ ⟨hwindow ▸ List.suffix_cons f rest, .inl rfl, rfl, rfl⟩ hu
    refine cond ?_ (h.raise _ hu)
    unfold acceptSegDone
    dsimp only
    split
    · exact h.sequencerSegDone _ _ (h.segmentDone _ _ hleft)
    · exact hleft
  · exact h.raise _ hu

theorem reportStopped (serial : Serial) (hu : R u) : R (Machine.reportStopped serial u) := by
  unfold Machine.reportStopped
  split
  · exact cond (h.endAbort (h.confirm _ _ hu)) hu
  · exact hu

/-- A report, EVENT_ACK apart, which takes sources out of MATN's set. -/
theorem takeReport {r : Report} (hr : ∀ mask, r ≠ .eventAck mask) (hu : R u) : R (Machine.takeReport r u) := by
  cases r with
  | nothing => exact hu
  | segDone serial => exact h.reportSegDone serial hu
  | arrived serial => exact h.onArrived serial hu
  | stopped serial => exact h.reportStopped serial hu
  | holdReq =>
    unfold Machine.takeReport
    cases hv : Machine.holdHead u with
    | none => exact hu
    | some t => exact h.holdHead hu hv
  | resumeReq => exact cond (h.resumeHead hu) hu
  | skipReq =>
    unfold Machine.takeReport
    cases hv : Machine.skipRequest u with
    | none => exact hu
    | some t => exact h.skipRequest hu hv
  | motionFault => exact h.takeFault _ hu
  | starvedStop serial => exact cond (h.takeFault _ (h.raise _ hu)) hu
  | linkError => exact h.takeFault _ (h.raise _ hu)
  | eventAck mask => exact absurd rfl (hr mask)

/-! ### The pump's reports and the completion of planning jobs -/

theorem pumpHeard (hu : R u) : R (Machine.pumpHeard u) := h.setPump _ hu

theorem judgeFaultCode (r : PumpReport) (hu : R u) : R (Machine.judgeFaultCode r u) :=
  cond hu (h.takeFault _ (cond hu (h.raise _ hu)))

theorem judgeReady (r : PumpReport) (hu : R u) : R (Machine.judgeReady r u) :=
  cond (h.onPressureReady (h.setPump _ hu)) hu

theorem judgeSag (r : PumpReport) (hu : R u) : R (Machine.judgeSag r u) :=
  cond (cond (h.setPump _ hu) (h.takeFault _ (h.raise _ (h.setPump _ hu)))) (h.setPump _ hu)

theorem judgeFlow (r : PumpReport) (hu : R u) : R (Machine.judgeFlow r u) := cond (h.raise _ hu) hu

theorem acceptStatus (r : PumpReport) (hu : R u) : R (Machine.acceptStatus r u) :=
  h.pierceAtOnce _ (h.settle (h.setPump _ (h.judgeFlow r (h.judgeSag r (h.judgeReady r (h.judgeFaultCode r (h.pumpHeard hu)))))))

theorem completeContourPlan (job : Job) (e : Entry) (hu : R u) : R (Machine.completeContourPlan job e u) := by
  have hchosen := h.chooseWork (u := planWritten job e u) (h.setPlanner _ (h.raise _ (h.modifyEntry _ _ (h.setStore _ hu))))
  rw [completeContourPlan_eq]
  refine h.settle ?_
  split
  · exact cond (h.tryActivate hchosen) hchosen
  · exact hchosen

theorem jobWritten (job : Job) (e : Entry) (hu : R u) : R (jobWritten job e u) :=
  cond (h.raise _ (h.modifyHead _ (h.setStore _ hu))) (h.modifyHead _ (h.setStore _ hu))

theorem handStopPlace (job : Job) (hu : R u) : R (Machine.handStopPlace job u) := by
  unfold Machine.handStopPlace
  split
  · exact h.holdAtDue (h.setStream _ thins_of_same hu)
  · exact hu

theorem completeActiveJob (job : Job) (e : Entry) (hu : R u) : R (Machine.completeActiveJob job e u) := by
  rw [completeActiveJob_eq]
  exact h.settle (h.holdingEnd (h.chooseWork (h.setPlanner _ (h.handStopPlace job (h.jobWritten job e hu)))))

end Steady

end Sys2Proof.Proofs

/-! PROOFS. How a contour comes to rest, leaves and is activated, in the words of the statements (R16, R126, R154 to R157). -/

namespace Sys2Proof.Proofs

open Sys2Proof Sys2Proof.Machine

/-! ### Sources stay pending -/

/-- A line that keeps its route and what is pending on it. -/
structure LineGathers (l k : Line) : Prop where
  route : k.route = l.route
  pending : ∀ bit, l.pending &&& bit ≠ 0 → k.pending &&& bit ≠ 0

/-- Both lines keep their routes and what is pending on them: nothing between `s` and `t` has been acknowledged. -/
structure Gathers (s t : State) : Prop where
  jatn : LineGathers s.attention.jatn t.attention.jatn
  matn : LineGathers s.attention.matn t.attention.matn

theorem LineGathers.refl (l : Line) : LineGathers l l := ⟨rfl, fun _ h => h⟩

theorem LineGathers.trans {l k m : Line} (h : LineGathers l k) (h' : LineGathers k m) : LineGathers l m :=
  ⟨h'.route.trans h.route, fun bit hb => h'.pending bit (h.pending bit hb)⟩

theorem LineGathers.raise (bit : Mask) (l : Line) : LineGathers l (l.raise bit) := by
  rcases State.raise_line bit l with ⟨-, heq⟩ | ⟨-, heq⟩ <;> rw [heq]
  · exact .refl l
  · refine ⟨rfl, fun b hb hzero => hb ?_⟩
    have hless : l.pending &&& b = (l.pending &&& b) &&& ((l.pending ||| bit) &&& b) := by
      ext i hi
      simp only [BitVec.getElem_and, BitVec.getElem_or]
      cases l.pending[i] <;> cases b[i] <;> simp
    rw [hless, hzero]
    simp

theorem LineGathers.settle (l : Line) : LineGathers l l.settle := by
  unfold Line.settle
  split
  · exact ⟨rfl, fun _ h => h⟩
  · exact .refl l

theorem Gathers.refl (s : State) : Gathers s s := ⟨.refl _, .refl _⟩

theorem Gathers.trans {s t u : State} (h : Gathers s t) (h' : Gathers t u) : Gathers s u :=
  ⟨h.jatn.trans h'.jatn, h.matn.trans h'.matn⟩

theorem Gathers.of_attention {s t : State} (h : t.attention = s.attention) : Gathers s t := by
  constructor <;> rw [h] <;> exact .refl _

theorem Gathers.raise {s t : State} (h : Gathers s t) (src : Source) : Gathers s (t.raise src) :=
  h.trans ⟨.raise .., .raise ..⟩

theorem Gathers.settle {s t : State} (h : Gathers s t) : Gathers s t.settle := h.trans ⟨.settle _, .settle _⟩

theorem Gathers.setWear {s t : State} (h : Gathers s t) (w : Wear) : Gathers s (t.setWear w) := ⟨h.jatn, h.matn⟩

theorem Gathers.cond {s t u : State} {c : Prop} [Decidable c] (h : Gathers s t) (h' : Gathers s u) :
    Gathers s (if c then t else u) := by
  split
  · exact h
  · exact h'

theorem Gathers.judgeLevel {s t : State} (h : Gathers s t) : Gathers s t.judgeLevel := h.cond ((h.setWear _).raise _)

theorem Gathers.judgeWear {s t : State} (h : Gathers s t) : Gathers s t.judgeWear :=
  (((h.setWear _).raise _).cond (h.setWear _)).judgeLevel

theorem Gathers.countWear {s t : State} (h : Gathers s t) (f : Counter → Counter) : Gathers s (t.countWear f) :=
  (h.setWear _).judgeWear

/-- What is pending stays so through the operations. -/
theorem gathers_steady (s : State) : Steady (Gathers s) where
  setQueue _ h := ⟨h.jatn, h.matn⟩
  setStore _ h := ⟨h.jatn, h.matn⟩
  setFreePages _ h := ⟨h.jatn, h.matn⟩
  setEngine _ h := ⟨h.jatn, h.matn⟩
  setFinished _ h := ⟨h.jatn, h.matn⟩
  setPlanner _ h := ⟨h.jatn, h.matn⟩
  setJsq _ h := ⟨h.jatn, h.matn⟩
  setStream _ _ h := ⟨h.jatn, h.matn⟩
  endActive h := ⟨h.jatn, h.matn⟩
  setPump _ h := ⟨h.jatn, h.matn⟩
  raise src h := h.raise src
  settle h := h.settle
  countWear f _ h := h.countWear f

/-- A source raised on the way from `s` to `t` is pending at the end. -/
theorem Gathers.pending {s u t : State} {src : Source} (h : Gathers s u) (ht : Gathers (u.raise src) t) :
    pendingWhereRouted src s t := by
  obtain ⟨hj, hm⟩ := raise_pendingWhereRouted u src
  rw [h.jatn.route] at hj
  rw [h.matn.route] at hm
  exact ⟨fun hr => ht.jatn.pending _ (hj hr), fun hr => ht.matn.pending _ (hm hr)⟩

theorem pendingWhereRouted_gathers {s t t' : State} {src : Source} (h : pendingWhereRouted src s t) (ht : Gathers t t') :
    pendingWhereRouted src s t' :=
  ⟨fun hr => ht.jatn.pending _ (h.1 hr), fun hr => ht.matn.pending _ (h.2 hr)⟩

theorem gathers_pendingWhereRouted {s s' t : State} {src : Source} (h : Gathers s s') (ht : pendingWhereRouted src s' t) :
    pendingWhereRouted src s t :=
  ⟨fun hr => ht.1 (by rwa [h.jatn.route]), fun hr => ht.2 (by rwa [h.matn.route])⟩

/-! ### What of the entries stays in place -/

/-- An item of an entry that neither its state nor a rest nor an activation touches. -/
structure Untouched {α : Type} (g : Entry → α) : Prop where
  state : ∀ e st, g { e with state := st } = g e
  hold : ∀ e cause point, g (Entry.hold cause point e) = g e
  activate : ∀ e, g e.activate = g e

theorem untouched_contourId : Untouched Entry.contourId := ⟨fun _ _ => rfl, fun _ _ _ => rfl, fun _ => rfl⟩

/-- An item of the entries, head first. -/
def shown {α : Type} (g : Entry → α) (s : State) : List α := s.queue.map g

/-- The contour_ids of the queue, head first. -/
def ids (s : State) : List Nat := s.queue.map Entry.contourId

section
variable {α : Type} {g : Entry → α}

theorem shown_congr {s t : State} (h : t.queue = s.queue) : shown g t = shown g s := by rw [shown, h, shown]

theorem shown_modifyHead {f : Entry → Entry} (hf : ∀ e, g (f e) = g e) (s : State) : shown g (s.modifyHead f) = shown g s := by
  unfold shown
  rw [modifyHead_queue]
  cases s.queue <;> simp [hf]

theorem shown_modifyEntry {f : Entry → Entry} (id : Nat) (hf : ∀ e, g (f e) = g e) (s : State) :
    shown g (s.modifyEntry id f) = shown g s := by
  unfold shown State.modifyEntry
  rw [State.setQueue_queue, List.map_map]
  refine List.map_congr_left fun e _ => ?_
  simp only [Function.comp_apply]
  split
  · exact hf e
  · rfl

variable (hg : Untouched g)
include hg

theorem shown_modifyState (id : Nat) (st : EntryState) (s : State) :
    shown g (s.modifyEntry id fun e => { e with state := st }) = shown g s := shown_modifyEntry id (hg.state · st) s

theorem shown_chooseWork (s : State) : shown g s.chooseWork = shown g s := by
  rcases State.chooseWork_cases s with hc | ⟨e, -, -, hc⟩ <;> rw [hc]
  exact shown_modifyState hg _ _ (s.setPlanner _)

theorem shown_dropRequest (s : State) : shown g s.dropRequest = shown g s := by
  rcases State.dropRequest_cases s with ⟨-, hc⟩ | ⟨-, hc⟩ <;> rw [hc]
  exact shown_chooseWork hg (s.setPlanner _)

theorem shown_takeRequest (kind : JobKind) (s : State) : shown g (s.takeRequest kind) = shown g s := by
  unfold State.takeRequest
  split
  · rfl
  · have hmark : shown g (if kind = .stop then s.setPlanner { s.planner with stopTaken := true } else s) = shown g s := by
      split <;> rfl
    dsimp only
    split
    · exact hmark
    · split
      · exact (shown_modifyState hg ..).trans hmark
      · split <;> exact hmark

theorem shown_becomeHeld (cause : Cause) (point : Place) (s : State) : shown g (s.becomeHeld cause point) = shown g s := by
  unfold State.becomeHeld
  split
  · rfl
  · exact (shown_dropRequest hg _).trans (shown_modifyHead (hg.hold · cause _) s)

theorem shown_immediateHold (cause : Cause) (s : State) : shown g (s.immediateHold cause) = shown g s := by
  unfold State.immediateHold
  split
  · rfl
  · exact (shown_becomeHeld hg ..).trans (shown_congr (State.restAtOnce_queue s))

theorem shown_pumpSilenceAtStart (s : State) : shown g s.pumpSilenceAtStart = shown g s := by
  unfold State.pumpSilenceAtStart
  split
  · exact shown_immediateHold hg ..
  · rfl

theorem shown_silenceAtStart (s : State) : shown g s.silenceAtStart = shown g s := by
  unfold State.silenceAtStart
  rw [shown_pumpSilenceAtStart hg]
  split
  · exact shown_immediateHold hg ..
  · rfl

end

/-- The head as its activation leaves it, before its start's first target is asked for (R16). -/
def activated (e : Entry) (s : State) : State :=
  let t := (((s.modifyHead Entry.activate).startStream ⟨0, 1⟩).setPlanner
    { s.planner with stopTaken := false }).raise .contourStart
  (if e.stamp = some (t.currentStamp e) then t else t.takeRequest .activation).makeDue (.contourBegin e.contourId)

theorem activate_eq (e : Entry) (s : State) :
    s.activate e = ((activated e s).startSequence e e.pierceMode e.startX e.startY).silenceAtStart := rfl

section
variable {α : Type} {g : Entry → α} (hg : Untouched g)
include hg

theorem shown_activated (e : Entry) (s : State) : shown g (activated e s) = shown g s := by
  refine Eq.trans ?_ (shown_modifyHead hg.activate s)
  unfold activated
  dsimp only
  split
  · rfl
  · exact shown_takeRequest hg ..

theorem shown_activate (e : Entry) (s : State) : shown g (s.activate e) = shown g s := by
  rw [activate_eq, shown_silenceAtStart hg]
  exact (shown_congr (State.startSequence_queue ..)).trans (shown_activated hg e s)

theorem shown_tryActivate (s : State) : shown g s.tryActivate = shown g s := by
  rcases State.tryActivate_cases s with hc | ⟨e, _, -, -, -, -, hc⟩ <;> rw [hc]
  exact shown_activate hg e s

theorem shown_runOn (s : State) : shown g s.runOn = shown g s := by
  unfold State.runOn
  split
  · exact shown_tryActivate hg s
  · exact shown_congr (by simp)

end

/-! The contour_ids among them. -/

theorem ids_congr {s t : State} (h : t.queue = s.queue) : ids t = ids s := shown_congr h

theorem ids_modifyHead {f : Entry → Entry} (hf : ∀ e, (f e).contourId = e.contourId) (s : State) :
    ids (s.modifyHead f) = ids s := shown_modifyHead hf s

theorem ids_modifyState (id : Nat) (st : EntryState) (s : State) :
    ids (s.modifyEntry id fun e => { e with state := st }) = ids s := shown_modifyState untouched_contourId id st s

theorem ids_chooseWork (s : State) : ids s.chooseWork = ids s := shown_chooseWork untouched_contourId s

theorem ids_dropRequest (s : State) : ids s.dropRequest = ids s := shown_dropRequest untouched_contourId s

theorem ids_becomeHeld (cause : Cause) (point : Place) (s : State) : ids (s.becomeHeld cause point) = ids s :=
  shown_becomeHeld untouched_contourId cause point s

theorem ids_tryActivate (s : State) : ids s.tryActivate = ids s := shown_tryActivate untouched_contourId s

theorem ids_runOn (s : State) : ids s.runOn = ids s := shown_runOn untouched_contourId s

/-! ### Dropping a request -/

theorem chooseWork_noRequest {s : State} (h : s.planner.job = none) : noRequest s.chooseWork := by
  rcases State.chooseWork_cases s with hc | ⟨e, -, -, hc⟩ <;> rw [hc] <;> intro job hjob
  · rw [h] at hjob; cases hjob
  · cases hjob; rfl

/-- After a request is dropped none is outstanding (R106). -/
theorem dropRequest_noRequest (s : State) : noRequest s.dropRequest := by
  rcases State.dropRequest_cases s with ⟨hr, hc⟩ | ⟨-, hc⟩ <;> rw [hc]
  · intro job hjob
    by_contra hk
    simp [State.requestOutstanding, State.engineState, hjob, hk] at hr
  · exact chooseWork_noRequest rfl

/-! ### Coming to rest -/

/-- Between `s` and `u` the head, now `e`, has been brought to a stop: the jet is shut, `due` is due, and the rest of the
queue, the pages and the tables are as in `s`. -/
structure Halted (s u : State) (e : Entry) (rest : List Entry) (due : List Control) : Prop where
  law : QueueLaw u
  queue : u.queue = e :: rest
  ids : ids u = ids s
  store : u.store = s.store
  freePages : u.freePages = s.freePages
  finished : u.finished = s.finished
  config : u.config = s.config
  materials : u.materials = s.materials
  engine : u.engine = s.engine
  valve : u.jsq.valve = .closed
  shut : jetShut s u.pump.transmit
  due : u.stream.due = due
  cursor : u.stream.cursor = s.stream.cursor
  gathers : Gathers s u

/-- Such a stop with no abrasive asked for. -/
structure Stopped (s u : State) (e : Entry) (rest : List Entry) (due : List Control) : Prop extends Halted s u e rest due where
  abrasive : u.jsq.abrasive = 0

variable {s u : State} {e : Entry} {rest : List Entry} {due : List Control}

/-- Nothing that shows at a stop has changed from `u` to `v`. -/
theorem Halted.congr {v : State} (h : Halted s u e rest due) (hq : v.queue = u.queue := by simp)
    (hstore : v.store = u.store := by simp) (hfree : v.freePages = u.freePages := by simp)
    (hfin : v.finished = u.finished := by simp) (hconfig : v.config = u.config := by simp)
    (hmat : v.materials = u.materials := by simp) (heng : v.engine = u.engine := by simp)
    (hvalve : v.jsq.valve = u.jsq.valve := by simp)
    (htrans : v.pump.transmit = u.pump.transmit := by simp) (hdue : v.stream.due = u.stream.due := by simp)
    (hcursor : v.stream.cursor = u.stream.cursor := by simp) (hatt : v.attention = u.attention := by simp) :
    Halted s v e rest due where
  law := queueLaw_of_map h.law (by rw [hq]) (by rw [hq]; exact h.law.2.2.1) hfin
  queue := hq.trans h.queue
  ids := (ids_congr hq).trans h.ids
  store := hstore.trans h.store
  freePages := hfree.trans h.freePages
  finished := hfin.trans h.finished
  config := hconfig.trans h.config
  materials := hmat.trans h.materials
  engine := heng.trans h.engine
  valve := hvalve.trans h.valve
  shut := by rw [htrans]; exact h.shut
  due := hdue.trans h.due
  cursor := hcursor.trans h.cursor
  gathers := h.gathers.trans (.of_attention hatt)

theorem Stopped.congr {v : State} (h : Stopped s u e rest due) (hq : v.queue = u.queue := by simp)
    (hstore : v.store = u.store := by simp) (hfree : v.freePages = u.freePages := by simp)
    (hfin : v.finished = u.finished := by simp) (hconfig : v.config = u.config := by simp)
    (hmat : v.materials = u.materials := by simp) (heng : v.engine = u.engine := by simp)
    (hvalve : v.jsq.valve = u.jsq.valve := by simp) (habr : v.jsq.abrasive = u.jsq.abrasive := by simp)
    (htrans : v.pump.transmit = u.pump.transmit := by simp) (hdue : v.stream.due = u.stream.due := by simp)
    (hcursor : v.stream.cursor = u.stream.cursor := by simp) (hatt : v.attention = u.attention := by simp) :
   Stopped s v e rest due :=
  { h.toHalted.congr hq hstore hfree hfin hconfig hmat heng hvalve htrans hdue hcursor hatt with abrasive := habr.trans h.abrasive }

theorem segments_congr {s u : State} (h : u.store = s.store) (e : Entry) : u.segments e = s.segments e := by
  unfold State.segments
  rw [h]

/-- The ACTIVE head `e` has come to rest HELD or FAILED at a place, as `BecomesHeld` says it, whatever abrasive rate was last
sent. -/
structure HeldAt (s t : State) (e : Entry) (cause : Cause) (place : Place) (due : List Control) (abrasive : Nat) : Prop where
  head : t.queue.head? = some (heldEntry (s.segments e) cause place e)
  ids : t.queue.map Entry.contourId = s.queue.map Entry.contourId
  jsq : t.jsq = { shutIn .idle none none none with abrasive := abrasive }
  noRequest : noRequest t
  window : t.stream.window = []
  due : t.stream.due = due
  cursor : t.stream.cursor = s.stream.cursor
  lastExit : t.stream.lastExit = none
  shut : jetShut s t.pump.transmit
  held : pendingWhereRouted .held s t
  store : t.store = s.store
  freePages : t.freePages = s.freePages
  finished : t.finished = s.finished
  config : t.config = s.config
  materials : t.materials = s.materials
  engine : t.engine = s.engine

theorem HeldAt.becomesHeld {t : State} {cause : Cause} {place : Place} (h : HeldAt s t e cause place due 0) :
    BecomesHeld s t e cause place due :=
  ⟨h.head, h.ids, h.jsq, h.noRequest, h.window, h.due, h.cursor, h.lastExit, h.shut, h.held, h.store, h.freePages, h.finished,
    h.config, h.materials, h.engine⟩

/-- The ACTIVE head comes to rest at a place (R155). -/
theorem heldAt_of_halted (h : Halted s u e rest due) (he : e.state = .active) (hw : u.stream.window = [])
    (cause : Cause) (place : Place) : HeldAt s (u.becomeHeld cause place) e cause place due u.jsq.abrasive := by
  have hactive : u.activeEntry = some e := State.activeEntry_eq_some.2 ⟨rest, h.queue, he⟩
  have hids : ids (u.becomeHeld cause place) = ids s := (ids_becomeHeld ..).trans h.ids
  have hgathers : Gathers s (u.becomeHeld cause place) := (gathers_steady s).becomeHeld cause place h.gathers
  have heq : u.becomeHeld cause place
      = ((u.modifyHead (Entry.hold cause (State.pastBridge (u.segments e) e.passes place))).endActive.sequencerIdle).dropRequest.raise
        .held := by
    unfold State.becomeHeld
    rw [hactive]
  have hheld := State.hold_eq (u.segments e) cause place e
  have hlaw : QueueLaw (u.modifyHead (Entry.hold cause (State.pastBridge (u.segments e) e.passes place))) :=
    queueLaw_course h.law (Course.refl.modifyHead (keepsOwn_hold _ _))
  have hstate := hold_state cause (State.pastBridge (u.segments e) e.passes place) e
  rw [segments_congr h.store] at hheld
  obtain ⟨others, hothers, -⟩ := sameHead_dropRequest (rest := rest)
    (e := Entry.hold cause (State.pastBridge (u.segments e) e.passes place) e)
    (s := (u.modifyHead (Entry.hold cause (State.pastBridge (u.segments e) e.passes place))).endActive.sequencerIdle)
    (queueLaw_of_map hlaw (by simp) (by simpa using hlaw.2.2.1) (by simp)) (by simp [modifyHead_queue, h.queue])
    (by rcases hstate with hst | hst <;> simp [hst])
  refine ⟨?_, hids, ?_, ?_, ?_, ?_, ?_, ?_, ?_, ?_, ?_, ?_, ?_, ?_, ?_, ?_⟩
  · rw [heq, State.raise_queue, hothers, segments_congr h.store, hheld]
    rfl
  · rw [heq]
    simp [sequencerIdle_jsq, shutIn, h.valve]
  · rw [heq, noRequest, State.raise_planner]
    exact dropRequest_noRequest _
  · rw [heq]
    simp [State.endActive, hw]
  · rw [heq]
    simp [State.endActive, h.due]
  · rw [heq]
    simp [State.endActive, h.cursor]
  · rw [heq]
    simp [State.endActive]
  · rw [State.becomeHeld_pump]
    exact h.shut
  · rw [heq]
    have hbefore : Gathers s ((u.modifyHead (Entry.hold cause (State.pastBridge (u.segments e) e.passes
        place))).endActive.sequencerIdle).dropRequest := h.gathers.trans (.of_attention (by simp))
    exact hbefore.pending (.refl _)
  · rw [State.becomeHeld_store, h.store]
  · rw [State.becomeHeld_freePages, h.freePages]
  · rw [State.becomeHeld_finished, h.finished]
  · rw [State.becomeHeld_config, h.config]
  · rw [State.becomeHeld_materials, h.materials]
  · rw [State.becomeHeld_engine, h.engine]

theorem becomesHeld_of_stopped (h : Stopped s u e rest due) (he : e.state = .active) (hw : u.stream.window = [])
    (cause : Cause) (place : Place) : BecomesHeld s (u.becomeHeld cause place) e cause place due :=
  HeldAt.becomesHeld (h.abrasive ▸ heldAt_of_halted h.toHalted he hw cause place)

/-! ### Leaving the queue -/

/-- What a removal leaves of the stream. -/
theorem removeEntry_stream (e : Entry) (outcome : Option Outcome) (s : State) :
    (s.removeEntry e outcome).stream
      = if e.state.begun then { s.stream with cursor := none, lastExit := none } else s.stream := by
  unfold State.removeEntry
  cases outcome <;> simp only [Option.map] <;> split <;> simp

/-- A removal up to the finished list (R19, R44). -/
def takenOut (e : Entry) (s : State) : State :=
  let t := (((s.setFreePages (s.freePages ++ e.pages)).setStore (erasePages e.pages s.store)).setQueue
    (s.queue.filter fun x => x.contourId != e.contourId)).setEngine
      (s.engine.map fun c => if c.contour = e.contourId then { c with bound := false } else c)
  if e.state.begun then t.setStream { s.stream with cursor := none, lastExit := none } else t

theorem removeEntry_some (e : Entry) (outcome : Outcome) (s : State) :
    s.removeEntry e (some outcome) = (takenOut e s).addFinished (s.finishedEntry e outcome) := rfl

theorem takenOut_attention (e : Entry) (s : State) : (takenOut e s).attention = s.attention := by
  unfold takenOut
  dsimp only
  split <;> simp

/-- A removal with an outcome raises CONTOUR_END (R20). -/
theorem removeEntry_pending (e : Entry) (outcome : Outcome) (s : State) :
    pendingWhereRouted .contourEnd s (s.removeEntry e (some outcome)) := by
  rw [removeEntry_some]
  exact gathers_pendingWhereRouted (.of_attention (takenOut_attention e s)) (addFinished_pendingWhereRouted ..)

/-- The head that leaves. -/
theorem removeEntry_head_queue (h : QueueLaw u) (hq : u.queue = e :: rest) (outcome : Option Outcome) :
    (u.removeEntry e outcome).queue = rest := (removeEntry_head_inactive h hq outcome).1

theorem finishedEntry_congr {s u : State} (h : u.store = s.store) (e : Entry) (o : Outcome) :
    u.finishedEntry e o = s.finishedEntry e o := by
  unfold State.finishedEntry
  rw [segments_congr h]

/-- The head has left `u` for the finished list, and whatever follows keeps what it left. -/
theorem headLeft_of_removed {t : State} {o : Outcome} {f : Finished} (h : Stopped s u e rest due)
    (hf : f = s.finishedEntry e o) (hids : ids t = ids (u.removeEntry e (some o)))
    (hfree : t.freePages = (u.removeEntry e (some o)).freePages) (hstore : t.store = (u.removeEntry e (some o)).store)
    (hfin : t.finished = (u.removeEntry e (some o)).finished) (hconfig : t.config = u.config)
    (hmat : t.materials = u.materials) (hg : Gathers (u.removeEntry e (some o)) t) : HeadLeft s t e rest f := by
  refine ⟨?_, ?_, ?_, ?_, ?_, hconfig.trans h.config, hmat.trans h.materials⟩
  · rw [← removeEntry_head_queue h.law h.queue (some o)]
    exact hids
  · rw [hfree, removeEntry_freePages, h.freePages]
  · rw [hstore, removeEntry_store, h.store]
  · rw [hfin, removeEntry_finished, hf, ← finishedEntry_congr h.store, h.finished]
  · exact gathers_pendingWhereRouted h.gathers (pendingWhereRouted_gathers (removeEntry_pending e o u) hg)

/-- A contour cut to its end is finished (R126). -/
theorem finishes_of_stopped (h : Stopped s u e rest due) (hb : e.state.begun = true) : Finishes s u.finish e rest due := by
  have hcleared : Stopped s u.endActive.leavePhase.clearWindow e rest due :=
    h.congr (hvalve := rfl) (habr := rfl) (hdue := rfl) (hcursor := rfl)
  have heq : u.finish = (((u.endActive.leavePhase.clearWindow.removeEntry e (some .done)).makeDue
      (.contourEnd e.contourId)).setJsq { u.endActive.leavePhase.clearWindow.jsq with
        phase := .finishing, contour := some e.contourId, stopCause := none, stopEnding := none }).dropRequest := by
    unfold State.finish
    rw [h.queue]
    simp only [State.makeDue_jsq, State.removeEntry_jsq]
  have hleft : HeadLeft s u.finish e rest (doneRecord (s.segments e) e) := by
    rw [heq]
    refine headLeft_of_removed hcleared (State.finishedEntry_done s e).symm (ids_dropRequest _) (by simp) (by simp) (by simp)
      (by simp) (by simp) ?_
    exact (gathers_steady _).dropRequest ((gathers_steady _).setJsq _ ((gathers_steady _).makeDue _ (.refl _)))
  refine ⟨hleft, ?_, ?_, ?_, ?_, ?_, ?_, ?_⟩
  · rw [heq]
    simp [State.leavePhase, shutIn, h.valve, h.abrasive]
  · rw [heq]
    exact dropRequest_noRequest _
  · rw [heq]
    simpa using h.shut
  · rw [heq]
    simp [State.makeDue, removeEntry_stream, hb, State.clearWindow, State.endActive, h.due]
  · rw [heq]
    simp [State.makeDue, removeEntry_stream, hb, State.clearWindow, State.endActive]
  · rw [heq]
    simp [State.makeDue, removeEntry_stream, hb, State.clearWindow, State.endActive]
  · rw [heq]
    simp [State.makeDue, removeEntry_stream, hb, State.clearWindow, State.endActive]

/-! ### The head that is activated or not -/

/-- The engine's choice leaves the head as it was, or makes it PLANNING. -/
theorem chooseWork_head {s : State} {x : Entry} {xs : List Entry} (h : s.chooseWork.queue = x :: xs) :
    ∃ y ys, s.queue = y :: ys ∧ (x = y ∨ x.state = .planning) := by
  rcases State.chooseWork_cases s with hc | ⟨w, -, -, hc⟩ <;> rw [hc] at h
  · exact ⟨x, xs, h, .inl rfl⟩
  · rw [State.modifyEntry, State.setQueue_queue, State.setPlanner_queue] at h
    cases hq : s.queue with
    | nil => simp [hq] at h
    | cons y ys =>
      rw [hq, List.map_cons] at h
      refine ⟨y, ys, rfl, ?_⟩
      split at h <;> cases h
      · exact .inr rfl
      · exact .inl rfl

theorem dropRequest_head {s : State} {x : Entry} {xs : List Entry} (h : s.dropRequest.queue = x :: xs) :
    ∃ y ys, s.queue = y :: ys ∧ (x = y ∨ x.state = .planning) := by
  rcases State.dropRequest_cases s with ⟨-, hc⟩ | ⟨-, hc⟩ <;> rw [hc] at h
  · exact ⟨x, xs, h, .inl rfl⟩
  · exact (chooseWork_head h :)

theorem canActivate_iff {s : State} :
    s.canActivate = true ↔ s.jsq.phase = .idle ∧ headReady s.queue := by
  unfold State.canActivate headReady
  cases s.queue with
  | nil => simp
  | cons e rest => simp [and_assoc]

/-- Dropping a request decides nothing about the head (R15). -/
theorem headReady_dropRequest {s : State} (h : QueueLaw s) : headReady s.dropRequest.queue ↔ headReady s.queue := by
  constructor
  · rintro ⟨x, hx, hst, hcommits⟩
    obtain ⟨xs, hq⟩ : ∃ xs, s.dropRequest.queue = x :: xs := by
      cases hd : s.dropRequest.queue with
      | nil => simp [hd] at hx
      | cons y ys => rw [hd] at hx; cases hx; exact ⟨ys, rfl⟩
    obtain ⟨y, ys, hs, rfl | hplanning⟩ := dropRequest_head hq
    · exact ⟨x, by rw [hs]; rfl, hst, hcommits⟩
    · rw [hst] at hplanning; cases hplanning
  · rintro ⟨x, hx, hst, hcommits⟩
    cases hs : s.queue with
    | nil => simp [hs] at hx
    | cons y ys =>
      rw [hs] at hx
      cases hx
      exact ⟨x, (sameHead_dropRequest h hs (by simp [hst])).head, hst, hcommits⟩

/-! ### What an activation sends and starts -/

/-- The jet is shut, the window empty, and the transmit list ends as it does. -/
structure QuietStart (s : State) (p : PumpLink) : Prop where
  valve : s.jsq.valve = .closed
  window : s.stream.window = []
  pump : s.pump = p

theorem becomeHeld_valve (cause : Cause) (point : Place) (s : State) :
    (s.becomeHeld cause point).jsq.valve = s.jsq.valve := by
  unfold State.becomeHeld
  split
  · rfl
  · simp [sequencerIdle_jsq]

theorem becomeHeld_window (cause : Cause) (point : Place) (s : State) :
    (s.becomeHeld cause point).stream.window = s.stream.window := by
  unfold State.becomeHeld
  split
  · rfl
  · simp [State.endActive]

theorem restAtOnce_pump {s : State} (h : s.jsq.valve = .closed) : s.restAtOnce.pump = s.pump := by
  unfold State.restAtOnce
  simp [h]

theorem QuietStart.immediateHold {s : State} {p : PumpLink} (h : QuietStart s p) (cause : Cause) :
    QuietStart (s.immediateHold cause) p := by
  unfold State.immediateHold
  split
  · exact h
  · refine ⟨?_, ?_, ?_⟩
    · rw [becomeHeld_valve, restAtOnce_closed]
    · rw [becomeHeld_window]
      rfl
    · rw [State.becomeHeld_pump, restAtOnce_pump h.valve, h.pump]

theorem QuietStart.cond {s t : State} {p : PumpLink} {c : Prop} [Decidable c] (h : QuietStart s p) (h' : QuietStart t p) :
    QuietStart (if c then s else t) p := by
  split
  · exact h
  · exact h'

theorem QuietStart.pumpSilenceAtStart {s : State} {p : PumpLink} (h : QuietStart s p) :
    QuietStart s.pumpSilenceAtStart p := (h.immediateHold _).cond h

theorem QuietStart.silenceAtStart {s : State} {p : PumpLink} (h : QuietStart s p) : QuietStart s.silenceAtStart p :=
  QuietStart.pumpSilenceAtStart ((h.immediateHold _).cond h)

/-- The pressure the start of a contour asks for first (R114). -/
theorem startSequence_pump (e : Entry) (mode : PierceMode) (x y : Nat) (s : State) :
    (s.startSequence e mode x y).pump = { s.pump with
      transmit := enqueueMessage (.setPressure (clampPressure s.config (State.firstTarget (s.materialOf e) mode))) s.pump.transmit
      target := clampPressure s.config (State.firstTarget (s.materialOf e) mode), ready := false, sag := 0 } := rfl

@[simp] theorem activated_jsq (e : Entry) (s : State) : (activated e s).jsq = s.jsq := by
  unfold activated
  dsimp only
  split <;> simp

@[simp] theorem activated_pump (e : Entry) (s : State) : (activated e s).pump = s.pump := by
  unfold activated
  dsimp only
  split <;> simp

@[simp] theorem activated_config (e : Entry) (s : State) : (activated e s).config = s.config := by
  unfold activated
  dsimp only
  split <;> simp

theorem activated_stream (e : Entry) (s : State) :
    (activated e s).stream = { s.stream with
      due := s.stream.due ++ [.contourBegin e.contourId], cursor := some (.seg ⟨0, 1⟩), lastExit := some 0, stopPlace := none
      holdAtMade := none } := by
  unfold activated State.makeDue
  dsimp only
  split <;> simp [State.startStream]

/-- An activation asks for one pressure and starts with an empty window. -/
theorem activate_quietStart (e : Entry) {s : State} (hv : s.jsq.valve = .closed) (hw : s.stream.window = []) :
    ∃ p, QuietStart (s.activate e) p ∧ p.transmit = enqueueMessage (.setPressure p.target) s.pump.transmit := by
  rw [activate_eq]
  refine ⟨_, QuietStart.silenceAtStart ⟨?_, ?_, rfl⟩, ?_⟩
  · simp [State.startSequence, pressureStep_jsq, hv]
  · simp [State.startSequence, State.makeDue, activated_stream, hw]
  · rw [startSequence_pump, activated_pump]

/-- Behind a skip or a finish one pressure is asked for (R127, R128). -/
theorem runOn_quietStart {s : State} (hv : s.jsq.valve = .closed) (hw : s.stream.window = []) :
    ∃ p, QuietStart s.runOn p ∧ p.transmit = enqueueMessage (.setPressure p.target) s.pump.transmit := by
  unfold State.runOn
  split
  · rename_i hcan
    rcases State.tryActivate_cases s with hc | ⟨e, _, -, -, -, -, hc⟩
    · obtain ⟨-, x, hx, -⟩ := canActivate_iff.1 hcan
      unfold State.tryActivate
      cases hq : s.queue with
      | nil => simp [hq] at hx
      | cons y ys =>
        simp only [hcan, if_true]
        exact activate_quietStart y hv hw
    · rw [hc]
      exact activate_quietStart e hv hw
  · exact ⟨_, ⟨by simp [hv], by simp [hw], rfl⟩, by simp [State.issueIdlePressure, State.issue_pressure]⟩

/-! ### Leaving by skip -/

/-- The due list without what a skipped contour's CONTOUR_BEGIN stands before is the statements' one (R139). -/
theorem dropUntold_behind (id : Nat) (due : List Control) : dueBehindSkip id due (dropUntold id due) := by
  constructor
  · intro hnot
    induction due with
    | nil => rfl
    | cons c rest ih =>
      rw [List.mem_cons, not_or] at hnot
      rw [dropUntold, if_neg (Ne.symm hnot.1), ih hnot.2]
  · rintro l r rfl hnot
    induction l with
    | nil => simp [dropUntold]
    | cons c l ih =>
      rw [List.mem_cons, not_or] at hnot
      rw [List.cons_append, dropUntold, if_neg (Ne.symm hnot.1), ih hnot.2]

/-- The part with a skipped head taken out, JSQ idle and its request dropped, before the next contour (R157). -/
def skippedHead (e : Entry) (s : State) : State :=
  let t := (if e.state = .active then s.endActive else s).removeEntry e (some .skipped)
  ((t.setStream { t.stream with due := dropUntold e.contourId t.stream.due }).sequencerIdle).dropRequest

theorem skipHead_eq {s : State} (hq : s.queue = e :: rest) : s.skipHead = (skippedHead e s).runOn := by
  unfold State.skipHead
  rw [hq]
  rfl

/-- The head `e` that leaves by skip is on the finished list (R157, R19). -/
theorem headLeft_skipHead (h : Stopped s u e rest due) : HeadLeft s u.skipHead e rest (skippedRecord (s.segments e) e) := by
  have hended : Stopped s (if e.state = .active then u.endActive else u) e rest due := by
    split
    · exact h.congr (hdue := rfl) (hcursor := rfl)
    · exact h
  have heq := skipHead_eq h.queue
  unfold skippedHead at heq
  generalize (if e.state = .active then u.endActive else u) = v at hended heq
  dsimp only at heq
  rw [heq]
  refine headLeft_of_removed hended (State.finishedEntry_skipped s e).symm ?_ (by simp) (by simp) (by simp) (by simp) (by simp) ?_
  · rw [ids_runOn, ids_dropRequest]
    exact ids_congr (by simp)
  · have hgathers := gathers_steady (v.removeEntry e (some .skipped))
    exact hgathers.runOn (hgathers.dropRequest (hgathers.sequencerIdle (hgathers.setStream _ thins_of_same (.refl _))))

/-- The head `e` leaves by skip (R157). -/
theorem skippedOut_of_stopped (h : Stopped s u e rest due) (hb : e.state.begun = true) (hw : u.stream.window = []) :
    SkippedOut s u.skipHead e rest (skippedRecord (s.segments e) e) due := by
  have hended : Stopped s (if e.state = .active then u.endActive else u) e rest due := by
    split
    · exact h.congr (hdue := rfl) (hcursor := rfl)
    · exact h
  have hended_window : (if e.state = .active then u.endActive else u).stream.window = [] := by
    split
    · exact hw
    · exact hw
  have hleft := headLeft_skipHead h
  have heq := skipHead_eq h.queue
  unfold skippedHead at heq
  generalize (if e.state = .active then u.endActive else u) = v at hended hended_window heq
  have hrest : (v.removeEntry e (some .skipped)).queue = rest := removeEntry_head_queue hended.law hended.queue _
  have hlaw : QueueLaw (v.removeEntry e (some .skipped)) :=
    queueLaw_course hended.law (Course.refl.removeEntry (by simp [hended.queue]) _)
  have hstream : (v.removeEntry e (some .skipped)).stream = { v.stream with cursor := none, lastExit := none } := by
    rw [removeEntry_stream, if_pos hb]
  dsimp only at heq
  generalize hw' : ((v.removeEntry e (some .skipped)).setStream { (v.removeEntry e (some .skipped)).stream with
    due := dropUntold e.contourId (v.removeEntry e (some .skipped)).stream.due }).sequencerIdle = w at heq
  have hw_law : QueueLaw w := by rw [← hw']; exact queueLaw_of_map hlaw (by simp) (by simpa using hlaw.2.2.1) (by simp)
  have hw_queue : w.queue = rest := by rw [← hw']; exact hrest
  have hw_jsq : w.jsq = shutIn .idle none none none := by
    rw [← hw', sequencerIdle_jsq]
    simp [shutIn, hended.valve, hended.abrasive]
  have hw_stream : w.stream = { v.stream with due := dropUntold e.contourId due, cursor := none, lastExit := none } := by
    rw [← hw', State.sequencerIdle_stream, State.setStream_stream, hstream, ← hended.due]
  have hw_pump : w.pump = v.pump := by rw [← hw']; simp
  obtain ⟨p, hquiet, htransmit⟩ := runOn_quietStart (s := w.dropRequest) (by simp [hw_jsq, shutIn])
    (by simp [hw_stream, hended_window])
  refine ⟨hleft, by rw [heq, hquiet.window], ⟨v.pump.transmit, hended.shut, ?_⟩, fun hnot => ?_⟩
  · rw [heq, hquiet.pump, htransmit, State.dropRequest_pump, hw_pump]
  · have hcan : ¬ w.dropRequest.canActivate = true := fun hcan => by
      have hready := (canActivate_iff.1 hcan).2
      rw [headReady_dropRequest hw_law, hw_queue] at hready
      exact hnot hready
    have hidle : u.skipHead = w.dropRequest.issueIdlePressure.raise .queueIdle := by
      rw [heq, State.runOn, if_neg hcan]
    have hconfig : w.config = s.config := by rw [← hw', ← hended.config]; simp
    refine ⟨?_, ?_, ?_, ?_, ?_, ?_, ?_⟩
    · rw [hidle]; simp [hw_jsq]
    · rw [hidle, noRequest, State.raise_planner, State.issueIdlePressure_planner]
      exact dropRequest_noRequest w
    · rw [hidle]; simp [hw_stream]
    · rw [hidle]; simp [hw_stream]
    · rw [hidle]
      simp only [State.raise_stream, State.issueIdlePressure_stream, State.dropRequest_stream, hw_stream]
      exact dropUntold_behind ..
    · rw [hidle, State.raise_pump, State.issueIdlePressure, State.issue_pressure]
      simp [hconfig]
    · rw [hidle]
      refine Gathers.pending ?_ (.refl _)
      have hgathers := gathers_steady s
      rw [← hw']
      exact hgathers.issueIdlePressure (hgathers.dropRequest (hgathers.sequencerIdle (hgathers.setStream _
        thins_of_same (hgathers.removeEntry _ _ hended.gathers))))

/-- The head comes to rest at its done position (R159 to R161). -/
theorem restsAtDone_of_stopped (h : Stopped s u e rest due) (he : e.state = .active) (cause : Cause) (ending : Ending) :
    RestsAtDone s (u.restAtDone cause ending) e rest cause ending due := by
  have hcleared : Stopped s u.clearWindow e rest due := h.congr (hdue := rfl) (hcursor := rfl)
  have hactive : u.activeEntry = some e := State.activeEntry_eq_some.2 ⟨rest, h.queue, he⟩
  have hbegun : e.state.begun = true := by rw [he]; rfl
  intro done hdone
  have hcut : u.clearWindow.cutToEnd e = true ↔ done = ⟨countOf s.store e.pages, e.passes⟩ := by
    unfold State.cutToEnd
    rw [hdone]
    cases done
    simp [State.segmentCount, h.store]
  have heq : u.restAtDone cause ending = if u.clearWindow.cutToEnd e then u.clearWindow.finish else
      match ending with
      | .held => u.clearWindow.becomeHeld cause done
      | .skipped => u.clearWindow.skipHead := by
    unfold State.restAtDone
    rw [hactive]
    simp only [hdone, Option.getD_some] <;> rfl
  refine ⟨fun hfull => ?_, fun hshort hheld => ?_, fun hshort hskipped => ?_⟩
  · rw [heq, if_pos (hcut.2 hfull)]
    exact finishes_of_stopped hcleared hbegun
  · rw [heq, if_neg (fun hc => hshort (hcut.1 hc)), hheld]
    exact becomesHeld_of_stopped hcleared he rfl cause done
  · rw [heq, if_neg (fun hc => hshort (hcut.1 hc)), hskipped]
    exact skippedOut_of_stopped hcleared hbegun rfl

end Sys2Proof.Proofs

/-! PROOFS. What every step keeps that its operations cannot touch: the configuration, the waiting commands, and the counts of
wear, which no operation but the wear commands lowers (R175, R185); and the mark of an unfinished change (R188). -/

namespace Sys2Proof.Proofs

open Sys2Proof Sys2Proof.Machine

/-! ### Properties that the operations of the whole part keep -/

/-- A property that the updates of the operations keep, those of the port, the buffers, the material table and the attention
lines among them, the exchanges of the motion port apart. -/
structure SteadyBetween (R : State → Prop) : Prop extends Steady R where
  setMotion : ∀ {u} x, x.exchange = u.motion.exchange → R u → R (u.setMotion x)
  setPort : ∀ {u} x, R u → R (u.setPort x)
  setBuffer : ∀ {u} name b, R u → R (u.setBuffer name b)
  setMaterials : ∀ {u} x, R u → R (u.setMaterials x)
  setAttention : ∀ {u} x, R u → R (u.setAttention x)
  clearWork : ∀ {u}, R u → R (clearWork u)

/-- A property that the exchanges of the motion port and the units of wear keep as well. -/
structure SteadyThroughout (R : State → Prop) : Prop extends SteadyBetween R where
  putStream : ∀ {u} x, R u → R (u.setStream x)
  putMotion : ∀ {u} x, R u → R (u.setMotion x)
  unit : ∀ {u} i, R u → R ((u.setWear (u.wear.setCounter i (u.wear.counter i).millisecond)).judgeWear)

theorem counts_tick (jsq : Sequencer) : Counts (Counter.tick jsq) := by
  intro c hc
  unfold Counter.tick Counter.millisecond Counter.add
  split
  · split
    · exact ⟨by simp; omega, by simp⟩
    · exact ⟨le_rfl, hc⟩
  · exact ⟨le_rfl, hc⟩

/-- The commands that do not set the configuration or the wear block. -/
def keepsTables : Instr → Bool
  | .configSet _ => false
  | .wearConfig .. => false
  | .wearLevels .. => false
  | .wearLoad .. => false
  | .wearReset .. => false
  | _ => true

namespace SteadyBetween

variable {R : State → Prop} {u : State}

theorem of_refused {r : Reply} (hr : Refused r u) (hu : R u) : R r.2 := by
  rw [hr.2]
  exact hu

variable (h : SteadyBetween R)
include h

theorem activateNewHead (old : State) (hu : R u) : R (State.activateNewHead old u) := by
  unfold State.activateNewHead
  split
  · exact hu
  · exact h.tryActivate hu

theorem acceptCommit (c : Commit) (hu : R u) : R (Machine.acceptCommit c u).2 :=
  h.modifyEntry _ _ (h.setBuffer _ _ (h.setEngine _ hu))

theorem filterSkip (base mask : BitVec 16) (hu : R u) : R (filterSkipCommand base mask u).2 := by
  refine h.settle (h.activateNewHead u (h.chooseWork ?_))
  generalize u.queue.filter (filterMatches base mask) = taken
  generalize hv : u = v at hu ⊢
  clear hv
  induction taken generalizing v with
  | nil => exact hu
  | cons e rest ih => exact ih _ (h.removeEntry e _ (h.abandonPlan _ hu))

theorem jobReset (hu : R u) : R (jobResetCommand u).2 := by
  rw [jobResetCommand_eq]
  exact h.issueIdlePressure (h.jetOff (h.clearWork hu))

theorem writeMaterial (i : Fin 24) (record : Material) (hu : R u) : R (Machine.writeMaterial i record u) := by
  refine h.chooseWork (h.setQueue _ ?_)
  rcases abandonUser_cases i (u.setMaterials (u.materials.set i (rewriteRecord record u.materials[i]))) with ha | ha <;> rw [ha]
  · exact h.setMaterials _ hu
  · exact h.setPlanner _ (h.setMaterials _ hu)

/-- Every command but those that set the configuration or the wear block. -/
theorem command {c : Instr} (hc : keepsTables c = true) (hu : R u) : R (runCommand c u).2 := by
  cases c with
  | bufClear buffer =>
    rcases bufClearCommand_cases buffer u with hr | ⟨_, -, -, hr⟩
    · exact of_refused hr hu
    · exact (congrArg (R ·.2) hr).mpr (h.setBuffer _ _ hu)
  | bufWrite buffer startSlot records =>
    rcases bufWriteCommand_cases buffer startSlot records u with hr | ⟨_, _, -, -, -, hr⟩
    · exact of_refused hr hu
    · exact (congrArg (R ·.2) hr).mpr (h.setBuffer _ _ hu)
  | bufRead buffer slot => exact (congrArg R (bufReadCommand_snd ..)).mpr hu
  | commitStatus buffer => exact (congrArg R (commitStatusCommand_snd ..)).mpr hu
  | contourOpen id tag material quality passes pierceMode closed startX startY beforeId =>
    rcases contourOpenCommand_cases id tag material quality passes pierceMode closed startX startY beforeId u with
      hr | ⟨e, _, -, -, -, -, -, rfl, hr⟩
    · exact of_refused hr hu
    · exact (congrArg (R ·.2) hr).mpr (h.settle (h.activateNewHead u (h.setQueue _ hu)))
  | contourAppend buffer id =>
    rcases contourAppendCommand_cases buffer id u with hr | ⟨_, _, _, page, rest, -, -, -, -, -, -, -, hr⟩
    · exact of_refused hr hu
    · exact (congrArg (R ·.2) hr).mpr (h.acceptCommit _ (h.setFreePages _ hu))
  | contourReplace buffer id position =>
    rcases contourReplaceCommand_cases buffer id position u with hr | ⟨_, _, _, page, -, -, -, -, -, -, hr⟩
    · exact of_refused hr hu
    · exact (congrArg (R ·.2) hr).mpr (h.acceptCommit _ hu)
  | contourClose id =>
    rcases contourCloseCommand_cases id u with hr | ⟨_, -, -, -, -, hr⟩
    · exact of_refused hr hu
    · exact (congrArg (R ·.2) hr).mpr (h.chooseWork (h.modifyEntry _ _ hu))
  | contourDelete id =>
    rcases contourDeleteCommand_cases id u with hr | ⟨e, -, -, hr⟩
    · exact of_refused hr hu
    · exact (congrArg (R ·.2) hr).mpr (h.settle (h.activateNewHead u (h.chooseWork (h.removeEntry _ _ (h.abandonPlan _ hu)))))
  | contourMove id beforeId =>
    rcases contourMoveCommand_cases id beforeId u with hr | ⟨e, -, -, -, ⟨-, hr⟩ | ⟨_, -, rfl, hr⟩⟩
    · exact of_refused hr hu
    · exact (congrArg (R ·.2) hr).mpr hu
    · exact (congrArg (R ·.2) hr).mpr (h.settle (h.activateNewHead u (h.setQueue _ hu)))
  | contourQuery id => exact (congrArg R (contourQueryCommand_snd ..)).mpr hu
  | filterSkip base mask => exact h.filterSkip base mask hu
  | hold =>
    rcases holdCommand_cases u with hr | ⟨t, ht, hr⟩
    · exact of_refused hr hu
    · exact (congrArg (R ·.2) hr).mpr (h.settle (h.holdHead hu ht))
  | resume =>
    rcases resumeCommand_cases u with hr | ⟨-, hr⟩
    · exact of_refused hr hu
    · exact (congrArg (R ·.2) hr).mpr (h.settle (h.resumeHead hu))
  | skip =>
    rcases skipCommand_cases u with hr | ⟨t, ht, hr⟩
    · exact of_refused hr hu
    · exact (congrArg (R ·.2) hr).mpr (h.settle (h.skipRequest hu ht))
  | finishedRead n =>
    rcases finishedReadCommand_cases n u with hr | hr
    · exact of_refused hr hu
    · exact (congrArg (R ·.2) hr).mpr (h.setFinished _ hu)
  | matWrite index record =>
    rcases matWriteCommand_cases index record u with hr | ⟨i, -, -, -, hr⟩
    · exact of_refused hr hu
    · exact (congrArg (R ·.2) hr).mpr (h.writeMaterial i record hu)
  | matRead index => exact (congrArg R (matReadCommand_snd ..)).mpr hu
  | matInvalidate index =>
    rcases matInvalidateCommand_cases index u with hr | ⟨i, -, -, hr⟩
    · exact of_refused hr hu
    · exact (congrArg (R ·.2) hr).mpr (h.setMaterials _ hu)
  | configSet record => cases hc
  | wearConfig counter source limit => cases hc
  | wearLevels t1 t2 t3 d1 d2 d3 => cases hc
  | wearLoad counter value => cases hc
  | wearReset counter => cases hc
  | routeSet jatnRoute matnRoute jatnMode matnMode =>
    rcases routeSetCommand_cases jatnRoute matnRoute jatnMode matnMode u with hr | ⟨_, _, -, -, hr⟩
    · exact of_refused hr hu
    · exact (congrArg (R ·.2) hr).mpr (h.setAttention _ hu)
  | eventsAck mask => exact h.setAttention _ hu
  | jobReset => exact h.jobReset hu
  | _ => exact hu

theorem completeCommit (c : Commit) (rest : List Commit) (hu : R u) : R (Machine.completeCommit c rest u) := by
  have hstore : R (commitToStore c (commitResult c u) u) := by
    unfold commitToStore
    split
    · exact h.setStore _ hu
    · split
      · exact h.setFreePages _ hu
      · exact hu
  have hentry : R (commitToEntry c (commitResult c u) (commitToStore c (commitResult c u) u)) :=
    Steady.cond (h.modifyEntry _ _ (Steady.cond (h.abandonPlan _ hstore) hstore)) hstore
  have htaken : R (takeWaitingCommit rest ((commitToBuffer c (commitResult c u) (commitToEntry c (commitResult c u)
      (commitToStore c (commitResult c u) u))).raise .commitDone)) := by
    unfold takeWaitingCommit
    split
    · exact h.setEngine _ (h.raise _ (h.setBuffer _ _ hentry))
    · exact h.setBuffer _ _ (h.setEngine _ (h.raise _ (h.setBuffer _ _ hentry)))
  unfold Machine.completeCommit activateAfterCommit
  refine h.settle ?_
  split
  · exact Steady.cond (h.tryActivate (h.chooseWork htaken)) (h.chooseWork htaken)
  · exact h.chooseWork htaken

theorem takeOverride (raw : Byte) (hu : R u) : R (Machine.takeOverride raw u) :=
  Steady.cond (h.takeRequest _ (h.setMotion _ rfl hu)) (h.setMotion _ rfl hu)

/-- The incoming frame is judged, and what the change leaves is settled. -/
theorem judgeFrame (frame : Vector Byte 28) (old : State) (hu : R u) :
    R ((Machine.judgeFrame frame u).settle.pierceAtOnce old) := by
  refine h.pierceAtOnce _ (h.settle ?_)
  unfold Machine.judgeFrame
  split
  · next raw r _ =>
    have hover := h.takeOverride raw (h.setMotion { u.motion with link := .ok } rfl hu)
    by_cases hack : ∃ mask, r = .eventAck mask
    · obtain ⟨mask, rfl⟩ := hack
      exact h.setAttention _ hover
    · exact h.takeReport (fun mask hr => hack ⟨mask, hr⟩) hover
  · exact h.takeFault _ (h.raise _ hu)

theorem timersTick (hu : R u) : R (Machine.timersTick u) := h.setPump _ (h.setMotion _ rfl (h.setJsq _ hu))

/-- The events keep what their operations keep, where the exchanges of the motion port keep it. -/
theorem eventsBetween (hunit : ∀ s i, R s → R ((s.setWear (s.wear.setCounter i (s.wear.counter i).millisecond)).judgeWear))
    (hstart : ∀ s, s.motion.exchange = none → R s → R (chooseRecord s))
    (hend : ∀ s x, s.motion.exchange = some x → R s →
      R (if x.cancelled then endExchange s else deliver x.placed (endExchange s)))
    (hcut : ∀ s x, s.motion.exchange = some x → R s →
      R (if x.cancelled then s.setMotion { s.motion with exchange := none }
        else (s.setMotion { s.motion with exchange := none }).setStream { s.stream with again := some x.placed })) :
    KeptByEvents R where
  port _ p hs := h.setPort p hs
  commit _ c rest _ hs := h.completeCommit c rest hs
  contourPlan _ job e _ _ _ hs := h.completeContourPlan job e hs
  activeJob _ job e _ _ _ hs := h.completeActiveJob job e hs
  frameStart s hx hs := hstart s hx hs
  frameComplete s x frame hx hs := h.judgeFrame frame s (hend s x hx hs)
  cutShort s x hx hs := hcut s x hx hs
  linkTimeout _ hs := h.settle (h.takeFault _ (h.raise _ (h.setMotion _ rfl hs)))
  waitExpiry _ _ hs := h.settle (h.takeFault _ (h.raise _ (h.setJsq _ hs)))
  pierce _ hs := h.pierceExpires hs
  sent _ _ _ _ hs := Steady.cond (Steady.cond (h.setJsq _ (h.setPump _ hs)) (h.setPump _ hs)) (h.setPump _ hs)
  assembly _ _ hs := h.setPump _ hs
  status _ r hs := h.acceptStatus r hs
  reportTimeout _ hs := h.settle (h.takeFault _ (h.raise _ (h.setPump _ hs)))
  unit s i hs := h.settle (hunit s i hs)
  tick s hs := h.settle (h.countWear _ (counts_tick s.jsq) (h.timersTick hs))
  line _ _ hs := ⟨h.setAttention _ hs, h.setAttention _ hs⟩

end SteadyBetween

namespace SteadyThroughout

variable {R : State → Prop} {u : State} (h : SteadyThroughout R)
include h

/-! ### Frames -/

theorem placeWithSerial (kind : SerialKind) (body : RecordBody) (hu : R u) : R (Machine.placeWithSerial kind body u) :=
  h.putMotion _ (h.putStream _ hu)

theorem chooseRecord (hu : R u) : R (Machine.chooseRecord u) := by
  unfold Machine.chooseRecord
  split
  · exact h.putMotion _ (h.putStream _ hu)
  · split
    · exact h.placeWithSerial _ _ (h.putStream _ hu)
    · split
      · unfold placeSeg
        split
        · exact hu
        · exact h.holdAtDue (h.putStream _ (h.placeWithSerial _ _ hu))
      · exact h.putMotion _ hu

theorem deliver (p : Placed) (hu : R u) : R (Machine.deliver p u) := by
  unfold Machine.deliver
  split
  case h_2 => exact h.putStream _ hu
  case h_3 => exact Steady.cond (h.setJsq _ hu) hu
  case h_4 => exact Steady.cond (h.runOn (h.sequencerIdle hu)) hu
  all_goals exact hu

/-- The events keep what their operations keep. -/
theorem events : KeptByEvents R :=
  h.eventsBetween (fun _ i hs => h.unit i hs) (fun _ _ hs => h.chooseRecord hs)
    (fun _ _ _ hs => Steady.cond (h.putMotion _ hs) (h.deliver _ (h.putMotion _ hs)))
    fun _ _ _ hs => Steady.cond (h.putMotion _ hs) (h.putStream _ (h.putMotion _ hs))

end SteadyThroughout

end Sys2Proof.Proofs

/-! PROOFS. The wear counters: what a judgement of limits and level leaves, and what it raises (R175 to R178). -/

namespace Sys2Proof.Proofs

open Sys2Proof Sys2Proof.Machine

/-! ### Counters -/

@[simp] theorem counter_mapCounters (f : Counter → Counter) (w : Wear) (i : Fin 4) :
    (w.mapCounters f).counter i = f (w.counter i) := by
  fin_cases i <;> rfl

theorem counter_setCounter (w : Wear) (i j : Fin 4) (c : Counter) :
    (w.setCounter i c).counter j = if j = i then c else w.counter j := by
  fin_cases i <;> fin_cases j <;> rfl

theorem anyDue_eq_false (w : Wear) : w.anyDue = false ↔ ∀ i, (w.counter i).becomesDue = false := by
  simp only [Wear.anyDue, Bool.or_eq_false_iff]
  refine ⟨fun ⟨⟨⟨h0, h1⟩, h2⟩, h3⟩ i => ?_, fun h => ⟨⟨⟨h 0, h 1⟩, h 2⟩, h 3⟩⟩
  fin_cases i
  · exact h0
  · exact h1
  · exact h2
  · exact h3

theorem judge_value (c : Counter) : c.judge.value = c.value := by
  unfold Counter.judge
  split <;> rfl

theorem judge_due (c : Counter) : c.judge.due = (c.becomesDue || c.due) := by
  unfold Counter.judge
  split <;> simp_all

theorem judge_becomesDue (c : Counter) : c.judge.becomesDue = false := by
  unfold Counter.judge
  split
  · simp [Counter.becomesDue]
  · next h => exact Bool.eq_false_iff.2 h

theorem judge_of_not_due {c : Counter} (h : c.becomesDue = false) : c.judge = c := by
  unfold Counter.judge
  rw [h]
  rfl

/-- The judgement of a counter, as one equation. -/
theorem judge_eq (c : Counter) : c.judge = { c with due := c.due || (decide (c.limit ≠ 0) && decide (c.limit ≤ c.value)) } := by
  obtain ⟨source, value, remainder, limit, due⟩ := c
  cases due <;> by_cases h : limit = 0 <;> by_cases h' : limit ≤ value <;> simp [Counter.judge, Counter.becomesDue, h, h']

theorem levelNow_judge (w : Wear) : (w.mapCounters Counter.judge).levelNow = w.levelNow := by
  simp only [Wear.levelNow, Wear.mapCounters, judge_value]

/-! ### The judgement of all counters -/

theorem judgeLevel_wear (s : State) : s.judgeLevel.wear = { s.wear with level := s.wear.levelNow } := by
  unfold State.judgeLevel
  split
  · next h => rw [h]
  · rfl

theorem judgeWear_wear (s : State) :
    s.judgeWear.wear = { s.wear.mapCounters Counter.judge with level := s.wear.levelNow } := by
  unfold State.judgeWear
  dsimp only
  rw [judgeLevel_wear]
  split <;> exact congrArg (fun n => ({ s.wear.mapCounters Counter.judge with level := n } : Wear)) (levelNow_judge s.wear)

theorem judgeWear_counter (s : State) (i : Fin 4) : (s.judgeWear).wear.counter i = (s.wear.counter i).judge := by
  rw [judgeWear_wear, ← counter_mapCounters Counter.judge]
  fin_cases i <;> rfl

theorem judgeWear_level (s : State) : s.judgeWear.wear.level = s.judgeWear.wear.levelNow := by
  rw [judgeWear_wear]
  exact (levelNow_judge s.wear).symm

theorem judgeLevel_frame (s : State) : s.judgeLevel = (s.setWear s.judgeLevel.wear).setAttention s.judgeLevel.attention := by
  unfold State.judgeLevel
  split <;> rfl

theorem judgeWear_frame (s : State) : s.judgeWear = (s.setWear s.judgeWear.wear).setAttention s.judgeWear.attention := by
  unfold State.judgeWear State.judgeLevel
  dsimp only
  split <;> split <;> rfl

/-- A judgement touches the wear block and the pending sets. -/
theorem settle_judgeWear_frame (s : State) :
    s.judgeWear.settle = (s.setWear s.judgeWear.settle.wear).setAttention s.judgeWear.settle.attention := by
  conv_lhs => rw [judgeWear_frame]
  rfl

/-- A counter that becomes due raises WEAR_SERVICE (R177). -/
theorem judgeWear_service {s : State} {i : Fin 4} (h : (s.wear.counter i).becomesDue = true) :
    pendingWhereRouted .wearService s s.judgeWear := by
  have hany : s.wear.anyDue = true := Bool.of_not_eq_false fun hf => by
    rw [(anyDue_eq_false _).1 hf i] at h
    cases h
  unfold State.judgeWear
  dsimp only
  rw [hany]
  exact Gathers.pending (u := s.setWear (s.wear.mapCounters Counter.judge)) (.of_attention rfl) (Gathers.judgeLevel (.refl _))

/-- A new level raises WEAR_LEVEL (R178). -/
theorem judgeLevel_raises {s : State} (h : s.judgeLevel.wear.level ≠ s.wear.level) : pendingWhereRouted .wearLevel s s.judgeLevel := by
  rw [judgeLevel_wear] at h
  unfold State.judgeLevel
  rw [if_neg h]
  exact Gathers.pending (u := s.setWear { s.wear with level := s.wear.levelNow }) (.of_attention rfl) (.refl _)

theorem judgeWear_newLevel {s : State} (h : s.judgeWear.wear.level ≠ s.wear.level) : pendingWhereRouted .wearLevel s s.judgeWear := by
  have hbefore : Gathers s (if s.wear.anyDue then (s.setWear (s.wear.mapCounters Counter.judge)).raise .wearService
      else s.setWear (s.wear.mapCounters Counter.judge)) :=
    .cond (.raise ((Gathers.refl s).setWear _) _) ((Gathers.refl s).setWear _)
  refine gathers_pendingWhereRouted hbefore (judgeLevel_raises fun heq => h ?_)
  refine heq.trans ?_
  split <;> rfl

/-- With no counter due and the level as it was, the judgement leaves the attention lines. -/
theorem judgeWear_still {s : State} (hdue : s.wear.anyDue = false) (hlevel : s.wear.levelNow = s.wear.level) :
    s.judgeWear = s.setWear (s.wear.mapCounters Counter.judge) := by
  unfold State.judgeWear
  dsimp only
  rw [hdue, if_neg Bool.false_ne_true]
  unfold State.judgeLevel
  exact if_pos ((levelNow_judge s.wear).trans hlevel)

/-- After a judgement the law of wear holds where the values are in range. -/
theorem judgeWear_law {s : State} (h : ∀ i, (s.wear.counter i).value ≤ 4294967295) : WearLaw s.judgeWear := by
  refine ⟨(anyDue_eq_false _).2 fun i => ?_, judgeWear_level s, fun i => ?_⟩
  · rw [judgeWear_counter]
    exact judge_becomesDue _
  · rw [judgeWear_counter, judge_value]
    exact h i

/-- Under the law of wear nothing is due, and the level is the one counter 0 gives (R177, R178). -/
theorem not_due_of_law {s : State} (h : WearLaw s) (i : Fin 4) : (s.wear.counter i).becomesDue = false :=
  (anyDue_eq_false _).1 h.1 i

theorem judgeWear_counter_of_law {s u : State} (h : WearLaw s) {i : Fin 4} (hi : u.wear.counter i = s.wear.counter i) :
    u.judgeWear.wear.counter i = s.wear.counter i := by
  rw [judgeWear_counter, hi, judge_of_not_due (not_due_of_law h i)]

end Sys2Proof.Proofs

/-! PROOFS. Contours opened, closed, moved, deleted and filtered out of the queue (R3, R4, R5, R10, R11, R12). -/

namespace Sys2Proof.Proofs

open Sys2Proof Sys2Proof.Machine

/-! ### Placement -/

theorem place_cons (e : Entry) (id : Nat) (q : Entry) (rest : List Entry) : place e (some id) (q :: rest)
    = if q.contourId = id then if q.state.begun then q :: e :: rest else e :: q :: rest else q :: place e (some id) rest := rfl

/-- At the head of the queue stands the entry placed, or the head of before. -/
theorem place_head (e : Entry) (before : Option Nat) (queue : List Entry) :
    (place e before queue).head? = some e ∨ (place e before queue).head? = queue.head? := by
  cases before with
  | none =>
    rw [place_none]
    cases queue with
    | nil => exact .inl rfl
    | cons q rest => exact .inr rfl
  | some id =>
    cases queue with
    | nil => exact .inl rfl
    | cons q rest =>
      rw [place_cons]
      split_ifs
      exacts [.inr rfl, .inl rfl, .inr rfl]

/-- Behind entries of other contour_ids, placement goes on as behind none (R4). -/
theorem place_behind (e : Entry) (id : Nat) (l r : List Entry) (h : ∀ y ∈ l, y.contourId ≠ id) :
    place e (some id) (l ++ r) = l ++ place e (some id) r := by
  induction l with
  | nil => rfl
  | cons q l ih =>
    rw [List.cons_append, place_cons]
    exact (if_neg (h q List.mem_cons_self)).trans (congrArg (q :: ·) (ih fun y hy => h y (List.mem_cons_of_mem _ hy)))

/-- Placement at the entry named (R4). -/
theorem place_at (e x : Entry) (l r : List Entry) (h : ∀ y ∈ l, y.contourId ≠ x.contourId) :
    place e (some x.contourId) (l ++ x :: r)
      = if x.state = .active ∨ x.state = .held ∨ x.state = .failed then l ++ x :: e :: r else l ++ e :: x :: r := by
  have hbegun : x.state.begun = true ↔ x.state = .active ∨ x.state = .held ∨ x.state = .failed := by
    rw [begun_eq_true_iff]
    simp
  rw [place_behind e _ l _ h, place_cons]
  simp only [if_true, hbegun]
  split_ifs <;> rfl

/-! ### A new head -/

theorem tryActivate_of_not {s : State} (h : s.canActivate = false) : s.tryActivate = s := by
  unfold State.tryActivate
  split
  · rw [h]; rfl
  · rfl

/-- Nothing is activated where the head is the one of before, or cannot be activated (R15). -/
theorem activateNewHead_of {old s : State} (h : (s.queue.head?).map Entry.contourId = (old.queue.head?).map Entry.contourId
    ∨ s.canActivate = false) : State.activateNewHead old s = s := by
  unfold State.activateNewHead
  split_ifs with hsame
  · rfl
  · exact tryActivate_of_not (h.resolve_left hsame)

theorem canActivate_eq_false {s : State}
    (h : ∀ e, s.queue.head? = some e → ¬ (s.jsq.phase = .idle ∧ e.state = .ready ∧ e.commitsPending = 0)) :
    s.canActivate = false := by
  rw [Bool.eq_false_iff, ne_eq, canActivate_iff]
  rintro ⟨hphase, e, he, hready, hcommits⟩
  exact h e he ⟨hphase, hready, hcommits⟩

/-- A position depends on the contour_ids alone. -/
theorem positionOf_ids {list list' : List Entry} (h : list.map Entry.contourId = list'.map Entry.contourId) (id : Nat) :
    positionOf list id = positionOf list' id := by
  have hmap (l : List Entry) : l.findIdx (fun e => e.contourId == id) = (l.map Entry.contourId).findIdx (· == id) := by
    rw [List.findIdx_map]
    rfl
  rw [positionOf, positionOf, hmap, hmap, h]

/-! ### CONTOUR_OPEN -/

/-- A pierce mode's byte is at most 2 (R189). -/
theorem pierceMode_le {b : Byte} {mode : PierceMode} (h : PierceMode.ofByte b = some mode) : b.toNat ≤ 2 := by
  unfold PierceMode.ofByte at h
  split_ifs at h with h0 h1 h2 <;> subst b <;> decide

/-- The reading of the field closed (R2). -/
theorem closedOfByte_getD {b : Byte} (h : b = 0 ∨ b = 1) : (closedOfByte b).getD false = decide (b = 0) := by
  rcases h with rfl | rfl <;> rfl

theorem beforeMissing_eq_false {s : State} {beforeId : BitVec 16} (h : beforeId ≠ 0 → s.entry beforeId.toNat ≠ none) :
    beforeMissing s beforeId = false := by
  unfold beforeMissing optionalId
  split_ifs with hzero
  · rfl
  · simpa [Option.isSome_iff_ne_none] using h hzero

/-- An entry placed as LOADING, and nothing activated by it (R3, R4). -/
theorem activateNewHead_opened {s : State} {e : Entry} (he : e.state = .loading) (before : Option Nat) :
    State.activateNewHead s (s.setQueue (place e before s.queue)) = s.setQueue (place e before s.queue) := by
  refine activateNewHead_of ?_
  rcases place_head e before s.queue with hhead | hhead
  · refine .inr (canActivate_eq_false fun x hx => ?_)
    rw [State.setQueue_queue, hhead] at hx
    rintro ⟨-, hready, -⟩
    cases hx
    rw [he] at hready
    cases hready
  · exact .inl (by rw [State.setQueue_queue, hhead])

/-- CONTOUR_OPEN with every check passed. -/
theorem contourOpenCommand_accepted {id tag beforeId : BitVec 16} {material quality passes pierceMode closed : Byte}
    {startX startY : BitVec 32} {m : Fin 24} {e : Entry} {s : State} (hquiet : Quiet s)
    (hfields : firstOutOfRange (headerRanges s.config id.toNat material.toNat quality.toNat passes.toNat pierceMode.toNat
      closed.toNat startX.toNat startY.toNat) = none)
    (hroom : s.queue.length < 48) (hnew : s.entry id.toNat = none) (hm : m.val = material.toNat)
    (hmat : (s.materials[m]).fields ≠ none) (hbefore : beforeId ≠ 0 → s.entry beforeId.toNat ≠ none)
    (he : e = newEntry id tag m quality passes pierceMode closed startX startY) :
    contourOpenCommand id tag material quality passes pierceMode closed startX startY beforeId s
      = okay (.position (positionOf (place e (optionalId beforeId) s.queue) id.toNat))
          (s.setQueue (place e (optionalId beforeId) s.queue)) := by
  have hopened := activateNewHead_opened (s := s) (e := e) (by rw [he]; rfl) (optionalId beforeId)
  have hsettled : (s.setQueue (place e (optionalId beforeId) s.queue)).settle = s.setQueue (place e (optionalId beforeId) s.queue) :=
    State.settle_of_quiet hquiet
  have hvalid : (s.materials[m]).fields.isNone = false := by simpa [Option.isSome_iff_ne_none] using hmat
  unfold contourOpenCommand
  simp only [hfields, Nat.not_le.2 hroom, hnew, ofNat_index hm, hvalid, beforeMissing_eq_false hbefore, ← he, hopened, hsettled]
  rw [he]
  rfl

/-- Settles O25: the accepted command, and the rule of placement. -/
theorem contourOpenedAndPlaced : Obligations.ContourOpenedAndPlaced := by
  refine ⟨?_, fun e x l r => ⟨place_none e (l ++ r), place_at e x l r⟩⟩
  intro id tag beforeId material quality passes pierceMode closed startX startY mode m e s hopen hquiet hid hm hq1 hq5 hp1 hp4 hmode
    hclosed hx hy hroom hnew hmat hbefore he
  refine ⟨_, rfl, ?_⟩
  have hentry : e = newEntry id tag m quality passes pierceMode closed startX startY := by
    rw [he, newEntry, hmode, closedOfByte_getD hclosed]
    rfl
  have hfields : firstOutOfRange (headerRanges s.config id.toNat material.toNat quality.toNat passes.toNat pierceMode.toNat
      closed.toNat startX.toNat startY.toNat) = none := by
    have hclosedLe : closed.toNat ≤ 1 := by rcases hclosed with rfl | rfl <;> decide
    have hmodeLe := pierceMode_le hmode
    have hmLe := m.isLt
    have hidLe := id.isLt
    rw [firstOutOfRange_eq_none, headerRanges]
    simp only [List.forall_mem_cons, List.not_mem_nil, false_implies, implies_true, and_true]
    omega
  have hrun := contourOpenCommand_accepted (s := atWork s) (tag := tag) hquiet hfields hroom hnew hm hmat hbefore hentry
  rw [exec_of_command rfl, State.onJobPort_of_open hopen, runCommand, hrun]
  rfl

/-! ### CONTOUR_CLOSE -/

theorem chooseWork_of_busy {s : State} {job : Job} (h : s.planner.job = some job) : s.chooseWork = s := by
  unfold State.chooseWork
  rw [h]

theorem chooseWork_of_first {s : State} {w : Entry} (h : s.planner.job = none)
    (hfind : s.queue.find? (fun x => x.state == .waitingPlan) = some w) :
    s.chooseWork = (s.setPlanner { s.planner with job := some ⟨.contour, w.contourId, s.sampleInputs w, none, none⟩ }).modifyEntry
      w.contourId (fun x => { x with state := .planning }) := by
  unfold State.chooseWork
  simp only [h, hfind]

/-- CONTOUR_CLOSE with every check passed. -/
theorem contourCloseCommand_accepted {id : BitVec 16} {s : State} {e : Entry} (he : s.entry id.toNat = some e)
    (hstate : e.state = .loading) (hcommits : e.commitsPending = 0) (hpass : structureFault e.closed e.passes (s.segments e) = none) :
    contourCloseCommand id s
      = okay .empty (s.modifyEntry id.toNat fun e => { e with state := .waitingPlan }).chooseWork := by
  simp [contourCloseCommand, he, hstate, hcommits, hpass]

/-- With no other entry waiting, the entry closed is the one the engine chooses (R93). -/
theorem find_closed {s : State} {id : Nat} {e : Entry} (he : s.entry id = some e) (hnone : ∀ x ∈ s.queue, x.state ≠ .waitingPlan) :
    (s.modifyEntry id fun e => { e with state := .waitingPlan }).queue.find? (fun x => x.state == .waitingPlan)
      = some { e with state := .waitingPlan } := by
  have hfind : s.queue.find? (fun x => x.contourId == id) = some e := he
  have hsame : ∀ x ∈ s.queue, ((fun x : Entry => x.state == .waitingPlan) ∘
      fun x => if x.contourId = id then { x with state := .waitingPlan } else x) x = (x.contourId == id) := by
    intro x hx
    by_cases hid : x.contourId = id <;> simp [hid, hnone x hx]
  rw [State.modifyEntry, State.setQueue_queue, List.find?_map, List.find?_congr hsame, hfind, Option.map_some,
    if_pos (entry_some he).2]

/-- The entry closed with the engine free: PLANNING at once, the plan's inputs sampled (R93, R99). -/
theorem chooseWork_closed {s : State} {id : Nat} {e : Entry} (he : s.entry id = some e) (hjob : s.planner.job = none)
    (hnone : ∀ x ∈ s.queue, x.state ≠ .waitingPlan) :
    (s.modifyEntry id fun e => { e with state := .waitingPlan }).chooseWork
      = (s.setQueue (s.queue.map fun x => if x.contourId = id then { x with state := .planning } else x)).setPlanner
          { s.planner with job := some ⟨.contour, id, sampledFor s e, none, none⟩ } := by
  have hid := (entry_some he).2
  have hqueue : (s.queue.map fun x => if x.contourId = id then { x with state := .waitingPlan } else x).map
      (fun x => if x.contourId = id then { x with state := EntryState.planning } else x)
        = s.queue.map fun x => if x.contourId = id then { x with state := .planning } else x := by
    rw [List.map_map]
    refine List.map_congr_left fun x _ => ?_
    by_cases h : x.contourId = id <;> simp [h]
  rw [chooseWork_of_first (s := s.modifyEntry id _) hjob (find_closed he hnone), ← hqueue, State.sampleInputs_eq, hid]
  rfl

/-- Settles O26: the refusals in order, then the acceptance by what the engine is doing. -/
theorem contourClosed : Obligations.ContourClosed := by
  intro id s hopen
  refine ⟨fun habsent => exec_answers rfl hopen ?_, fun e he => ⟨fun hstate => exec_answers rfl hopen ?_,
    fun hstate hcommits => exec_answers rfl hopen ?_, fun reason segment hstate hcommits hfault => exec_answers rfl hopen ?_,
    fun hstate hcommits hpass => ?_⟩⟩
  · simp [runCommand, contourCloseCommand, habsent, refusePlain_eq]
  · simp [runCommand, contourCloseCommand, he, hstate, refusePlain_eq]
  · simp [runCommand, contourCloseCommand, he, hstate, hcommits, refusePlain_eq]
  · simp [runCommand, contourCloseCommand, he, hstate, hcommits, hfault, refuse]
  · have hrun := contourCloseCommand_accepted (s := atWork s) he hstate hcommits hpass
    refine ⟨fun job hjob => ?_, fun hjob hnone => ?_⟩
    · rw [exec_of_command rfl, State.onJobPort_of_open hopen, runCommand, hrun,
        chooseWork_of_busy (s := (atWork s).modifyEntry _ _) hjob]
      rfl
    · rw [exec_of_command rfl, State.onJobPort_of_open hopen, runCommand, hrun, chooseWork_closed (s := atWork s) he hjob hnone]
      rfl

end Sys2Proof.Proofs

/-! PROOFS. Contours moved, deleted and filtered out of the queue (R4, R6, R10, R11, R12, R19, R20, R44). -/

namespace Sys2Proof.Proofs

open Sys2Proof Sys2Proof.Machine

/-! ### An entry that has gone -/

/-- No entry of the queue has this contour_id, and no contour plan in flight is for it. -/
structure Gone (id : Nat) (s : State) : Prop where
  away : id ∉ ids s
  plan : id ∉ planInFlight s.planner

namespace Gone

variable {id : Nat} {u v : State}

theorem frame (h : Gone id u) (hq : ids v = ids u) (hp : v.planner = u.planner := by simp) : Gone id v :=
  ⟨by rw [hq]; exact h.away, by rw [hp]; exact h.plan⟩

theorem cond {c : Prop} [Decidable c] (h : Gone id u) (h' : Gone id v) : Gone id (if c then u else v) := by
  split
  exacts [h, h']

/-- The job is dropped, or another than a contour plan for this entry. -/
theorem setPlanner (h : Gone id u) {p : Planner} (hp : id ∉ planInFlight p) : Gone id (u.setPlanner p) := ⟨h.away, hp⟩

/-- The engine chooses among the entries of the queue. -/
theorem chooseWork (h : Gone id u) : Gone id u.chooseWork := by
  refine ⟨by rw [ids_chooseWork]; exact h.away, ?_⟩
  rcases State.chooseWork_cases u with hc | ⟨e, -, hfind, hc⟩ <;> rw [hc]
  · exact h.plan
  · rw [State.modifyEntry_planner, State.setPlanner_planner, mem_planInFlight]
    rintro ⟨job, hjob, -, rfl⟩
    cases hjob
    exact h.away (List.mem_map_of_mem (List.mem_of_find?_eq_some hfind))

theorem dropRequest (h : Gone id u) : Gone id u.dropRequest := by
  rcases State.dropRequest_cases u with ⟨-, hc⟩ | ⟨-, hc⟩ <;> rw [hc]
  · exact h
  · exact (h.setPlanner (by simp [planInFlight])).chooseWork

theorem startActiveJob (h : Gone id u) {kind : JobKind} (hk : kind ≠ .contour) (e : Entry) : Gone id (u.startActiveJob kind e) :=
  h.setPlanner (by simp [planInFlight, hk])

theorem takeRequest (h : Gone id u) {kind : JobKind} (hk : kind ≠ .contour) : Gone id (u.takeRequest kind) := by
  unfold State.takeRequest
  split
  · exact h
  · have hmark : Gone id (if kind = .stop then u.setPlanner { u.planner with stopTaken := true } else u) :=
      (h.setPlanner (p := { u.planner with stopTaken := true }) h.plan).cond h
    dsimp only
    split
    · exact hmark.startActiveJob hk _
    · split
      · exact (hmark.frame (ids_modifyState ..)).startActiveJob hk _
      · split
        · exact hmark.startActiveJob (Sound.mergeRequest_ne_contour hk ‹_› ‹_›) _
        · exact hmark

theorem modifyHead (h : Gone id u) {f : Entry → Entry} (hf : KeepsOwn f) : Gone id (u.modifyHead f) :=
  h.frame (ids_modifyHead hf.contourId u)

theorem becomeHeld (h : Gone id u) (cause : Cause) (point : Place) : Gone id (u.becomeHeld cause point) := by
  unfold State.becomeHeld
  split
  · exact h
  · refine Gone.frame (u := State.dropRequest _) (Gone.dropRequest ?_) rfl
    exact Gone.frame (u := u.modifyHead _) (h.modifyHead (keepsOwn_hold cause _)) rfl

theorem immediateHold (h : Gone id u) (cause : Cause) : Gone id (u.immediateHold cause) := by
  unfold State.immediateHold
  split
  · exact h
  · exact Gone.becomeHeld (h.frame (ids_congr (State.restAtOnce_queue u))) _ _

theorem silenceAtStart (h : Gone id u) : Gone id u.silenceAtStart := by
  have hmotion : Gone id (if u.motion.link = .silent then u.immediateHold .motionLinkFault else u) := (h.immediateHold _).cond h
  unfold State.silenceAtStart State.pumpSilenceAtStart
  exact (hmotion.immediateHold _).cond hmotion

theorem activate (h : Gone id u) (e : Entry) : Gone id (u.activate e) := by
  rw [activate_eq]
  refine Gone.silenceAtStart (Gone.frame ?_ (ids_congr (State.startSequence_queue ..)))
  have hhead := h.modifyHead keepsOwn_activate
  have hstarted : Gone id ((((u.modifyHead Entry.activate).startStream ⟨0, 1⟩).setPlanner
      { u.planner with stopTaken := false }).raise .contourStart) := ⟨hhead.away, h.plan⟩
  have hasked := hstarted.takeRequest (kind := .activation) (by nofun)
  have hmade := hstarted.cond (c := e.stamp = some (State.currentStamp ((((u.modifyHead Entry.activate).startStream
      ⟨0, 1⟩).setPlanner { u.planner with stopTaken := false }).raise .contourStart) e)) hasked
  exact ⟨hmade.away, hmade.plan⟩

theorem activateNewHead (h : Gone id u) (old : State) : Gone id (State.activateNewHead old u) := by
  unfold State.activateNewHead
  refine h.cond ?_
  rcases State.tryActivate_cases u with hc | ⟨e, _, -, -, -, -, hc⟩ <;> rw [hc]
  exacts [h, h.activate e]

end Gone

theorem ids_activateNewHead (old s : State) : ids (State.activateNewHead old s) = ids s := by
  unfold State.activateNewHead
  split
  · rfl
  · exact ids_tryActivate s

/-! ### CONTOUR_DELETE -/

/-- The queue, the jet, the stream and the links stay as they were where the head does not change. -/
theorem activateNewHead_of_head {old s : State} (h : (s.queue.head?).map Entry.contourId = (old.queue.head?).map Entry.contourId) :
    State.activateNewHead old s = s := activateNewHead_of (.inl h)

/-- What leaves with an entry that has not begun, before the next head is looked at (R10, R19, R44). -/
def deleted (e : Entry) (s : State) : State := ((s.abandonPlan e.contourId).removeEntry e none).chooseWork

theorem ids_deleted (e : Entry) (s : State) : ids (deleted e s) = (ids s).filter fun x => x ≠ e.contourId := by
  rw [deleted, ids_chooseWork]
  unfold ids
  rw [removeEntry_queue, State.abandonPlan_queue, List.filter_map]
  congr 1
  refine List.filter_congr fun x _ => ?_
  by_cases h : x.contourId = e.contourId <;> simp [h]

theorem gone_deleted (e : Entry) (s : State) : Gone e.contourId (deleted e s) := by
  refine Gone.chooseWork ⟨?_, ?_⟩
  · unfold ids
    rw [removeEntry_queue]
    simp
  · rw [State.removeEntry_planner, planInFlight_abandonPlan]
    simp

/-- A filter that keeps the head keeps it first. -/
theorem head_filter_ne {list : List Nat} {id : Nat} (h : list.head? ≠ some id) :
    (list.filter fun x => x ≠ id).head? = list.head? := by
  cases list with
  | nil => rfl
  | cons x rest =>
    have hx : x ≠ id := fun heq => h (by rw [heq]; rfl)
    simp [hx]

theorem head_ids (s : State) : (s.queue.head?).map Entry.contourId = (ids s).head? := by
  rw [ids, List.head?_map]

/-- Settles O28: what leaves with the entry, and what a new head's activation keeps. -/
theorem contourDeleted : Obligations.ContourDeleted := by
  intro id s e hopen hlaw he hstate
  have hid := (entry_some he).2
  have hrun : contourDeleteCommand id (atWork s)
      = okay .empty (State.activateNewHead (atWork s) (deleted e (atWork s))).settle := by
    simp [contourDeleteCommand, he, (begun_eq_false_iff _).2 hstate, deleted]
  have hgone : Gone id.toNat (State.activateNewHead (atWork s) (deleted e (atWork s))) := hid ▸ (gone_deleted e (atWork s)).activateNewHead _
  refine ⟨((State.activateNewHead (atWork s) (deleted e (atWork s))).settle).respond ⟨.ok, .empty⟩, ?_, ?_⟩
  · rw [exec_of_command rfl, State.onJobPort_of_open hopen, runCommand, hrun]
    rfl
  · refine ⟨rfl, ?_, ?_, ?_, ?_, fun job hjob hk hjid => ?_, ?_, ?_, ?_, ?_, ?_, ?_, fun hhead => ?_⟩
    · simp [deleted, removeEntry_freePages]
    · simp [deleted, removeEntry_store]
    · simp [deleted, removeEntry_finished]
    · rw [State.respond_queue, State.settle_queue]
      exact (ids_activateNewHead _ _).trans ((ids_deleted e (atWork s)).trans (by rw [hid]; rfl))
    · exact hgone.plan (mem_planInFlight.2 ⟨job, by simpa using hjob, hk, hjid⟩)
    · simp [deleted, removeEntry_engine, hid]
    · simp [deleted]
    · simp [deleted]
    · simp [deleted]
    · simp [deleted]
    · simp [deleted]
    · have hkeep : State.activateNewHead (atWork s) (deleted e (atWork s)) = deleted e (atWork s) := by
        refine activateNewHead_of_head ?_
        rw [head_ids, head_ids, ids_deleted, head_filter_ne]
        rw [hid, ← head_ids]
        exact hhead
      rw [hkeep]
      refine ⟨?_, ?_, ?_, ?_⟩
      · simp [deleted]
      · simp [deleted, removeEntry_stream, (begun_eq_false_iff _).2 hstate]
      · simp [deleted]
      · simp [deleted]

/-! ### CONTOUR_MOVE -/

/-- CONTOUR_MOVE to another place, with every check passed. -/
theorem contourMoveCommand_accepted {id beforeId : BitVec 16} {s : State} {e : Entry} (he : s.entry id.toNat = some e)
    (hbegun : e.state.begun = false) (hbefore : beforeId ≠ 0 → s.entry beforeId.toNat ≠ none) (hne : beforeId ≠ id)
    {moved : State} (hmoved : moved = State.activateNewHead s (s.setQueue (place e (optionalId beforeId)
      (s.queue.filter fun x => x.contourId != id.toNat)))) :
    contourMoveCommand id beforeId s = okay (.position (positionOf moved.queue id.toNat)) moved.settle := by
  have hid := (entry_some he).2
  simp [contourMoveCommand, he, hbegun, beforeMissing_eq_false hbefore, hne, hmoved, hid]

/-- Settles O29: the move of an entry before itself, and the others by what becomes of the new head. -/
theorem contourMoved : Obligations.ContourMoved := by
  intro id beforeId s e queue hopen hlaw hquiet he hstate hbefore hqueue
  have hbegun := (begun_eq_false_iff _).2 hstate
  refine ⟨fun heq hzero => exec_answers rfl hopen ?_, fun hne => ?_⟩
  · subst heq
    simp [runCommand, contourMoveCommand, he, hbegun, beforeMissing_eq_false (s := atWork s) hbefore, okay,
      (entry_some he).2, positionOf]
  · have hmoved : State.activateNewHead (atWork s) ((atWork s).setQueue queue)
        = State.activateNewHead (atWork s) ((atWork s).setQueue (place e (optionalId beforeId)
          ((atWork s).queue.filter fun x => x.contourId != id.toNat))) := by rw [hqueue]; rfl
    have hrun := contourMoveCommand_accepted (s := atWork s) he hbegun hbefore hne hmoved
    have hids := ids_activateNewHead (atWork s) ((atWork s).setQueue queue)
    have hexec : exec (.contourMove id beforeId) s = .next ((State.activateNewHead (atWork s) ((atWork s).setQueue queue)).settle.respond
        ⟨.ok, .position (positionOf queue id.toNat)⟩) := by
      rw [exec_of_command rfl, State.onJobPort_of_open hopen, runCommand, hrun, positionOf_ids hids]
      rfl
    refine ⟨⟨_, _, hexec, rfl, ?_, rfl⟩, fun hhead => ?_⟩
    · rw [State.respond_queue, State.settle_queue]
      exact hids
    · have hkeep : State.activateNewHead (atWork s) ((atWork s).setQueue queue) = (atWork s).setQueue queue :=
        activateNewHead_of (.inr (canActivate_eq_false hhead))
      rw [hexec, hkeep, State.settle_of_quiet (s := (atWork s).setQueue queue) hquiet]
      rfl

end Sys2Proof.Proofs

/-! PROOFS. FILTER_SKIP takes the matching entries out of the queue one by one (R6, R12, R19, R20, R44). -/

namespace Sys2Proof.Proofs

open Sys2Proof Sys2Proof.Machine

/-- The finished entries of a series of skips, each as it is made (R19). -/
def skippedRecords : List Entry → State → List Finished
  | [], _ => []
  | e :: rest, s => s.finishedEntry e .skipped :: skippedRecords rest (filterRemove s e)

theorem skippedRecords_map (taken : List Entry) : ∀ s : State,
    (skippedRecords taken s).map (fun f => (f.contourId, f.tag, f.outcome, f.holdCount, f.lastHoldCause))
      = taken.map (fun e => (e.contourId, e.tag, .skipped, e.holdCount, e.lastHoldCause)) := by
  induction taken with
  | nil => exact fun _ => rfl
  | cons e rest ih => exact fun s => congrArg (_ :: ·) (ih (filterRemove s e))

/-- An entry without progress leaves with none (R19). -/
theorem skippedRecords_of_unbegun (taken : List Entry) : ∀ (s : State) (k : Nat) (f : Finished) (e : Entry),
    (skippedRecords taken s)[k]? = some f → taken[k]? = some e → e.donePlace = none →
      f.passesCompleted = 0 ∧ f.segmentsDone = 0 := by
  induction taken with
  | nil => intro s k f e hf; simp [skippedRecords] at hf
  | cons x rest ih =>
    intro s k f e hf he hdone
    cases k with
    | zero =>
      cases hf
      cases he
      simp [State.finishedEntry, hdone]
    | succ k => exact ih (filterRemove s x) k f e hf he hdone

/-- An addition to the finished list keeps the newest sixteen (R20). -/
theorem finished_newest {l : List Finished} (h : l.length ≤ 16) (f : Finished) :
    (if 16 ≤ l.length then l.drop 1 else l) ++ [f] = (l ++ [f]).drop ((l ++ [f]).length - 16) := by
  rw [List.length_append, List.length_singleton]
  split_ifs with hfull
  · rw [show l.length + 1 - 16 = 1 by omega, List.drop_append_of_le_length (by omega)]
  · rw [show l.length + 1 - 16 = 0 by omega, List.drop_zero]

/-- Keeping the newest sixteen twice is keeping them once. -/
theorem newest_newest (l r : List Finished) :
    (l.drop (l.length - 16) ++ r).drop ((l.drop (l.length - 16) ++ r).length - 16) = (l ++ r).drop ((l ++ r).length - 16) := by
  rw [← List.drop_append_of_le_length (Nat.sub_le _ _), List.drop_drop, List.length_drop, List.length_append]
  congr 1
  omega

/-- What a series of skips leaves (R6, R12, R19, R20, R44). -/
structure SkippedAll (taken : List Entry) (s t : State) : Prop where
  queue : t.queue = s.queue.filter fun x => taken.all fun e => x.contourId != e.contourId
  freePages : t.freePages = s.freePages ++ taken.flatMap Entry.pages
  finished : t.finished = (s.finished ++ skippedRecords taken s).drop ((s.finished ++ skippedRecords taken s).length - 16)
  engine : t.engine = s.engine.map fun c => if taken.any (fun e => e.contourId == c.contour) then { c with bound := false } else c
  config : t.config = s.config
  materials : t.materials = s.materials
  wear : t.wear = s.wear
  bufA : t.bufA = s.bufA
  bufB : t.bufB = s.bufB
  gathers : Gathers s t
  raised : taken ≠ [] → pendingWhereRouted .contourEnd s t

theorem filterRemove_gathers (e : Entry) (s : State) : Gathers s (filterRemove s e) :=
  (gathers_steady s).removeEntry e (some .skipped) ((gathers_steady s).abandonPlan e.contourId (.refl s))

theorem gathers_activateNewHead {s t : State} (old : State) (h : Gathers s t) : Gathers s (State.activateNewHead old t) :=
  Gathers.cond h ((gathers_steady s).tryActivate h)

theorem skippedAll_foldl (taken : List Entry) : ∀ s : State, s.finished.length ≤ 16 →
    SkippedAll taken s (taken.foldl filterRemove s) := by
  induction taken with
  | nil =>
    intro s hfin
    refine ⟨by simp, by simp, ?_, by simp, rfl, rfl, rfl, rfl, rfl, .refl s, fun h => absurd rfl h⟩
    rw [skippedRecords, List.append_nil, Nat.sub_eq_zero_of_le hfin]
    rfl
  | cons e rest ih =>
    intro s hfin
    have hone : (filterRemove s e).finished
        = (s.finished ++ [s.finishedEntry e .skipped]).drop ((s.finished ++ [s.finishedEntry e .skipped]).length - 16) := by
      rw [← finished_newest hfin, filterRemove, removeEntry_finished, State.abandonPlan_finished]
      exact congrArg (_ ++ [·]) (finishedEntry_congr (State.abandonPlan_store ..) e .skipped)
    have hrest := ih (filterRemove s e) (by rw [hone, List.length_drop]; omega)
    rw [List.foldl_cons]
    refine ⟨?_, ?_, ?_, ?_, hrest.config.trans (by simp [filterRemove]), hrest.materials.trans (by simp [filterRemove]),
      hrest.wear.trans (by simp [filterRemove]), hrest.bufA.trans (by simp [filterRemove]), hrest.bufB.trans (by simp [filterRemove]),
      (filterRemove_gathers e s).trans hrest.gathers, fun _ => ?_⟩
    · rw [hrest.queue, filterRemove, removeEntry_queue, State.abandonPlan_queue, List.filter_filter]
      exact List.filter_congr fun x _ => by rw [List.all_cons, Bool.and_comm]
    · rw [hrest.freePages, filterRemove, removeEntry_freePages, State.abandonPlan_freePages, List.flatMap_cons, List.append_assoc]
    · rw [hrest.finished, hone, newest_newest, skippedRecords, List.append_assoc]
      rfl
    · rw [hrest.engine, filterRemove, removeEntry_engine, State.abandonPlan_engine, List.map_map]
      refine List.map_congr_left fun c _ => ?_
      rw [Function.comp_apply, List.any_cons]
      by_cases hid : c.contour = e.contourId
      · simp [hid]
      · simp [hid, Ne.symm hid]
    · exact pendingWhereRouted_gathers (gathers_pendingWhereRouted (.of_attention (State.abandonPlan_attention ..))
        (removeEntry_pending e .skipped (s.abandonPlan e.contourId))) hrest.gathers

/-- In a queue of distinct contour_ids the entries left are those not taken. -/
theorem filter_taken {list : List Entry} (hnodup : (list.map Entry.contourId).Nodup) (takes : Entry → Bool) :
    (list.filter fun x => (list.filter takes).all fun e => x.contourId != e.contourId) = list.filter fun e => !takes e := by
  refine List.filter_congr fun x hx => ?_
  rw [Bool.eq_iff_iff, List.all_eq_true]
  simp only [List.mem_filter, bne_iff_ne, ne_eq, and_imp, Bool.not_eq_true']
  constructor
  · intro hall
    rw [Bool.eq_false_iff]
    exact fun htakes => hall x hx htakes rfl
  · intro hleft e he htakes hid
    rw [List.inj_on_of_nodup_map hnodup hx he hid, htakes] at hleft
    cases hleft

/-- Settles O30: the series of skips, then what the engine's choice and the next head's activation keep. -/
theorem filterSkipRemovesMatches : Obligations.FilterSkipRemovesMatches := by
  intro base mask s takes hopen hlaw htakes
  have hmatches : filterMatches base mask = takes := by
    funext e
    rw [htakes, filterMatches]
    congr 1
    rw [Bool.eq_iff_iff, decide_eq_true_iff, ← begun_eq_false_iff]
    simp
  have hall := skippedAll_foldl (s.queue.filter takes) (atWork s) hlaw.2.2.2
  generalize hleft : (s.queue.filter takes).foldl filterRemove (atWork s) = left at hall
  have hrun : filterSkipCommand base mask (atWork s)
      = okay (.count (s.queue.countP takes)) (State.activateNewHead (atWork s) left.chooseWork).settle := by
    rw [filterSkipCommand, hmatches, List.countP_eq_length_filter, ← hleft]
    rfl
  refine ⟨((State.activateNewHead (atWork s) left.chooseWork).settle).respond ⟨.ok, .count (s.queue.countP takes)⟩,
    skippedRecords (s.queue.filter takes) (atWork s), ?_, rfl, ?_, ?_, ?_, skippedRecords_map .., skippedRecords_of_unbegun _ _,
    ?_, ?_, ?_, ?_, ?_, fun hne => ?_, ?_⟩
  · rw [exec_of_command rfl, State.onJobPort_of_open hopen, runCommand, hrun]
    rfl
  · rw [State.respond_queue, State.settle_queue, ← filter_taken hlaw.2.1]
    exact (ids_activateNewHead _ _).trans ((ids_chooseWork left).trans (congrArg (List.map Entry.contourId) hall.queue))
  · simpa using hall.freePages
  · simpa using hall.finished
  · simpa using hall.config
  · simpa using hall.materials
  · simpa using hall.wear
  · simpa using hall.bufA
  · simpa using hall.bufB
  · have hraised := hall.raised (by rwa [ne_eq, ← List.length_eq_zero_iff, ← List.countP_eq_length_filter])
    have hlater : Gathers left (State.activateNewHead (atWork s) left.chooseWork).settle :=
      Gathers.settle (gathers_activateNewHead _ ((gathers_steady left).chooseWork (.refl left)))
    exact pendingWhereRouted_gathers hraised (hlater.trans (.of_attention (State.respond_attention ..)))
  · simpa using hall.engine

end Sys2Proof.Proofs

/-! PROOFS. The segment store and cut order: a page reads back as written, the walk of R46 is the concatenation of the pages,
a plan word lands in its slot alone, and R50 and R51 undo each other. -/

namespace Sys2Proof.Proofs

open Sys2Proof Sys2Proof.Machine

/-! ### Reading a page -/

/-- A page that is not listed has no contents. -/
theorem pageAt_unlisted {p : Nat} : ∀ {store : Store}, p ∉ store.map Prod.fst → pageAt store p = []
  | [], _ => rfl
  | (q, page) :: rest, h => by
    simp only [List.map_cons, List.mem_cons, not_or] at h
    rw [pageAt, if_neg (Ne.symm h.1), pageAt_unlisted h.2]

/-- The head page reads as it stands, every other page from the rest. -/
theorem pageAt_cons (q p : Nat) (page : Page) (rest : Store) :
    pageAt ((q, page) :: rest) p = if p = q then page else pageAt rest p := by
  rw [pageAt]
  simp only [eq_comm]

/-- A page that is written reads back as written, every other page as before. -/
theorem pageAt_putPage (p q : Nat) (page : Page) {store : Store} (h : storeWf store = true) :
    pageAt (putPage p page store) q = if q = p then page else pageAt store q := by
  induction store with
  | nil =>
    unfold putPage
    split
    · next he => simp_all [pageAt]
    · rw [pageAt_cons]
  | cons x rest ih =>
    obtain ⟨r, old⟩ := x
    obtain ⟨-, hbelow, hrest⟩ := (storeWf_cons r old rest).1 h
    have hmissing : r ∉ rest.map Prod.fst := fun hr => lt_irrefl r (hbelow r hr)
    unfold putPage
    split
    · next hlt =>
      have hunlisted : pageAt ((r, old) :: rest) p = [] := pageAt_unlisted (by
        simp only [List.map_cons, List.mem_cons, not_or]
        exact ⟨hlt.ne, fun hp => absurd (hbelow p hp) (by omega)⟩)
      split
      · next he =>
        split
        · next hq => rw [hq, hunlisted, List.isEmpty_iff.1 he]
        · rfl
      · exact pageAt_cons p q page _
    · split
      · next heq =>
        subst heq
        split
        · next he =>
          split
          · next hq => rw [hq, pageAt_unlisted hmissing, List.isEmpty_iff.1 he]
          · next hq => rw [pageAt_cons, if_neg hq]
        · by_cases hq : q = p <;> simp only [pageAt_cons, hq, if_true, if_false]
      · next hne =>
        rw [pageAt_cons, pageAt_cons, ih hrest]
        by_cases hq : q = r
        · rw [if_pos hq, if_pos hq, if_neg (by omega)]
        · rw [if_neg hq, if_neg hq]

/-- Settles O20: every step keeps the form, and reading undoes writing. -/
theorem storeFormKept : Obligations.StoreFormKept :=
  ⟨fun _ _ _ hstep => storeForm_kept.exec hstep, fun _ p q page h => pageAt_putPage p q page h⟩

/-! ### The walk over a page list -/

/-- A segment of the first page is found there, one beyond it in the other pages. -/
theorem slotAt_cons (store : Store) (p : Nat) (rest : List Nat) (i : Nat) :
    slotAt store (p :: rest) i =
      if i < (pageAt store p).length then (pageAt store p)[i]? else slotAt store rest (i - (pageAt store p).length) := by
  unfold slotAt
  rw [locate]
  split_ifs <;> rfl

/-- The walk finds what stands at the index in the pages' slots taken one page after another. -/
theorem slotAt_eq (store : Store) (pages : List Nat) (i : Nat) :
    slotAt store pages i = (pages.flatMap (pageAt store))[i]? := by
  induction pages generalizing i with
  | nil => rfl
  | cons p rest ih =>
    rw [slotAt_cons, List.flatMap_cons, List.getElem?_append, ih]

/-- The segment count is the number of slots in use. -/
theorem countOf_eq (store : Store) (pages : List Nat) : countOf store pages = (pages.flatMap (pageAt store)).length := by
  rw [countOf, List.length_flatMap]

/-- The segments are the records of the slots. -/
theorem segmentsOf_eq (store : Store) (pages : List Nat) :
    segmentsOf store pages = (pages.flatMap (pageAt store)).map Slot.record := by
  rw [segmentsOf, List.map_flatMap]

/-- The walk reads the pages of its list alone. -/
theorem slotAt_congr {store store' : Store} {pages : List Nat} (h : ∀ p ∈ pages, pageAt store' p = pageAt store p) (i : Nat) :
    slotAt store' pages i = slotAt store pages i := by
  rw [slotAt_eq, slotAt_eq, List.flatMap_congr h]

/-! ### Writing plan words -/

/-- A slot with its plan word replaced. -/
def worded (slot : Slot) (word : PlanWord) : Slot := { slot with word := some word }

/-- A word of the first page is written there, one beyond it in the other pages. -/
theorem writeWord_cons (store : Store) (p : Nat) (rest : List Nat) (i : Nat) (word : PlanWord) :
    writeWord (p :: rest) store i word =
      match (pageAt store p)[i]? with
      | some slot => putPage p ((pageAt store p).set i (worded slot word)) store
      | none => writeWord rest store (i - (pageAt store p).length) word := by
  unfold writeWord
  rw [locate]
  by_cases hi : i < (pageAt store p).length
  · simp only [if_pos hi, List.getElem?_eq_getElem hi] <;> rfl
  · simp only [if_neg hi, List.getElem?_eq_none (Nat.le_of_not_lt hi)]

/-- Writing a plan word leaves every page outside the page list as it was. -/
theorem pageAt_writeWord {store : Store} (hstore : storeWf store = true) {pages : List Nat} {q : Nat} (hq : q ∉ pages) (i : Nat)
    (word : PlanWord) : pageAt (writeWord pages store i word) q = pageAt store q := by
  induction pages generalizing i with
  | nil => rfl
  | cons p rest ih =>
    simp only [List.mem_cons, not_or] at hq
    rw [writeWord_cons]
    split
    · rw [pageAt_putPage p q _ hstore, if_neg hq.1]
    · exact ih hq.2 _

/-- Writing the plan word of segment `i` changes the slot of segment `i` alone. -/
theorem slotAt_writeWord {store : Store} (hstore : storeWf store = true) {pages : List Nat} (hpages : pages.Nodup) (i j : Nat)
    (word : PlanWord) :
    slotAt (writeWord pages store i word) pages j
      = (slotAt store pages j).map fun slot => if i = j then worded slot word else slot := by
  induction pages generalizing i j with
  | nil => rfl
  | cons p rest ih =>
    obtain ⟨hp, hrest⟩ := List.nodup_cons.1 hpages
    rw [writeWord_cons]
    split
    · next slot hslot =>
      obtain ⟨hi, hslot⟩ := List.getElem?_eq_some_iff.1 hslot
      have hothers : ∀ q ∈ rest, pageAt (putPage p ((pageAt store p).set i (worded slot word)) store) q = pageAt store q :=
        fun q hq => by rw [pageAt_putPage p q _ hstore, if_neg (ne_of_mem_of_not_mem hq hp)]
      rw [slotAt_cons, slotAt_cons, slotAt_congr hothers, pageAt_putPage p p _ hstore, if_pos rfl, List.length_set]
      split
      · next hj =>
        rw [List.getElem?_set]
        split
        · next heq =>
          subst heq
          rw [List.getElem?_eq_getElem hi, hslot]
          rfl
        · simp
      · next hj =>
        have hne : i ≠ j := by omega
        simp [hne]
    · next hbeyond =>
      have hbeyond := List.getElem?_eq_none_iff.1 hbeyond
      rw [slotAt_cons, slotAt_cons, pageAt_writeWord hstore hp]
      split
      · next hj =>
        have hne : i ≠ j := by omega
        simp [hne]
      · next hj =>
        rw [ih hrest]
        refine congrArg (fun f => Option.map f _) (funext fun slot => ?_)
        by_cases heq : i = j
        · rw [if_pos heq, if_pos (by rw [heq])]
        · rw [if_neg heq, if_neg (by omega)]

/-- Writing a job's plan words leaves every page outside the page list as it was. -/
theorem pageAt_writeWords {pages : List Nat} {q : Nat} (hq : q ∉ pages) (words : List (Nat × PlanWord)) {store : Store}
    (hstore : storeWf store = true) : pageAt (writeWords pages store words) q = pageAt store q := by
  induction words generalizing store with
  | nil => rfl
  | cons w rest ih => exact (ih (writeWord_wf pages w.1 w.2 hstore)).trans (pageAt_writeWord hstore hq w.1 w.2)

/-- The slot of segment `j` after a job's words: the word written for `j`, or the one it had. -/
def wordedBy (words : List (Nat × PlanWord)) (j : Nat) (slot : Slot) : Slot :=
  match words.find? (fun w => w.1 == j) with
  | some w => { slot with word := some w.2 }
  | none => slot

/-- Writing a job's plan words changes the slots of the named segments alone. -/
theorem slotAt_writeWords {pages : List Nat} (hpages : pages.Nodup) {words : List (Nat × PlanWord)}
    (hwords : (words.map Prod.fst).Nodup) {store : Store} (hstore : storeWf store = true) (j : Nat) :
    slotAt (writeWords pages store words) pages j = (slotAt store pages j).map (wordedBy words j) := by
  induction words generalizing store with
  | nil => exact Option.map_id'.symm ▸ rfl
  | cons w rest ih =>
    rw [List.map_cons, List.nodup_cons] at hwords
    refine (ih hwords.2 (writeWord_wf pages w.1 w.2 hstore)).trans ?_
    rw [slotAt_writeWord hstore hpages, Option.map_map]
    refine congrArg (fun f => Option.map f _) (funext fun slot => ?_)
    rw [Function.comp]
    by_cases heq : w.1 = j
    · have hnone : rest.find? (fun w => w.1 == j) = none := by
        rw [List.find?_eq_none]
        intro x hx hxj
        exact hwords.1 (heq ▸ (by simpa using hxj : x.1 = j) ▸ List.mem_map_of_mem hx)
      simp only [wordedBy, hnone, if_pos heq, List.find?_cons, beq_iff_eq.2 heq] <;> rfl
    · simp only [wordedBy, if_neg heq, List.find?_cons, beq_eq_false_iff_ne.2 heq]

/-- Settles O21: the walk is the concatenation of the pages, and each word is written where the walk finds its segment. -/
theorem walkFindsAndWritesWords : Obligations.WalkFindsAndWritesWords := by
  refine ⟨fun store pages i => ⟨slotAt_eq store pages i, ?_, ?_⟩,
    fun store pages words hstore hpages hwords => ⟨fun j => slotAt_writeWords hpages hwords hstore j,
      fun p hp => pageAt_writeWords hp words hstore⟩⟩
  · rw [slotAt_eq, countOf_eq, Option.isSome_iff_ne_none, ne_eq, List.getElem?_eq_none_iff, not_le]
  · rw [slotAt_eq, segmentsOf_eq, List.getElem?_map]

/-! ### Cut order -/

/-- Settles O22: a step of R50 goes to the next index in the same pass, or from the body's last segment to its first in the
next pass; R51 takes each of the two back. -/
theorem predecessorUndoesSuccessor : Obligations.PredecessorUndoesSuccessor := by
  intro segs passes place next hindex hpass hleadIn hnext
  unfold successor at hnext
  split at hnext
  · next hwrap =>
    obtain rfl := Cursor.seg.inj hnext
    unfold predecessor
    rw [if_pos ⟨rfl, by dsimp only; omega⟩]
    simp [← hwrap.2.1]
  · split at hnext
    · obtain rfl := Cursor.seg.inj hnext
      unfold predecessor
      rw [if_neg (fun h => absurd (hleadIn (by have := h.1; dsimp only at this; omega)) (by have := h.2; dsimp only at this; omega)),
        if_pos (Nat.succ_pos _)]
      rfl
    · cases hnext

end Sys2Proof.Proofs

/-! PROOFS. The structure checks of R5: a contour whose roles are in order is lead-ins, body and lead-outs, and the checks answer
in the order of their table. -/

namespace Sys2Proof.Proofs

open Sys2Proof Sys2Proof.Machine

/-! ### Tables whose checks are numbered -/

/-- A table over the indices of a list answers at the first index found. -/
theorem firstFailure_find {ι α : Type} (answer : ι → α) {fails : ι → Prop} {p : ι → Bool} (l : List ι)
    (h : ∀ i ∈ l, p i = true ↔ fails i) : firstFailure (l.map fun i => (answer i, fails i)) ((l.find? p).map answer) := by
  induction l with
  | nil => exact firstFailure_nil
  | cons i l ih =>
    rw [List.map_cons, List.find?_cons]
    cases hi : p i with
    | true => exact firstFailure_cons_fails ((h i List.mem_cons_self).1 hi)
    | false =>
      exact firstFailure_cons_passes (fun hf => by rw [(h i List.mem_cons_self).2 hf] at hi; cases hi)
        (ih fun j hj => h j (List.mem_cons_of_mem _ hj))

/-- A table that answers decides before the one behind it. -/
theorem firstFailure_within {α : Type} {l r : List (α × Prop)} {a : α} (h : firstFailure l (some a)) :
    firstFailure (l ++ r) (some a) := firstFailure_append (b := none) h fun hnone => nomatch hnone

/-- Behind a table that answers none stands the next. -/
theorem firstFailure_behind {α : Type} {l r : List (α × Prop)} {b : Option α} (hl : firstFailure l none)
    (hr : firstFailure r b) : firstFailure (l ++ r) b := firstFailure_append hl fun _ => hr

/-- The segment at which the role of the predecessor, `rank` before the first, is undercut. -/
def undercuts (rank : Nat) (segs : List SegRecord) : Nat → Prop
  | 0 => ∃ r, segs[0]? = some r ∧ roleRank (segRole r) < rank
  | i + 1 => ∃ p r, segs[i]? = some p ∧ segs[i + 1]? = some r ∧ roleRank (segRole r) < roleRank (segRole p)

/-- The role order is checked segment by segment. -/
theorem firstFailure_roleBreak {α : Type} (answer : Nat → α) (rank k : Nat) (segs : List SegRecord) :
    firstFailure ((List.range segs.length).map fun i => (answer (i + k), undercuts rank segs i))
      ((roleBreak rank k segs).map answer) := by
  induction segs generalizing rank k with
  | nil => exact firstFailure_nil
  | cons r rest ih =>
    rw [List.length_cons, List.range_succ_eq_map, List.map_cons, roleBreak, List.map_map]
    split
    · next hlt =>
      rw [← Nat.zero_add k, Option.map_some, Nat.zero_add, Nat.zero_add]
      exact firstFailure_cons_fails (c := (answer k, undercuts rank (r :: rest) 0)) ⟨r, rfl, hlt⟩
    · next hnot =>
      refine firstFailure_cons_passes (fun ⟨q, hq, hlt⟩ => hnot ((Option.some.inj hq) ▸ hlt)) ?_
      convert ih (roleRank (segRole r)) (k + 1) using 2
      refine funext fun i => ?_
      rw [Function.comp, Nat.succ_add_eq_add_succ, Prod.mk.injEq]
      refine ⟨rfl, propext ?_⟩
      cases i with
      | zero => exact ⟨fun ⟨p, q, hp, hq, hlt⟩ => ⟨q, hq, Option.some.inj hp ▸ hlt⟩, fun ⟨q, hq, hlt⟩ => ⟨r, q, rfl, hq, hlt⟩⟩
      | succ i => exact Iff.rfl

/-! ### Roles in order -/

/-- The segments split into lead-ins, body segments and lead-outs. -/
structure Parts (segs leadIns body leadOuts : List SegRecord) : Prop where
  whole : segs = leadIns ++ body ++ leadOuts
  leadIn : ∀ r ∈ leadIns, segRole r = .leadIn
  body : ∀ r ∈ body, segRole r = .body
  leadOut : ∀ r ∈ leadOuts, segRole r = .leadOut

theorem roleBreak_two {k : Nat} {segs : List SegRecord} :
    roleBreak 2 k segs = none ↔ ∀ r ∈ segs, segRole r = .leadOut := by
  induction segs generalizing k with
  | nil => simp [roleBreak]
  | cons r rest ih =>
    rw [roleBreak, List.forall_mem_cons, ← ih (k := k + 1)]
    cases hr : segRole r <;> simp [roleRank]

theorem roleBreak_one {k : Nat} {segs : List SegRecord} :
    roleBreak 1 k segs = none ↔ ∃ body leadOuts, Parts segs [] body leadOuts := by
  induction segs generalizing k with
  | nil => exact ⟨fun _ => ⟨[], [], rfl, by simp, by simp, by simp⟩, fun _ => rfl⟩
  | cons r rest ih =>
    rw [roleBreak]
    cases hr : segRole r with
    | leadIn =>
      refine ⟨fun h => by simp [roleRank] at h, fun ⟨body, leadOuts, hparts⟩ => ?_⟩
      have hmem : r ∈ body ++ leadOuts := by
        have := hparts.whole
        rw [List.nil_append] at this
        exact this ▸ List.mem_cons_self
      rcases List.mem_append.1 hmem with hb | hl
      · rw [hparts.body r hb] at hr; cases hr
      · rw [hparts.leadOut r hl] at hr; cases hr
    | body =>
      simp only [roleRank, lt_irrefl, if_false]
      rw [ih]
      constructor
      · rintro ⟨body, leadOuts, hparts⟩
        exact ⟨r :: body, leadOuts, by rw [hparts.whole]; rfl, by simp, by simpa [hr] using hparts.body, hparts.leadOut⟩
      · rintro ⟨body, leadOuts, hwhole, -, hbody, hout⟩
        cases body with
        | nil => rw [hout r (by rw [List.nil_append, List.nil_append] at hwhole; exact hwhole ▸ List.mem_cons_self)] at hr; cases hr
        | cons b body =>
          exact ⟨body, leadOuts, (List.cons.inj hwhole).2, by simp, fun q hq => hbody q (List.mem_cons_of_mem _ hq), hout⟩
    | leadOut =>
      have hnot : ¬ roleRank .leadOut < 1 := by decide
      rw [if_neg hnot]
      refine roleBreak_two.trans ⟨fun h => ⟨[], r :: rest, rfl, by simp, by simp, by simpa [hr] using h⟩, ?_⟩
      rintro ⟨body, leadOuts, hwhole, -, hbody, hout⟩
      cases body with
      | nil =>
        rw [List.nil_append, List.nil_append] at hwhole
        exact fun q hq => hout q (hwhole ▸ List.mem_cons_of_mem _ hq)
      | cons b body => rw [(List.cons.inj hwhole).1, hbody b List.mem_cons_self] at hr; cases hr

/-- No segment breaks the order exactly where the contour is lead-ins, then body, then lead-outs. -/
theorem roleBreak_zero {k : Nat} {segs : List SegRecord} :
    roleBreak 0 k segs = none ↔ ∃ leadIns body leadOuts, Parts segs leadIns body leadOuts := by
  induction segs generalizing k with
  | nil => exact ⟨fun _ => ⟨[], [], [], rfl, by simp, by simp, by simp⟩, fun _ => rfl⟩
  | cons r rest ih =>
    rw [roleBreak, if_neg (Nat.not_lt_zero _)]
    by_cases hr : segRole r = .leadIn
    · rw [hr]
      refine ih.trans ⟨fun ⟨leadIns, body, leadOuts, h⟩ => ⟨r :: leadIns, body, leadOuts, by rw [h.whole]; rfl,
        by simpa [hr] using h.leadIn, h.body, h.leadOut⟩, ?_⟩
      rintro ⟨leadIns, body, leadOuts, hwhole, hin, hbody, hout⟩
      cases leadIns with
      | cons l leadIns =>
        exact ⟨leadIns, body, leadOuts, (List.cons.inj hwhole).2, fun q hq => hin q (List.mem_cons_of_mem _ hq), hbody, hout⟩
      | nil =>
        rcases List.mem_append.1 (show r ∈ body ++ leadOuts from hwhole ▸ List.mem_cons_self) with hb | hl
        · rw [hbody r hb] at hr; cases hr
        · rw [hout r hl] at hr; cases hr
    · have hone : roleBreak (roleRank (segRole r)) (k + 1) rest = roleBreak 1 k (r :: rest) := by
        rw [roleBreak, if_neg]
        cases h : segRole r with
        | leadIn => exact absurd h hr
        | body => decide
        | leadOut => decide
      rw [hone, roleBreak_one]
      refine ⟨fun ⟨body, leadOuts, h⟩ => ⟨[], body, leadOuts, h⟩, ?_⟩
      rintro ⟨leadIns, body, leadOuts, hwhole, hin, hbody, hout⟩
      cases leadIns with
      | nil => exact ⟨body, leadOuts, hwhole, hin, hbody, hout⟩
      | cons l leadIns => exact absurd ((List.cons.inj hwhole).1 ▸ hin l List.mem_cons_self) hr

section
variable {segs leadIns body leadOuts : List SegRecord} (h : Parts segs leadIns body leadOuts)
include h

theorem Parts.length : segs.length = leadIns.length + body.length + leadOuts.length := by
  rw [h.whole, List.length_append, List.length_append]

theorem Parts.bodyCount : bodyCount segs = body.length := by
  have hin : leadIns.countP (fun r => segRole r == .body) = 0 :=
    List.countP_eq_zero.2 fun r hr => by rw [h.leadIn r hr]; decide
  have hout : leadOuts.countP (fun r => segRole r == .body) = 0 :=
    List.countP_eq_zero.2 fun r hr => by rw [h.leadOut r hr]; decide
  rw [Machine.bodyCount, h.whole, List.countP_append, List.countP_append, hin, hout,
    List.countP_eq_length.2 fun r hr => by rw [h.body r hr]; decide]
  omega

theorem Parts.firstBody (hbody : body ≠ []) : firstBody segs = leadIns.length := by
  obtain ⟨b, bs, rfl⟩ := List.exists_cons_of_ne_nil hbody
  have hin : ¬ leadIns.findIdx (fun r => segRole r == .body) < leadIns.length := by
    rw [List.findIdx_lt_length]
    rintro ⟨r, hr, hrole⟩
    rw [h.leadIn r hr] at hrole
    cases hrole
  rw [Machine.firstBody, h.whole, List.append_assoc, List.findIdx_append, if_neg hin, List.cons_append, List.findIdx_cons,
    h.body b List.mem_cons_self]
  exact Nat.zero_add _

/-- A segment of the body stands between its bounds, and only such a one. -/
theorem Parts.role_body_iff {i : Nat} {r : SegRecord} (hr : segs[i]? = some r) :
    segRole r = .body ↔ leadIns.length ≤ i ∧ i < leadIns.length + body.length := by
  have hlength := h.length
  rw [h.whole, List.append_assoc, List.getElem?_append] at hr
  split at hr
  · next hi => simp [h.leadIn r (List.mem_of_getElem? hr), Nat.not_le.2 hi]
  · next hi =>
    rw [List.getElem?_append] at hr
    split at hr
    · next hb => simp [h.body r (List.mem_of_getElem? hr)]; omega
    · next hb => simp [h.leadOut r (List.mem_of_getElem? hr)]; omega

/-- The body's segments by their index in the contour. -/
theorem Parts.getElem?_body {k : Nat} (hk : k < body.length) : segs[leadIns.length + k]? = body[k]? := by
  rw [h.whole, List.append_assoc, List.getElem?_append_right (by omega), Nat.add_sub_cancel_left,
    List.getElem?_append_left hk]

theorem Parts.lastBody (hbody : body ≠ []) : lastBody segs = leadIns.length + body.length - 1 := by
  rw [Machine.lastBody, h.firstBody hbody, h.bodyCount]

/-- The indices of the body. -/
theorem Parts.body_at_iff (i : Nat) : (∃ r, segs[i]? = some r ∧ segRole r = .body) ↔
    leadIns.length ≤ i ∧ i < leadIns.length + body.length := by
  refine ⟨fun ⟨r, hr, hrole⟩ => (h.role_body_iff hr).1 hrole, fun hi => ?_⟩
  have hlt : i < segs.length := by rw [h.length]; omega
  exact ⟨segs[i], List.getElem?_eq_getElem hlt, (h.role_body_iff (List.getElem?_eq_getElem hlt)).2 hi⟩

end

/-! ### Bridges -/

/-- What check 3 of R5 forbids of the segment at an index. -/
theorem bridgeMisplaced_iff (segs : List SegRecord) (i : Nat) :
    bridgeMisplaced segs i = true ↔ ∃ r, segs[i]? = some r ∧ isBridge r = true
      ∧ (segRole r ≠ .body ∨ i = firstBody segs ∨ i = lastBody segs ∨ i = 0 ∨ i + 1 = segs.length
        ∨ ∃ q, (segs[i + 1]? = some q ∨ 1 ≤ i ∧ segs[i - 1]? = some q) ∧ isBridge q = true) := by
  have hbeside : (∃ q, (segs[i + 1]? = some q ∨ 1 ≤ i ∧ segs[i - 1]? = some q) ∧ isBridge q = true)
      ↔ ((segs[i - 1]?).any isBridge = true ∧ i ≠ 0) ∨ (segs[i + 1]?).any isBridge = true := by
    rw [Option.any_eq_true, Option.any_eq_true, ← Nat.one_le_iff_ne_zero]
    constructor
    · rintro ⟨q, hq | ⟨hi, hq⟩, hb⟩
      · exact .inr ⟨q, hq, hb⟩
      · exact .inl ⟨⟨q, hq, hb⟩, hi⟩
    · rintro (⟨⟨q, hq, hb⟩, hi⟩ | ⟨q, hq, hb⟩)
      · exact ⟨q, .inr ⟨hi, hq⟩, hb⟩
      · exact ⟨q, .inl hq, hb⟩
  rw [hbeside]
  unfold bridgeMisplaced
  cases hr : segs[i]? with
  | none => simp
  | some r => simp [or_assoc]

/-- No bridge is misplaced exactly where every bridge stands inside the body, with no bridge beside it. -/
theorem Parts.bridges_iff {segs leadIns body leadOuts : List SegRecord} (h : Parts segs leadIns body leadOuts)
    (hbody : body ≠ []) : (∀ i, i < segs.length → ¬ bridgeMisplaced segs i = true) ↔
      (∀ r ∈ leadIns ++ leadOuts, isBridge r = false)
        ∧ (∀ r, body.head? = some r ∨ body.getLast? = some r → isBridge r = false)
        ∧ ∀ i r q, body[i]? = some r → body[i + 1]? = some q → ¬ (isBridge r = true ∧ isBridge q = true) := by
  have hlength := h.length
  have hpos := List.length_pos_iff.2 hbody
  simp only [bridgeMisplaced_iff, h.firstBody hbody, h.lastBody hbody]
  constructor
  · intro hall
    have hplain : ∀ i r, segs[i]? = some r → segRole r ≠ .body ∨ i = leadIns.length ∨ i = leadIns.length + body.length - 1
        ∨ (∃ q, segs[i + 1]? = some q ∧ isBridge q = true) → isBridge r = false := by
      intro i r hr hwhy
      refine Bool.eq_false_iff.2 fun hb => hall i (List.getElem?_eq_some_iff.1 hr).1 ⟨r, hr, hb, ?_⟩
      rcases hwhy with hrole | hfirst | hlast | ⟨q, hq, hbq⟩
      · exact .inl hrole
      · exact .inr (.inl hfirst)
      · exact .inr (.inr (.inl hlast))
      · exact .inr (.inr (.inr (.inr (.inr ⟨q, .inl hq, hbq⟩))))
    refine ⟨fun r hr => ?_, fun r hr => ?_, fun i r q hr hq hbridges => ?_⟩
    · have hmem : r ∈ segs := by rw [h.whole]; simp only [List.mem_append] at hr ⊢; tauto
      obtain ⟨i, hi⟩ := List.mem_iff_getElem?.1 hmem
      refine hplain i r hi (.inl ?_)
      rcases List.mem_append.1 hr with hr | hr
      · rw [h.leadIn r hr]; decide
      · rw [h.leadOut r hr]; decide
    · rcases hr with hr | hr
      · rw [List.head?_eq_getElem?, ← h.getElem?_body hpos] at hr
        exact hplain _ r hr (.inr (.inl rfl))
      · rw [List.getLast?_eq_getElem?, ← h.getElem?_body (by omega)] at hr
        exact hplain _ r hr (.inr (.inr (.inl (by omega))))
    · have hi := (List.getElem?_eq_some_iff.1 hr).1
      have hi' := (List.getElem?_eq_some_iff.1 hq).1
      rw [← h.getElem?_body hi] at hr
      rw [← h.getElem?_body hi', ← Nat.add_assoc] at hq
      exact absurd (hplain _ r hr (.inr (.inr (.inr ⟨q, hq, hbridges.2⟩)))) (by rw [hbridges.1]; decide)
  · rintro ⟨hleads, hends, hpairs⟩ i hi ⟨r, hr, hb, hwhy⟩
    have hin : leadIns.length ≤ i ∧ i < leadIns.length + body.length := by
      refine (h.role_body_iff hr).1 ?_
      have hmem := List.mem_of_getElem? hr
      rw [h.whole, List.append_assoc, List.mem_append, List.mem_append] at hmem
      rcases hmem with hm | hm | hm
      · rw [hleads r (List.mem_append_left _ hm)] at hb; cases hb
      · exact h.body r hm
      · rw [hleads r (List.mem_append_right _ hm)] at hb; cases hb
    obtain ⟨k, rfl⟩ := Nat.exists_eq_add_of_le hin.1
    have hk : k < body.length := by omega
    have hrk := hr
    rw [h.getElem?_body hk] at hrk
    have hfirst : k ≠ 0 := fun h0 => by
      rw [hends r (.inl (by rw [List.head?_eq_getElem?, ← h0, hrk]))] at hb; cases hb
    have hlast : k + 1 ≠ body.length := fun h1 => by
      rw [hends r (.inr (by rw [List.getLast?_eq_getElem?, ← h1, Nat.add_sub_cancel, hrk]))] at hb; cases hb
    rcases hwhy with hrole | hwhy | hwhy | hwhy | hwhy | ⟨q, hq | ⟨-, hq⟩, hbq⟩
    · exact hrole ((h.role_body_iff hr).2 hin)
    · omega
    · omega
    · omega
    · omega
    · rw [Nat.add_assoc, h.getElem?_body (by omega)] at hq
      exact hpairs k r q hrk hq ⟨hb, hbq⟩
    · rw [Nat.add_sub_assoc (by omega), h.getElem?_body (by omega)] at hq
      exact hpairs (k - 1) q r hq (by rw [Nat.sub_add_cancel (by omega), hrk]) ⟨hbq, hb⟩

/-! ### The table of R5 -/

/-- The checks of R5, each against the function that carries it out. -/
theorem firstFailure_structureFault (closed : Bool) (passes : Nat) (segs : List SegRecord) {breaks misplaced : Nat → Prop}
    {noBody noLeads : Prop}
    (hbreaks : ∀ i, undercuts 0 segs i ↔ breaks i) (hnoBody : bodyCount segs = 0 ↔ noBody)
    (hmisplaced : roleBreak 0 0 segs = none → bodyCount segs ≠ 0 → ∀ i, bridgeMisplaced segs i = true ↔ misplaced i)
    (hnoLeads : (segs.all (fun r => segRole r != .leadIn) = true ∨ segs.all (fun r => segRole r != .leadOut) = true) ↔ noLeads) :
    firstFailure ([((.noSegments, none), segs = [])]
        ++ (List.range segs.length).map (fun i => ((.roleOrder, some i), breaks i))
        ++ [((.roleOrder, none), noBody)]
        ++ (List.range segs.length).map (fun i => ((.bridgePlacement, some i), misplaced i))
        ++ [((.multipassOpen, none), 1 < passes ∧ closed = false), ((.multipassLeads, none), 1 < passes ∧ noLeads)])
      (structureFault closed passes segs) := by
  obtain rfl : undercuts 0 segs = breaks := funext fun i => propext (hbreaks i)
  obtain rfl := propext hnoBody
  obtain rfl := propext hnoLeads
  have horder := firstFailure_roleBreak (fun i => (ContourReason.roleOrder, some i)) 0 0 segs
  have hlast : firstFailure [((ContourReason.multipassOpen, (none : Option Nat)), 1 < passes ∧ closed = false),
      ((.multipassLeads, none), 1 < passes ∧ (segs.all (fun r => segRole r != .leadIn) = true
        ∨ segs.all (fun r => segRole r != .leadOut) = true))]
      (if 1 < passes ∧ closed = false then some (.multipassOpen, none)
      else if 1 < passes ∧ (segs.all (fun r => segRole r != .leadIn) ∨ segs.all (fun r => segRole r != .leadOut)) then
        some (.multipassLeads, none)
      else none) := firstFailure_cons (firstFailure_cons firstFailure_nil)
  rw [structureFault]
  simp only [List.append_assoc, List.cons_append, List.nil_append]
  by_cases hempty : segs = []
  · rw [if_pos (List.isEmpty_iff.2 hempty)]
    exact firstFailure_cons_fails hempty
  rw [if_neg (by rwa [List.isEmpty_iff])]
  refine firstFailure_cons_passes hempty ?_
  cases hbreak : roleBreak 0 0 segs with
  | some i =>
    rw [hbreak] at horder
    exact firstFailure_within horder
  | none =>
    rw [hbreak] at horder
    rw [if_neg (c := (none : Option Nat).isSome = true) Bool.false_ne_true]
    refine firstFailure_behind horder ?_
    by_cases hcount : bodyCount segs = 0
    · rw [if_pos hcount]
      exact firstFailure_cons_fails hcount
    rw [if_neg hcount]
    refine firstFailure_cons_passes hcount ?_
    have hbridges := firstFailure_find (fun i => (ContourReason.bridgePlacement, some i)) (List.range segs.length)
      fun i _ => hmisplaced hbreak hcount i
    cases hfind : (List.range segs.length).find? (bridgeMisplaced segs) with
    | some i =>
      rw [hfind] at hbridges
      exact firstFailure_within hbridges
    | none =>
      rw [hfind] at hbridges
      exact firstFailure_behind hbridges hlast

/-- The order of R5's roles. -/
theorem roleRank_eq {order : Role → Nat} (hin : order .leadIn = 0) (hbody : order .body = 1) (hout : order .leadOut = 2) :
    order = roleRank := by
  funext role
  cases role with
  | leadIn => exact hin
  | body => exact hbody
  | leadOut => exact hout

/-- A role is undercut exactly where it stands before its predecessor's. -/
theorem undercuts_zero_iff (segs : List SegRecord) (i : Nat) : undercuts 0 segs i ↔
    ∃ p r, 1 ≤ i ∧ segs[i - 1]? = some p ∧ segs[i]? = some r ∧ roleRank (segRole r) < roleRank (segRole p) := by
  cases i with
  | zero => exact ⟨fun ⟨_, _, h⟩ => absurd h (Nat.not_lt_zero _), fun ⟨_, _, h, _⟩ => absurd h (by decide)⟩
  | succ i =>
    exact ⟨fun ⟨p, r, hp, hr, h⟩ => ⟨p, r, Nat.succ_pos i, hp, hr, h⟩, fun ⟨p, r, _, hp, hr, h⟩ => ⟨p, r, hp, hr, h⟩⟩

/-- There are no body segments where the count of them is 0. -/
theorem bodyCount_eq_zero (segs : List SegRecord) :
    bodyCount segs = 0 ↔ ∀ i : Nat, ¬ ∃ r, segs[i]? = some r ∧ segRole r = .body := by
  rw [bodyCount, List.countP_eq_zero]
  constructor
  · rintro h i ⟨r, hr, hrole⟩
    exact h r (List.mem_of_getElem? hr) (by rw [hrole]; rfl)
  · intro h r hr hrole
    obtain ⟨i, hi⟩ := List.mem_iff_getElem?.1 hr
    exact h i ⟨r, hi, by simpa using hrole⟩

/-- A role is that of no segment. -/
theorem all_role_ne (segs : List SegRecord) (role : Role) :
    segs.all (fun r => segRole r != role) = true ↔ ∀ r ∈ segs, segRole r ≠ role := by
  simp only [List.all_eq_true, bne_iff_ne]

/-- The parts of a contour whose roles are in order and that has a body. -/
theorem parts_of_order {segs : List SegRecord} (horder : roleBreak 0 0 segs = none) (hcount : bodyCount segs ≠ 0) :
    ∃ leadIns body leadOuts, Parts segs leadIns body leadOuts ∧ body ≠ [] := by
  obtain ⟨leadIns, body, leadOuts, h⟩ := roleBreak_zero.1 horder
  exact ⟨leadIns, body, leadOuts, h, fun hnil => hcount (by rw [h.bodyCount, hnil]; rfl)⟩

/-- In a contour with a body whose roles are in order, the body's first and last segments are those with no body segment
before and behind them. -/
theorem misplaced_iff {segs : List SegRecord} (horder : roleBreak 0 0 segs = none) (hcount : bodyCount segs ≠ 0) (i : Nat) :
    bridgeMisplaced segs i = true ↔ ∃ r, segs[i]? = some r ∧ isBridge r = true
      ∧ (segRole r ≠ .body ∨ (∀ j, j < i → ¬ ∃ r, segs[j]? = some r ∧ segRole r = .body)
        ∨ (∀ j, i < j → ¬ ∃ r, segs[j]? = some r ∧ segRole r = .body) ∨ i = 0 ∨ i + 1 = segs.length
        ∨ ∃ q, (segs[i + 1]? = some q ∨ 1 ≤ i ∧ segs[i - 1]? = some q) ∧ isBridge q = true) := by
  obtain ⟨leadIns, body, leadOuts, h, hbody⟩ := parts_of_order horder hcount
  have hpos := List.length_pos_iff.2 hbody
  rw [bridgeMisplaced_iff, h.firstBody hbody, h.lastBody hbody]
  simp only [h.body_at_iff]
  refine exists_congr fun r => and_congr_right fun hr => and_congr_right fun _ => ?_
  have hrole := h.role_body_iff hr
  by_cases hin : segRole r = .body
  · have hrange := hrole.1 hin
    refine or_congr_right (or_congr ⟨fun heq j hj => by omega, fun hall => ?_⟩ (or_congr_left ⟨fun heq j hj => by omega, fun hall => ?_⟩))
    · have := hall (i - 1)
      omega
    · have := hall (i + 1)
      omega
  · simp [hin]

/-- The contours that pass, in the words of R5. -/
theorem structureFault_eq_none (closed : Bool) (passes : Nat) (segs : List SegRecord) :
    structureFault closed passes segs = none ↔ roleBreak 0 0 segs = none ∧ bodyCount segs ≠ 0
      ∧ (∀ i, i < segs.length → ¬ bridgeMisplaced segs i = true) ∧ (1 < passes → closed = true
        ∧ ¬ (∀ r ∈ segs, segRole r ≠ .leadIn) ∧ ¬ ∀ r ∈ segs, segRole r ≠ .leadOut) := by
  rw [← all_role_ne, ← all_role_ne]
  unfold structureFault
  cases segs with
  | nil => exact iff_of_false (fun h => (nomatch h)) fun h => absurd rfl h.2.1
  | cons r rest =>
    rw [if_neg (by simp)]
    cases hbreak : roleBreak 0 0 (r :: rest) with
    | some i => exact iff_of_false (fun h => (nomatch h)) fun h => (nomatch h.1)
    | none =>
      rw [if_neg (c := (none : Option Nat).isSome = true) Bool.false_ne_true]
      by_cases hcount : bodyCount (r :: rest) = 0
      · rw [if_pos hcount]
        exact iff_of_false (fun h => (nomatch h)) fun h => absurd hcount h.2.1
      rw [if_neg hcount]
      cases hfind : (List.range (r :: rest).length).find? (bridgeMisplaced (r :: rest)) with
      | some i =>
        exact iff_of_false (fun h => (nomatch h)) fun h =>
          h.2.2.1 i (List.mem_range.1 (List.mem_of_find?_eq_some hfind)) (List.find?_some hfind)
      | none =>
        have hplaced : ∀ i, i < (r :: rest).length → ¬ bridgeMisplaced (r :: rest) i = true :=
          fun i hi => List.find?_eq_none.1 hfind i (List.mem_range.2 hi)
        dsimp only
        split_ifs with hopen hleads
        · refine iff_of_false (fun h => (nomatch h)) fun ⟨_, _, _, hpasses⟩ => ?_
          exact absurd ((hpasses hopen.1).1.symm.trans hopen.2) (by decide)
        · refine iff_of_false (fun h => (nomatch h)) fun ⟨_, _, _, hpasses⟩ => ?_
          exact hleads.2.elim (hpasses hleads.1).2.1 (hpasses hleads.1).2.2
        · have hclosed : 1 < passes → closed = true := fun hp => Bool.of_not_eq_false fun hc => hopen ⟨hp, hc⟩
          exact iff_of_true rfl ⟨rfl, hcount, hplaced, fun hp => ⟨hclosed hp, fun h => hleads ⟨hp, .inl h⟩,
            fun h => hleads ⟨hp, .inr h⟩⟩⟩

section
variable {segs leadIns body leadOuts : List SegRecord} (h : Parts segs leadIns body leadOuts)
include h

/-- The lead-ins are the segments of that role. -/
theorem Parts.leadIns_eq_nil : (∀ r ∈ segs, segRole r ≠ .leadIn) ↔ leadIns = [] := by
  refine ⟨fun hall => List.eq_nil_iff_forall_not_mem.2 fun r hr => hall r ?_ (h.leadIn r hr), ?_⟩
  · rw [h.whole]
    exact List.mem_append_left _ (List.mem_append_left _ hr)
  · rintro rfl r hr
    rw [h.whole, List.nil_append, List.mem_append] at hr
    rcases hr with hr | hr
    · rw [h.body r hr]; decide
    · rw [h.leadOut r hr]; decide

/-- The lead-outs are the segments of that role. -/
theorem Parts.leadOuts_eq_nil : (∀ r ∈ segs, segRole r ≠ .leadOut) ↔ leadOuts = [] := by
  refine ⟨fun hall => List.eq_nil_iff_forall_not_mem.2 fun r hr => hall r ?_ (h.leadOut r hr), ?_⟩
  · rw [h.whole]
    exact List.mem_append_right _ hr
  · rintro rfl r hr
    rw [h.whole, List.append_nil, List.mem_append] at hr
    rcases hr with hr | hr
    · rw [h.leadIn r hr]; decide
    · rw [h.body r hr]; decide

end

/-- Settles O27: the shape that passes, the table, and its reason codes. -/
theorem structureChecksMean : Obligations.StructureChecksMean := by
  refine ⟨fun closed passes segs => ?_, ?_, rfl⟩
  · rw [structureFault_eq_none]
    constructor
    · rintro ⟨horder, hcount, hbridges, hpasses⟩
      obtain ⟨leadIns, body, leadOuts, h, hbody⟩ := parts_of_order horder hcount
      obtain ⟨hleads, hends, hpairs⟩ := (h.bridges_iff hbody).1 hbridges
      refine ⟨leadIns, body, leadOuts, h.whole, hbody, h.leadIn, h.body, h.leadOut, hleads, hends, hpairs, fun hp => ?_⟩
      obtain ⟨hclosed, hin, hout⟩ := hpasses hp
      exact ⟨hclosed, fun hnil => hin (h.leadIns_eq_nil.2 hnil), fun hnil => hout (h.leadOuts_eq_nil.2 hnil)⟩
    · rintro ⟨leadIns, body, leadOuts, hwhole, hbody, hin, hmid, hout, hleads, hends, hpairs, hpasses⟩
      have h : Parts segs leadIns body leadOuts := ⟨hwhole, hin, hmid, hout⟩
      refine ⟨roleBreak_zero.2 ⟨leadIns, body, leadOuts, h⟩, ?_, (h.bridges_iff hbody).2 ⟨hleads, hends, hpairs⟩, fun hp => ?_⟩
      · rw [h.bodyCount]
        exact List.length_pos_iff.2 hbody |>.ne'
      · obtain ⟨hclosed, hin', hout'⟩ := hpasses hp
        exact ⟨hclosed, fun hnil => hin' (h.leadIns_eq_nil.1 hnil), fun hnil => hout' (h.leadOuts_eq_nil.1 hnil)⟩
  · intro closed passes segs order body breaks misplaced checks hin hbody hout hbodies hbreaks hmisplaced hchecks
    obtain rfl := roleRank_eq hin hbody hout
    obtain rfl : body = _ := funext fun i => propext (hbodies i)
    subst hchecks
    refine firstFailure_structureFault closed passes segs (fun i => (undercuts_zero_iff segs i).trans (hbreaks i).symm)
      (bodyCount_eq_zero segs) (fun horder hcount i => (misplaced_iff horder hcount i).trans (hmisplaced i).symm) ?_
    rw [all_role_ne, all_role_ne]

end Sys2Proof.Proofs

/-! PROOFS. Record validation in the order of R25's table, and the completion of a commit (R6, R7, R33 to R36). -/

namespace Sys2Proof.Proofs

open Sys2Proof Sys2Proof.Machine

/-! ### Records -/

/-- The first slot whose record fails: every slot before it passes. -/
theorem firstRecordFault_eq_some (config : MachineConfig) (k slot : Nat) (list : List SegRecord) (reason : RecordReason) :
    firstRecordFault config k list = some (k + slot, reason) ↔
      (∃ r, list[slot]? = some r ∧ recordFault config r = some reason)
        ∧ ∀ j r, j < slot → list[j]? = some r → recordFault config r = none := by
  induction list generalizing k slot with
  | nil => simp [firstRecordFault]
  | cons r rest ih =>
    rw [firstRecordFault]
    cases hr : recordFault config r with
    | some why =>
      cases slot with
      | zero =>
        refine ⟨fun h => ⟨⟨r, rfl, ?_⟩, fun j _ hj => absurd hj (Nat.not_lt_zero j)⟩, fun ⟨⟨q, hq, hwhy⟩, _⟩ => ?_⟩
        · rw [hr, (Prod.mk.inj (Option.some.inj h)).2]
        · obtain rfl := Option.some.inj hq
          rw [hr] at hwhy
          rw [Option.some.inj hwhy]
          rfl
      | succ slot =>
        refine iff_of_false (fun h => ?_) fun ⟨_, hall⟩ => ?_
        · have := (Prod.mk.inj (Option.some.inj h)).1
          omega
        · have := hall 0 r (Nat.succ_pos slot) rfl
          rw [hr] at this
          cases this
    | none =>
      cases slot with
      | zero =>
        refine iff_of_false (fun h => ?_) fun ⟨⟨q, hq, hwhy⟩, _⟩ => ?_
        · have hle : ∀ (k' : Nat) (l : List SegRecord) (a : Nat × RecordReason), firstRecordFault config k' l = some a → k' ≤ a.1 := by
            intro k' l
            induction l generalizing k' with
            | nil => intro a h; cases h
            | cons q l ih =>
              intro a h
              rw [firstRecordFault] at h
              split at h
              · cases h; exact le_rfl
              · exact (Nat.le_succ k').trans (ih (k' + 1) a h)
          have := hle (k + 1) rest _ h
          dsimp only at this
          omega
        · obtain rfl := Option.some.inj hq
          rw [hr] at hwhy
          cases hwhy
      | succ slot =>
        dsimp only
        rw [show k + (slot + 1) = k + 1 + slot by omega, ih]
        refine and_congr Iff.rfl ⟨fun hall j q hj hq => ?_, fun hall j q hj hq => hall (j + 1) q (by omega) hq⟩
        cases j with
        | zero => exact Option.some.inj hq ▸ hr
        | succ j => exact hall j q (by omega) hq

/-- A check and the condition that carries it out. -/
theorem firstFailure_cons_if {α : Type} {name : α} {fails p : Prop} [Decidable p] {r : List (α × Prop)} {answer : Option α}
    (h : fails ↔ p) (hr : firstFailure r answer) : firstFailure ((name, fails) :: r) (if p then some name else answer) := by
  obtain rfl := propext h
  exact firstFailure_cons (c := (name, fails)) hr

/-- The kinds by their bytes. -/
theorem kind_ofByte {b : Byte} : ∀ {k : Kind}, Kind.ofByte b = some k →
    b.toNat ≤ 3 ∧ (isArc k = true ↔ b = 1 ∨ b = 2) ∧ (k = .bridge ↔ b = 3) ∧ (k = .arcCw ↔ b = 1) := by
  intro k h
  unfold Kind.ofByte at h
  split_ifs at h with h0 h1 h2 h3 <;> cases h <;> subst b <;> decide

theorem kind_ofByte_none {b : Byte} (h : Kind.ofByte b = none) : 3 < b.toNat := by
  unfold Kind.ofByte at h
  split_ifs at h with h0 h1 h2 h3
  bv_omega

theorem role_ofByte_none {b : Byte} : 2 < b.toNat ↔ (Role.ofByte b).isNone = true := by
  unfold Role.ofByte
  split_ifs with h0 h1 h2
  · subst h0; decide
  · subst h1; decide
  · subst h2; decide
  · exact iff_of_true (by bv_omega) rfl

/-- An optional field out of its range, where 0 in its presence byte says it is absent. -/
theorem any_out_of_range (presence : Byte) (x low high : Nat) :
    (presence ≠ 0 ∧ ¬ (low ≤ x ∧ x ≤ high)) ↔
      (if presence = 0 then none else some x).any (fun x => x < low || high < x) = true := by
  split_ifs with h
  · simp [h]
  · simp only [h, ne_eq, not_false_eq_true, true_and, Option.any_some, Bool.or_eq_true, decide_eq_true_eq]
    omega

theorem isSome_of_presence {α : Type} (presence : Byte) (x : α) :
    presence ≠ 0 ↔ (if presence = 0 then none else some x).isSome = true := by
  split_ifs with h
  · exact iff_of_false (not_not_intro h) Bool.false_ne_true
  · exact iff_of_true h rfl

theorem isNone_of_presence {α : Type} (presence : Byte) (x : α) :
    presence = 0 ↔ (if presence = 0 then none else some x).isNone = true := by
  split_ifs with h
  · exact iff_of_true h rfl
  · exact iff_of_false h Bool.false_ne_true

/-- The turn of an arc. -/
theorem sweep_eq {k : Kind} {b : Byte} (h : k = .arcCw ↔ b = 1) (headingIn headingOut : Nat) :
    (if b = 1 then (headingIn + 4096 - headingOut) % 4096 else (headingOut + 4096 - headingIn) % 4096)
      = sweep k headingIn headingOut := by
  unfold sweep
  cases k with
  | arcCw => rw [if_pos (h.1 rfl)]
  | line => rw [if_neg fun hb => nomatch h.2 hb]
  | arcCcw => rw [if_neg fun hb => nomatch h.2 hb]
  | bridge => rw [if_neg fun hb => nomatch h.2 hb]

/-- R25's table, its checks written as the part carries them out. -/
theorem firstFailure_recordFault (config : MachineConfig) (r : SegRecord) {arc : Prop} {radius dwell turn : Nat}
    (harc : arc ↔ r.kindByte = 1 ∨ r.kindByte = 2) (hradius : radius = r.radiusField.toNat)
    (hdwell : dwell = r.dwellField.toNat)
    (hturn : turn = if r.kindByte = 1 then (r.headingIn.toNat + 4096 - r.headingOut.toNat) % 4096
      else (r.headingOut.toNat + 4096 - r.headingIn.toNat) % 4096) :
    firstFailure [(.badKind, 3 < r.kindByte.toNat), (.badRole, 2 < r.roleByte.toNat),
      (.badLength, ¬ (1 ≤ r.lengthField.toNat ∧ r.lengthField.toNat ≤ 4194303)),
      (.radiusAbsent, arc ∧ r.radiusPresence = 0), (.radiusPresent, ¬ arc ∧ r.radiusPresence ≠ 0),
      (.badRadius, r.radiusPresence ≠ 0 ∧ ¬ (500 ≤ radius ∧ radius ≤ 4194303)),
      (.badHeading, 4095 < r.headingIn.toNat ∨ 4095 < r.headingOut.toNat),
      (.headingMismatch, ¬ arc ∧ r.headingIn ≠ r.headingOut), (.badSweep, arc ∧ ¬ (1 ≤ turn ∧ turn ≤ 2047)),
      (.xOutOfBed, config.bedXMax.toNat < r.endX.toNat), (.yOutOfBed, config.bedYMax.toNat < r.endY.toNat),
      (.badDwell, r.dwellPresence ≠ 0 ∧ ¬ (1 ≤ dwell ∧ dwell ≤ 2000)),
      (.dwellOnBridge, r.kindByte = 3 ∧ r.dwellPresence ≠ 0)] (recordFault config r) := by
  subst hradius hdwell
  unfold recordFault
  cases hk : Kind.ofByte r.kindByte with
  | none => exact firstFailure_cons_fails (c := (RecordReason.badKind, 3 < r.kindByte.toNat)) (kind_ofByte_none hk)
  | some k =>
    obtain ⟨hle, hisArc, hbridge, hcw⟩ := kind_ofByte hk
    have harc : arc ↔ isArc k = true := harc.trans hisArc.symm
    refine firstFailure_cons_passes (by dsimp only; omega) ?_
    refine firstFailure_cons_if role_ofByte_none <| firstFailure_cons_if ?_ <| firstFailure_cons_if ?_ <|
      firstFailure_cons_if ?_ <| firstFailure_cons_if (any_out_of_range ..) <| firstFailure_cons_if Iff.rfl <|
      firstFailure_cons_if ?_ <| firstFailure_cons_if ?_ <| firstFailure_cons_if Iff.rfl <| firstFailure_cons_if Iff.rfl <|
      firstFailure_cons_if (any_out_of_range ..) <| firstFailure_cons_if ?_ firstFailure_nil
    · rw [segLength]
      omega
    · exact and_congr harc (isNone_of_presence ..)
    · exact and_congr (not_congr harc) (isSome_of_presence ..)
    · exact and_congr (not_congr harc) (not_congr BitVec.toNat_inj.symm)
    · rw [hturn, sweep_eq hcw]
      refine and_congr harc ?_
      rw [segHeadingIn, segHeadingOut]
      omega
    · exact and_congr hbridge.symm (isSome_of_presence ..)


/-! ### Entries by their contour_id -/

theorem entry_of_mem {s : State} (hnodup : (s.queue.map Entry.contourId).Nodup) {e : Entry} (he : e ∈ s.queue) :
    s.entry e.contourId = some e := by
  cases hfind : s.entry e.contourId with
  | none => exact absurd rfl (entry_none hfind e he)
  | some x =>
    obtain ⟨hx, hid⟩ := entry_some hfind
    rw [List.inj_on_of_nodup_map hnodup hx he hid]

/-- The entries after a rework of the queue that keeps the contour_ids. -/
theorem entry_of_map {s t : State} {f : Entry → Entry} (hq : t.queue = s.queue.map f)
    (hf : ∀ e, (f e).contourId = e.contourId) (id : Nat) : t.entry id = (s.entry id).map f := by
  unfold State.entry
  rw [hq, List.find?_map]
  simp only [Function.comp_def, hf]

theorem entry_modifyEntry {f : Entry → Entry} (hf : ∀ e, (f e).contourId = e.contourId) (id' id : Nat) (s : State) :
    (s.modifyEntry id' f).entry id = (s.entry id).map fun e => if e.contourId = id' then f e else e :=
  entry_of_map (State.setQueue_queue ..) (fun e => by
    split
    · exact hf e
    · rfl) id

/-- The item of an entry that the queue shows. -/
theorem entry_shown {α : Type} {g : Entry → α} (hg : ∀ e e', g e = g e' → e.contourId = e'.contourId) {s t : State}
    (h : shown g t = shown g s) {id : Nat} {e : Entry} (he : s.entry id = some e) : ∃ e', t.entry id = some e' ∧ g e' = g e := by
  unfold shown at h
  unfold State.entry at he ⊢
  generalize s.queue = q at h he
  generalize t.queue = p at h ⊢
  induction q generalizing p with
  | nil => cases he
  | cons x q ih =>
    cases p with
    | nil => cases h
    | cons y p =>
      obtain ⟨hxy, hrest⟩ := List.cons.inj h
      have hid := hg y x hxy
      rw [List.find?_cons] at he ⊢
      cases hx : (x.contourId == id) with
      | true =>
        rw [hx] at he
        rw [hid, hx]
        exact ⟨y, rfl, by rw [hxy, Option.some.inj he]⟩
      | false =>
        rw [hx] at he
        rw [hid, hx]
        exact ih he p hrest

/-- The engine's choice leaves an entry as it was, or takes it where it waits. -/
theorem entry_chooseWork {s : State} (hnodup : (s.queue.map Entry.contourId).Nodup) {id : Nat} {e : Entry}
    (he : s.entry id = some e) :
    s.chooseWork.entry id = some e ∨ e.state = .waitingPlan ∧ s.chooseWork.entry id = some { e with state := .planning } := by
  rcases State.chooseWork_cases s with hc | ⟨w, -, hfind, hc⟩ <;> rw [hc]
  · exact .inl he
  · obtain ⟨hmem, hid⟩ := entry_some he
    have hentry := entry_modifyEntry (f := fun x => { x with state := .planning }) (fun _ => rfl) w.contourId id
      (s.setPlanner { s.planner with job := some ⟨.contour, w.contourId, s.sampleInputs w, none, none⟩ })
    rw [show (s.setPlanner { s.planner with job := some ⟨.contour, w.contourId, s.sampleInputs w, none, none⟩ }).entry id
      = some e from he, Option.map_some] at hentry
    rw [hentry]
    split
    · next hsame =>
      rw [List.inj_on_of_nodup_map hnodup hmem (List.mem_of_find?_eq_some hfind) hsame]
      exact .inr ⟨by simpa using List.find?_some hfind, rfl⟩
    · exact .inl rfl

/-! ### The completion of a commit -/

/-- The part once a commit has been taken into the store, its entry and its buffer, before the engine chooses again. -/
def committed (c : Commit) (rest : List Commit) (s : State) : State :=
  takeWaitingCommit rest ((commitToBuffer c (commitResult c s) (commitToEntry c (commitResult c s)
    (commitToStore c (commitResult c s) s))).raise .commitDone)

section
variable {c : Commit} {rest : List Commit} {s : State}

theorem exec_commitComplete (h : s.engine = c :: rest) : exec .commitComplete s = .next (completeCommit c rest s) := by
  have hexec : exec .commitComplete s = execCommitComplete s := rfl
  rw [hexec, execCommitComplete, h]

theorem completeCommit_eq (c : Commit) (rest : List Commit) (s : State) :
    completeCommit c rest s = (activateAfterCommit c (committed c rest s).chooseWork).settle := rfl

/-- Activation may be tried for the bound entry at the head, and for no other. -/
theorem activateAfterCommit_cases (c : Commit) (s : State) : activateAfterCommit c s = s
    ∨ (∃ e others, s.queue = e :: others ∧ e.contourId = c.contour) ∧ activateAfterCommit c s = s.tryActivate := by
  unfold activateAfterCommit
  split
  · next e others hq =>
    split
    · next h => exact .inr ⟨⟨e, others, hq, h.2⟩, rfl⟩
    · exact .inl rfl
  · exact .inl rfl

/-- What no operation of an activation touches stays through the last step of a commit. -/
theorem activateAfterCommit_keeps {α : Type} (f : State → α) (h : ∀ s, f s.tryActivate = f s) (c : Commit) (s : State) :
    f (activateAfterCommit c s) = f s := by
  rcases activateAfterCommit_cases c s with hc | ⟨-, hc⟩ <;> rw [hc]
  exact h s

theorem buffer_congr {s t : State} (ha : t.bufA = s.bufA) (hb : t.bufB = s.bufB) (name : BufferName) :
    t.buffer name = s.buffer name := by
  cases name
  · exact ha
  · exact hb

/-- The waiting commit's buffer is the only one that changes when the engine takes it. -/
theorem takeWaitingCommit_buffer (h : ∀ d ∈ rest, d.buffer ≠ c.buffer) (s : State) :
    (takeWaitingCommit rest s).buffer c.buffer = s.buffer c.buffer := by
  unfold takeWaitingCommit
  cases rest with
  | nil => exact buffer_congr rfl rfl _
  | cons d rest => exact (setBuffer_buffer_other _ (h d List.mem_cons_self).symm _).trans (buffer_congr rfl rfl _)

theorem takeWaitingCommit_committing (s : State) : ∀ d ∈ rest.head?, ((takeWaitingCommit rest s).buffer d.buffer).state = .committing := by
  cases rest with
  | nil => intro d hd; cases hd
  | cons d rest =>
    intro d' hd
    cases hd
    unfold takeWaitingCommit
    dsimp only
    rw [setBuffer_buffer_same]

/-- The buffer of a completed commit is FREE and keeps the commit's result (R36, R37). -/
theorem committed_buffer (h : ∀ d ∈ rest, d.buffer ≠ c.buffer) : (committed c rest s).buffer c.buffer
    = { s.buffer c.buffer with state := .free, last := some ⟨commitResult c s, c.kind, c.contour, c.page⟩ } := by
  have hkept : (commitToEntry c (commitResult c s) (commitToStore c (commitResult c s) s)).buffer c.buffer = s.buffer c.buffer :=
    buffer_congr (by simp) (by simp) _
  rw [committed, takeWaitingCommit_buffer h, buffer_congr (State.raise_bufA ..) (State.raise_bufB ..), commitToBuffer,
    setBuffer_buffer_same, hkept]

theorem committed_queue : (committed c rest s).queue = s.queue.map (afterCommit c (commitResult c s)) := by
  simp [committed, commitToEntry_queue]

theorem afterCommit_contourId (c : Commit) (result : CommitResult) (e : Entry) :
    (afterCommit c result e).contourId = e.contourId := (afterCommit_own c result e).1

theorem committed_entry (id : Nat) : (committed c rest s).entry id = (s.entry id).map (afterCommit c (commitResult c s)) :=
  entry_of_map committed_queue (afterCommit_contourId c _) id

/-- COMMIT_DONE is raised on the way, and nothing of it is acknowledged. -/
theorem completeCommit_pending (c : Commit) (rest : List Commit) (s : State) :
    pendingWhereRouted .commitDone s (completeCommit c rest s) := by
  have h := gathers_steady ((commitToBuffer c (commitResult c s) (commitToEntry c (commitResult c s)
    (commitToStore c (commitResult c s) s))).raise .commitDone)
  refine Gathers.pending (u := commitToBuffer c (commitResult c s) (commitToEntry c (commitResult c s)
    (commitToStore c (commitResult c s) s))) (.of_attention (by simp)) ?_
  rw [completeCommit_eq]
  refine Gathers.settle ?_
  have hchosen := h.chooseWork (u := committed c rest s) (.of_attention (by rw [committed, takeWaitingCommit_attention]))
  rcases activateAfterCommit_cases c (committed c rest s).chooseWork with hc | ⟨-, hc⟩ <;> rw [hc]
  · exact hchosen
  · exact h.tryActivate hchosen

/-! ### A commit that fails -/

/-- The items of an entry that a failed commit and its activation leave or lower. -/
def owned (e : Entry) : Nat × List Nat × Nat := (e.contourId, e.pages, e.commitsPending)

theorem untouched_owned : Untouched owned := ⟨fun _ _ => rfl, fun _ _ _ => rfl, fun _ => rfl⟩

theorem shown_completeCommit {α : Type} {g : Entry → α} (hg : Untouched g) (c : Commit) (rest : List Commit) (s : State) :
    shown g (completeCommit c rest s) = shown g (committed c rest s) := by
  rw [completeCommit_eq]
  refine (shown_congr (State.settle_queue _)).trans (Eq.trans ?_ (shown_chooseWork hg _))
  rcases activateAfterCommit_cases c (committed c rest s).chooseWork with hc | ⟨-, hc⟩ <;> rw [hc]
  exact shown_tryActivate hg _

/-- What makes a commit fail, and the result it gives (R33, R7). -/
theorem commitResult_eq {records : List SegRecord} {result : CommitResult} (hrecords : records = commitRecords c s)
    (h : (c.bound = false ∨ s.entry c.contour = none) ∧ result = .notFound
      ∨ (∃ e slot reason, c.bound = true ∧ s.entry c.contour = some e
          ∧ firstRecordFault s.config 0 records = some (slot, reason) ∧ result = .invalidRecord slot reason)
      ∨ ∃ e reason segment, c.bound = true ∧ s.entry c.contour = some e ∧ firstRecordFault s.config 0 records = none
          ∧ c.kind = .replace ∧ e.state ≠ .loading
          ∧ structureFault e.closed e.passes (segmentsOf (putPage c.page (freshPage records) s.store) e.pages)
            = some (reason, segment)
          ∧ result = .invalidContour reason segment) : commitResult c s = result ∧ result ≠ .ok := by
  subst hrecords
  unfold commitResult boundEntry
  rcases h with ⟨hgone, rfl⟩ | ⟨e, slot, reason, hb, he, hfault, rfl⟩ | ⟨e, reason, segment, hb, he, hpass, hkind, hstate, hfault, rfl⟩
  · refine ⟨?_, by decide⟩
    rcases hgone with hb | he
    · simp [hb]
    · simp [he]
  · simp [hb, he, hfault]
  · simp [hb, he, hpass, hkind, hstate, hfault]

end


/-- Settles O19: the failed commit's end, the first faulty slot, and the table of record checks. -/
theorem failedCommitChangesNoPage : Obligations.FailedCommitChangesNoPage := by
  refine ⟨fun s c rest records result hengine hother hrecords hwhy => ?_, fun config list slot reason => ?_, ?_⟩
  · obtain ⟨hresult, hfail⟩ := commitResult_eq hrecords hwhy
    refine ⟨completeCommit c rest s, exec_commitComplete hengine, ?_, ?_, fun d hd => ?_, ?_, ?_, (completeCommit_pending c rest s).1,
      ?_, ?_, ?_, ?_, ?_, fun e hb he => ?_⟩
    · rw [completeCommit_eq, State.settle_store, activateAfterCommit_keeps _ State.tryActivate_store]
      simp [committed, commitToStore_store, hresult, hfail]
    · rw [completeCommit_eq, State.settle_engine, activateAfterCommit_keeps _ State.tryActivate_engine]
      simp [committed]
    · rw [completeCommit_eq, buffer_congr (State.settle_bufA _) (State.settle_bufB _),
        activateAfterCommit_keeps (State.buffer · _) fun s => buffer_congr (State.tryActivate_bufA s) (State.tryActivate_bufB s) _,
        buffer_congr (State.chooseWork_bufA _) (State.chooseWork_bufB _)]
      exact takeWaitingCommit_committing _ d hd
    · rw [completeCommit_eq, State.settle_freePages, activateAfterCommit_keeps _ State.tryActivate_freePages]
      simp [committed, commitToStore_freePages, hresult, hfail]
    · rw [completeCommit_eq, buffer_congr (State.settle_bufA _) (State.settle_bufB _),
        activateAfterCommit_keeps (State.buffer · _) fun s => buffer_congr (State.tryActivate_bufA s) (State.tryActivate_bufB s) _,
        buffer_congr (State.chooseWork_bufA _) (State.chooseWork_bufB _), committed_buffer hother, hresult]
    · refine (shown_completeCommit untouched_contourId c rest s).trans ?_
      rw [shown, committed_queue, List.map_map]
      exact List.map_congr_left fun e _ => afterCommit_contourId c _ e
    · rw [completeCommit_eq, State.settle_finished, activateAfterCommit_keeps _ State.tryActivate_finished]
      simp [committed]
    · rw [completeCommit_eq, State.settle_config, activateAfterCommit_keeps _ State.tryActivate_config]
      simp [committed]
    · rw [completeCommit_eq, State.settle_materials, activateAfterCommit_keeps _ State.tryActivate_materials]
      simp [committed]
    · rw [completeCommit_eq, State.settle_wear, activateAfterCommit_keeps _ State.tryActivate_wear]
      simp [committed]
    · have hown : afterCommit c (commitResult c s) e = { e with commitsPending := e.commitsPending - 1 } := by
        rw [afterCommit, if_pos ⟨hb, (entry_some he).2⟩, Entry.takeCommit, hresult, if_neg hfail]
      obtain ⟨e', he', hsame⟩ := entry_shown (g := owned) (fun _ _ h => (Prod.mk.inj h).1)
        (shown_completeCommit untouched_owned c rest s) (id := c.contour) (e := { e with commitsPending := e.commitsPending - 1 })
        (by rw [committed_entry, he, Option.map_some, hown])
      obtain ⟨-, hrest⟩ := Prod.mk.inj hsame
      obtain ⟨hpages, hpending⟩ := Prod.mk.inj hrest
      exact ⟨e', he', hpending, hpages⟩
  · have h := firstRecordFault_eq_some config 0 slot list reason
    rwa [Nat.zero_add] at h
  · intro config r arc radius dwell turn checks harc hradius hdwell hturn hchecks
    subst hchecks
    exact ⟨firstFailure_recordFault config r harc hradius hdwell hturn, rfl⟩

/-! ### A commit that completes OK

The statement writes the engine's choice as `... ∨ e.state ≠ .loading ∧ ∃ job, ... → ChoosesWork u t`, where the `∃` reaches to
the end: it claims that the planner has no job, or that the bound entry is not LOADING. An append that completes while another
contour is being planned meets every hypothesis and neither of the two. -/

/-- A straight body segment that passes R25. -/
def plainSegment : SegRecord := ⟨0, 1, 0, 0, 1000, 0, 0, 0, 0, 0, 0⟩

/-- A contour that is being loaded, its first append accepted. -/
def loadingContour : Entry :=
  { contourId := 1, tag := 0, material := 0, quality := 1, passes := 1, pierceMode := .lowStationary, closed := false, startX := 0,
    startY := 0, pages := [], commitsPending := 1, state := .loading, stamp := none, overspeedCount := none, donePlace := none,
    resumePoint := none, holdCause := none, lastHoldCause := none, laterFault := none, resumeFailures := 0, holdCount := 0,
    restartMark := false }

/-- A contour behind it that the engine is planning. -/
def plannedContour : Entry := { loadingContour with contourId := 2, pages := [1], commitsPending := 0, state := .planning }

/-- The append that is being written: slot 0 of buffer A into page 0. -/
def runningAppend : Commit := ⟨.append, .a, 1, true, 1, 0⟩

/-- The append is under way while the other contour is planned. -/
def appendDuringPlan : State :=
  (((((State.reset.setBuffer .a ⟨(Vector.replicate 32 none).set 0 (some plainSegment), 1, .committing, none⟩).setEngine
    [runningAppend]).setStore [(1, freshPage [plainSegment])]).setFreePages (State.allPages.drop 2)).setQueue
    [loadingContour, plannedContour]).setPlanner
    { State.reset.planner with job := some ⟨.contour, 2, State.reset.sampleInputs plannedContour, none, none⟩ }

theorem appendDuringPlan_law : QueueLaw appendDuringPlan := by
  refine ⟨by decide, by decide, fun e he => ?_, by decide⟩
  rw [List.mem_singleton.1 (show e ∈ [plannedContour] from he)]
  rfl

/-- Refutes O18: the append completes, but the planner has a job and the bound entry is LOADING. -/
theorem not_commitCompletesOk : ¬ Obligations.CommitCompletesOk := by
  intro h
  have hclaim := h appendDuringPlan runningAppend [] loadingContour [plainSegment] appendDuringPlan_law rfl
    (fun d hd => absurd hd List.not_mem_nil) rfl rfl (by decide) (by decide) (.inl ⟨rfl, rfl⟩)
  obtain ⟨t, e', -, -, -, -, -, -, -, -, -, -, -, -, hengine, -⟩ := hclaim
  rcases (hengine _ rfl).2 with hidle | ⟨hloaded, -⟩
  · cases hidle
  · exact hloaded rfl

end Sys2Proof.Proofs

/-! PROOFS. The material commands: the table of R54 and R55, the refusals, and the users of a written record (R57, R58, R60). -/

namespace Sys2Proof.Proofs

open Sys2Proof Sys2Proof.Machine

/-! ### Orders of fields -/

/-- The checks that each of the fields is no higher than the one before it. -/
def rises : List (Nat × Nat) → List (Nat × Prop)
  | (_, x) :: (o, y) :: rest => (o, x < y) :: rises ((o, y) :: rest)
  | _ => []

/-- The checks that each of the fields is no lower than the one before it. -/
def falls : List (Nat × Nat) → List (Nat × Prop)
  | (_, x) :: (o, y) :: rest => (o, y < x) :: falls ((o, y) :: rest)
  | _ => []

theorem firstFailure_firstRise (fields : List (Nat × Nat)) : firstFailure (rises fields) (firstRise fields) := by
  fun_induction rises fields with
  | case1 _ x o y rest ih => rw [firstRise]; exact firstFailure_cons_if Iff.rfl ih
  | case2 fields h =>
    rw [firstRise.eq_2 fields h]
    exact firstFailure_nil

theorem firstFailure_firstFall (fields : List (Nat × Nat)) : firstFailure (falls fields) (firstFall fields) := by
  fun_induction falls fields with
  | case1 _ x o y rest ih => rw [firstFall]; exact firstFailure_cons_if Iff.rfl ih
  | case2 fields h =>
    rw [firstFall.eq_2 fields h]
    exact firstFailure_nil

/-- The ordering rules of R55, each behind the ranges; the first compares qf2 with the factor 256 of quality 1, and fails only
where the range of qf2 does. -/
theorem firstFailure_materialFault (m : Material) :
    firstFailure ((materialRanges m).map FieldCheck.fails
        ++ (rises (atOffsets 3 (qualityFactors m)) ++ (rises (atOffsets 11 (cornerFactors m))
          ++ (falls (atOffsets 27 (cornerDwells m)) ++ [(46, m.vSep.toNat < m.vFloor.toNat)]))))
      (materialFault m) := by
  refine firstFailure_drop (c := (3, 256 < m.qf2.toNat)) ?_ fun h => ?_
  · exact firstFailure_append (firstFailure_ranges _) fun _ =>
      firstFailure_append (firstFailure_firstRise ((1, 256) :: atOffsets 3 (qualityFactors m))) fun _ =>
        firstFailure_append (firstFailure_firstRise _) fun _ =>
          firstFailure_append (firstFailure_firstFall _) fun _ => firstFailure_cons_if Iff.rfl firstFailure_nil
  · refine ⟨FieldCheck.fails ⟨3, m.qf2.toNat, 1, 256⟩, List.mem_map_of_mem ?_, fun hrange => Nat.not_lt.2 hrange.2 h⟩
    exact List.mem_cons_of_mem _ List.mem_cons_self

/-! ### The users of a written record -/

/-- The state once the record is written and its users are sent back, before the engine chooses. -/
def recordWritten (i : Fin 24) (record : Material) (s : State) : State :=
  let s := abandonUser i (s.setMaterials (s.materials.set i (rewriteRecord record s.materials[i])))
  s.setQueue (s.queue.map fun e => if returnsAtWrite i e then e.replan else e)

theorem writeMaterial_eq (i : Fin 24) (record : Material) (s : State) :
    writeMaterial i record s = (recordWritten i record s).chooseWork := rfl

/-- A write touches the material table, the queue and the planner. -/
theorem writeMaterial_frame (i : Fin 24) (record : Material) (s : State) :
    writeMaterial i record s = ((s.setMaterials (s.materials.set i (rewriteRecord record s.materials[i]))).setQueue
      (writeMaterial i record s).queue).setPlanner (writeMaterial i record s).planner := by
  rw [writeMaterial_eq]
  rcases abandonUser_cases i (s.setMaterials (s.materials.set i (rewriteRecord record s.materials[i]))) with ha | ha <;>
    rcases State.chooseWork_cases (recordWritten i record s) with hc | ⟨w, -, -, hc⟩ <;>
      rw [hc, recordWritten, ha] <;> rfl

theorem recordWritten_queue (i : Fin 24) (record : Material) (s : State) :
    (recordWritten i record s).queue = s.queue.map fun e => if returnsAtWrite i e then e.replan else e := by
  rw [recordWritten, State.setQueue_queue, abandonUser_queue]
  rfl

theorem replan_contourId (i : Fin 24) (e : Entry) : (if returnsAtWrite i e then e.replan else e).contourId = e.contourId := by
  split <;> rfl

theorem ids_recordWritten (i : Fin 24) (record : Material) (s : State) : ids (recordWritten i record s) = ids s := by
  rw [ids, recordWritten_queue, List.map_map]
  exact List.map_congr_left fun e _ => replan_contourId i e

/-- The plan in flight goes on where none of the returned users is being planned by it. -/
theorem recordWritten_planner_kept {i : Fin 24} (record : Material) {s : State} {job : Job} (hjob : s.planner.job = some job)
    (h : job.kind ≠ .contour
      ∨ ∀ e ∈ s.queue, returnsAtWrite i e = true → e.state = .planning → e.contourId ≠ job.contour) :
    (recordWritten i record s).planner = s.planner := by
  rw [recordWritten, State.setQueue_planner, abandonUser]
  have hsame : (s.setMaterials (s.materials.set i (rewriteRecord record s.materials[i]))).planner.job = some job := hjob
  rw [hsame]
  dsimp only
  split
  · next hany =>
    rcases h with hk | hnone
    · rw [State.abandonPlan, hsame]
      dsimp only
      rw [if_neg fun h => hk h.1]
      rfl
    · obtain ⟨e, he, huse⟩ := List.any_eq_true.1 hany
      simp only [Bool.and_eq_true, beq_iff_eq] at huse
      exact absurd huse.2 (hnone e he huse.1.1 huse.1.2)
  · rfl

/-- The plan in flight is abandoned where it plans one of the returned users; the engine without a job stays so. -/
theorem recordWritten_planner_free {i : Fin 24} (record : Material) {s : State}
    (h : s.planner.job = none ∨ ∃ job e, s.planner.job = some job ∧ job.kind = .contour ∧ e ∈ s.queue
      ∧ returnsAtWrite i e = true ∧ e.state = .planning ∧ e.contourId = job.contour) :
    (recordWritten i record s).planner = { s.planner with job := none } := by
  rw [recordWritten, State.setQueue_planner, abandonUser]
  rcases h with hnone | ⟨job, e, hjob, hk, he, huse, hstate, hid⟩
  · rw [show (s.setMaterials (s.materials.set i (rewriteRecord record s.materials[i]))).planner.job = none from hnone]
    exact congrArg (fun j => ({ s.planner with job := j } : Planner)) hnone
  · have hsame : (s.setMaterials (s.materials.set i (rewriteRecord record s.materials[i]))).planner.job = some job := hjob
    rw [hsame]
    dsimp only
    rw [State.setMaterials_queue, if_pos (List.any_eq_true.2 ⟨e, he, by simp [huse, hstate, hid]⟩), State.abandonPlan, hsame]
    dsimp only
    rw [if_pos ⟨hk, rfl⟩]
    rfl

theorem choosesWork_congr {u v t r : State} (h : ChoosesWork v t) (hqueue : v.queue = u.queue)
    (hplanner : { v.planner with job := none } = { u.planner with job := none })
    (hsample : ∀ e, sampledFor v e = sampledFor u e) (hrqueue : r.queue = t.queue) (hrplanner : r.planner = t.planner) :
    ChoosesWork u r := by
  refine ⟨fun hnone => ?_, fun l w k hq hw hl => ?_⟩
  · have := h.1 (by rwa [hqueue])
    rwa [hqueue, hplanner, ← hrqueue, ← hrplanner] at this
  · have := h.2 l w k (by rwa [hqueue]) hw hl
    rw [hqueue, hsample, ← hrqueue, ← hrplanner] at this
    exact ⟨this.1, this.2.trans (congrArg (fun p : Planner => { p with job := some ⟨.contour, w.contourId, sampledFor u w, none, none⟩ })
      hplanner)⟩

/-- The engine's choice at one place of the queue: the entry there, or that entry taken where it waits. -/
theorem chooseWork_getElem? {s : State} (hnodup : (s.queue.map Entry.contourId).Nodup) {k : Nat} {e e' : Entry}
    (he : s.queue[k]? = some e) (he' : s.chooseWork.queue[k]? = some e') :
    e' = e ∨ e.state = .waitingPlan ∧ e' = { e with state := .planning } := by
  rcases State.chooseWork_cases s with hc | ⟨w, -, hfind, hc⟩ <;> rw [hc] at he'
  · rw [he] at he'
    exact .inl (Option.some.inj he').symm
  · rw [State.modifyEntry, State.setQueue_queue, State.setPlanner_queue, List.getElem?_map, he, Option.map_some] at he'
    obtain rfl := Option.some.inj he'
    split
    · next hid =>
      rw [List.inj_on_of_nodup_map hnodup (List.mem_of_getElem? he) (List.mem_of_find?_eq_some hfind) hid]
      exact .inr ⟨by simpa using List.find?_some hfind, rfl⟩
    · exact .inl rfl

/-! ### The refusals -/

/-- The begun user of a record. -/
theorem headUser_eq_none {s : State} {index : Byte} {m : Fin 24} (h : m.val = index.toNat)
    (hnone : ∀ e ∈ s.queue, e.state.begun = true → e.material ≠ m) : headUser s index.toNat = none := by
  rw [headUser, List.find?_eq_none]
  intro e he
  rw [val_beq_index h, Bool.and_eq_true, beq_iff_eq]
  exact fun ⟨hb, hm⟩ => hnone e he hb hm

theorem headUser_eq_some {s : State} {index : Byte} {m : Fin 24} (h : m.val = index.toNat) {l r : List Entry} {e : Entry}
    (hq : s.queue = l ++ e :: r) (hb : e.state.begun = true) (hm : e.material = m)
    (hl : ∀ x ∈ l, ¬ (x.state.begun = true ∧ x.material = m)) : headUser s index.toNat = some e := by
  rw [headUser, hq, List.find?_append, List.find?_eq_none.2 fun x hx => ?_, Option.none_or, List.find?_cons_of_pos]
  · simp [hb, hm, h]
  · rw [val_beq_index h, Bool.and_eq_true, beq_iff_eq]
    exact hl x hx

theorem find_user_eq_some {s : State} {index : Byte} {m : Fin 24} (h : m.val = index.toNat) {l r : List Entry} {e : Entry}
    (hq : s.queue = l ++ e :: r) (hm : e.material = m) (hl : ∀ x ∈ l, x.material ≠ m) :
    s.queue.find? (fun e => e.material.val == index.toNat) = some e := by
  rw [hq, List.find?_append, List.find?_eq_none.2 fun x hx => ?_, Option.none_or, List.find?_cons_of_pos]
  · simp [hm, h]
  · rw [val_beq_index h, beq_iff_eq]
    exact hl x hx


theorem returnsAtWrite_iff {index : Nat} {m : Fin 24} (h : m.val = index) (e : Entry) : returnsAtWrite index e
    = (decide (e.state ∈ [EntryState.waitingPlan, .planning, .ready]) && decide (e.material = m)) := by
  subst h
  have hstate : e.state.planned = decide (e.state ∈ [EntryState.waitingPlan, .planning, .ready]) := by cases e.state <;> rfl
  rw [returnsAtWrite, hstate, Bool.eq_iff_iff]
  simp only [Bool.and_eq_true, beq_iff_eq, decide_eq_true_eq, Fin.ext_iff]

theorem matWriteCommand_accepted {index : Byte} {record : Material} {s : State} {m : Fin 24} (h : m.val = index.toNat)
    (hfault : materialFault record = none) (hfree : ∀ e ∈ s.queue, e.state.begun = true → e.material ≠ m) :
    matWriteCommand index record s = okay (.materialWritten ((s.materials[m]).revision + 1).toNat
      (s.queue.countP (returnsAtWrite m.val))) (writeMaterial m record s) := by
  have hrange : ¬ 23 < index.toNat := by omega
  simp only [matWriteCommand, hrange, if_false, hfault, headUser_eq_none h hfree, ofNat_index h, h]

/-- Settles O34: the accepted write, the refusals, and the table of R54 and R55. -/
theorem materialCommands : Obligations.MaterialCommands := by
  refine ⟨fun index record s m uses hopen hm hfault hfree huses w u hw hu => ?_, fun index record s hopen => ⟨fun hindex =>
    ⟨exec_answers rfl hopen ?_, exec_answers rfl hopen ?_⟩, fun m hm => ⟨fun offset hoffset => exec_answers rfl hopen ?_,
      fun l e r hq hb hmat hl => ⟨exec_answers rfl hopen ?_, fun hfault => exec_answers rfl hopen ?_⟩,
      fun l e r hq hmat hl hnone => exec_answers rfl hopen ?_, fun hnone => ?_⟩⟩, ?_⟩
  · obtain rfl : uses = returnsAtWrite m.val := funext fun e => (huses e).trans (returnsAtWrite_iff rfl e).symm
    have hpre : (recordWritten m record (atWork s)).queue = u.queue := by
      rw [recordWritten_queue, hu]
      rfl
    have hsample : ∀ e, sampledFor (recordWritten m record (atWork s)) e = sampledFor u e := by
      intro e
      rw [hu, hw, recordWritten]
      rcases abandonUser_cases m.val ((atWork s).setMaterials ((atWork s).materials.set m
        (rewriteRecord record (atWork s).materials[m]))) with ha | ha <;> rw [ha] <;> rfl
    have hframe := writeMaterial_frame m record (atWork s)
    have hrun := matWriteCommand_accepted (s := atWork s) hm hfault hfree
    have hids : ((recordWritten m record (atWork s)).queue.map Entry.contourId) = s.queue.map Entry.contourId :=
      ids_recordWritten m record (atWork s)
    have hr : (writeMaterial m record (atWork s)).setPort s.port
        = (u.setQueue (writeMaterial m record (atWork s)).queue).setPlanner (writeMaterial m record (atWork s)).planner := by
      rw [hu, hw]
      exact congrArg (State.setPort · s.port) hframe
    refine ⟨_, (writeMaterial m record (atWork s)).setPort s.port, ?_, rfl, hr, fun job hjob hforeign => ?_, fun hfreed => ?_, ?_,
      fun hlaw k e e' he he' => ?_⟩
    · rw [exec_of_command rfl, State.onJobPort_of_open hopen, runCommand, hrun]
      have hport : (writeMaterial m record (atWork s)).port = (atWork s).port := by rw [hframe]; rfl
      refine congrArg Host.Outcome.next ?_
      dsimp only [okay]
      unfold State.respond
      rw [hport]
      rfl
    · have hkept := recordWritten_planner_kept (s := atWork s) record hjob hforeign
      have hbusy := chooseWork_of_busy (s := recordWritten m record (atWork s)) (job := job) (by rw [hkept]; exact hjob)
      rw [hr, writeMaterial_eq, hbusy, hpre, hkept, hu, hw]
      rfl
    · have hplanner := recordWritten_planner_free (s := atWork s) record hfreed
      refine choosesWork_congr (State.chooseWork_chooses (s := recordWritten m record (atWork s)) (by rw [hplanner])) hpre ?_
        hsample rfl rfl
      rw [hplanner, hu, hw]
      rfl
    · exact (ids_chooseWork (recordWritten m record (atWork s))).trans hids
    · have hnodup : ((recordWritten m record (atWork s)).queue.map Entry.contourId).Nodup := by
        rw [hids]
        exact hlaw.2.1
      have hbefore : (recordWritten m record (atWork s)).queue[k]? = some (if returnsAtWrite m.val e then e.replan else e) := by
        rw [recordWritten_queue, List.getElem?_map]
        rw [show (atWork s).queue[k]? = some e from he]
        rfl
      have hchoice := chooseWork_getElem? hnodup hbefore he'
      refine ⟨fun huse => ?_, fun huse => ?_⟩ <;> rw [huse] at hchoice
      · rcases hchoice with rfl | ⟨-, rfl⟩ <;> exact ⟨rfl, by simp [Entry.replan]⟩
      · exact hchoice
  · simp only [runCommand, matInvalidateCommand, hindex, if_true, badArg_eq]
  · simp only [runCommand, matWriteCommand, hindex, if_true, badArg_eq]
  · have hrange : ¬ 23 < index.toNat := by omega
    simp only [runCommand, matWriteCommand, hrange, if_false, hoffset, badArg_eq]
  · have hrange : ¬ 23 < index.toNat := by omega
    simp only [runCommand, matInvalidateCommand, hrange, if_false, headUser_eq_some (s := atWork s) hm hq hb hmat hl] <;> rfl
  · have hrange : ¬ 23 < index.toNat := by omega
    simp only [runCommand, matWriteCommand, hrange, if_false, hfault, headUser_eq_some (s := atWork s) hm hq hb hmat hl] <;> rfl
  · have hrange : ¬ 23 < index.toNat := by omega
    simp only [runCommand, matInvalidateCommand, hrange, if_false, headUser_eq_none (s := atWork s) hm hnone,
      find_user_eq_some (s := atWork s) hm hq hmat hl] <;> rfl
  · have hrange : ¬ 23 < index.toNat := by omega
    have hno : (atWork s).queue.find? (fun e => e.material.val == index.toNat) = none := by
      rw [List.find?_eq_none]
      intro e he
      rw [val_beq_index hm, beq_iff_eq]
      exact hnone e he
    have hrun : matInvalidateCommand index (atWork s) = okay (.revision (s.materials[m]).revision.toNat)
        ((atWork s).setMaterials (s.materials.set m ⟨(s.materials[m]).revision, none⟩)) := by
      simp only [matInvalidateCommand, hrange, if_false, headUser_eq_none (s := atWork s) hm fun e he _ => hnone e he, hno,
        ofNat_index hm] <;> rfl
    rw [exec_of_command rfl, State.onJobPort_of_open hopen, runCommand, hrun]
    rfl
  · rintro m ranges order rfl rfl
    exact firstFailure_materialFault m

end Sys2Proof.Proofs

/-! PROOFS. The laws of the tables in force and of wear at every step (R53, R175, R177, R178, R185). -/

namespace Sys2Proof.Proofs

open Sys2Proof Sys2Proof.Machine

/-! ### The configuration -/

theorem judgeWear_config (s : State) : s.judgeWear.config = s.config := by rw [judgeWear_frame]; rfl

/-- No operation but CONFIG_SET touches the configuration. -/
theorem steady_config (P : MachineConfig → Prop) : SteadyThroughout (fun u => P u.config) where
  setQueue _ h := h
  setStore _ h := h
  setFreePages _ h := h
  setEngine _ h := h
  setFinished _ h := h
  setPlanner _ h := h
  setJsq _ h := h
  setStream _ _ h := h
  setMotion _ _ h := h
  endActive h := h
  setPump _ h := h
  raise _ h := h
  settle h := h
  countWear _ _ h := (congrArg P (judgeWear_config _)).mpr h
  setPort _ h := h
  setBuffer _ _ h := (congrArg P (setBuffer_config ..)).mpr h
  setMaterials _ h := h
  setAttention _ h := h
  clearWork h := h
  putStream _ h := h
  putMotion _ h := h
  unit _ h := (congrArg P (judgeWear_config _)).mpr h

/-- The wear commands leave the configuration as it is. -/
theorem changeCounter_config (i : Fin 4) (f : Counter → Counter) (s : State) : (changeCounter i f s).config = s.config :=
  judgeWear_config _

theorem command_config {c : Instr} (hc : ∀ record, c ≠ .configSet record) (P : MachineConfig → Prop) {u : State} (h : P u.config) :
    P (runCommand c u).2.config := by
  by_cases hk : keepsTables c = true
  · exact (steady_config P).command hk h
  · cases c with
    | configSet record => exact absurd rfl (hc record)
    | wearConfig counter source limit =>
      rw [show runCommand (.wearConfig counter source limit) u = wearConfigCommand counter source limit u from rfl]
      rcases wearConfigCommand_cases counter source limit u with hr | ⟨i, src, t, -, -, ht, hr⟩
      · rw [hr.2]
        exact h
      · rw [hr]
        subst ht
        dsimp only [okay]
        rw [changeCounter_config]
        exact h
    | wearLoad counter value =>
      rw [show runCommand (.wearLoad counter value) u = wearLoadCommand counter value u from rfl]
      rcases wearLoadCommand_cases counter value u with hr | ⟨i, t, -, ht, hr⟩
      · rw [hr.2]
        exact h
      · rw [hr]
        subst ht
        dsimp only [okay]
        rw [changeCounter_config]
        exact h
    | wearReset counter =>
      rw [show runCommand (.wearReset counter) u = wearResetCommand counter u from rfl]
      rcases wearResetCommand_cases counter u with hr | ⟨i, t, -, ht, hr⟩
      · rw [hr.2]
        exact h
      · rw [hr]
        subst ht
        dsimp only [okay]
        rw [changeCounter_config]
        exact h
    | wearLevels t1 t2 t3 d1 d2 d3 =>
      rw [show runCommand (.wearLevels t1 t2 t3 d1 d2 d3) u = wearLevelsCommand t1 t2 t3 d1 d2 d3 u from rfl]
      rcases wearLevelsCommand_cases t1 t2 t3 d1 d2 d3 u with hr | ⟨t, -, ht, hr⟩
      · rw [hr.2]
        exact h
      · rw [hr]
        subst ht
        have hsame : ∀ s : State, s.judgeLevel.config = s.config := fun s => by rw [judgeLevel_frame]; rfl
        exact (congrArg P (hsame _)).mpr h
    | _ => exact absurd rfl hk

/-- The configuration in force passes the checks of CONFIG_SET at every step. -/
theorem configFault_kept : Kept (fun u => configFault u.config = none) where
  toKeptByEvents := (steady_config fun c => configFault c = none).events
  command c s h := by
    by_cases hc : ∃ record, c = .configSet record
    · obtain ⟨record, rfl⟩ := hc
      rw [show runCommand (.configSet record) s = configSetCommand record s from rfl]
      rcases configSetCommand_cases record s with hr | ⟨hpass, -, hr⟩
      · rw [hr.2]
        exact h
      · rw [hr]
        exact hpass
    · exact command_config (fun record hr => hc ⟨record, hr⟩) (fun c => configFault c = none) h
  powerOn _ _ := rfl

/-- The pump limits in force are in order. -/
theorem limits_of_configFault {config : MachineConfig} (h : configFault config = none) :
    config.pumpPMin.toNat ≤ config.pumpPMax.toNat :=
  Nat.not_lt.1 ((firstFailure_configFault config).1.1 h (8, config.pumpPMax.toNat < config.pumpPMin.toNat)
    (List.mem_append_right _ List.mem_cons_self))

/-- Settles O36: the configuration keeps its checks and is set by CONFIG_SET alone, the clamp stays in its range, and the records
in use stay VALID. -/
theorem tablesInForceKept : Obligations.TablesInForceKept := by
  refine ⟨⟨fun c s t hstep => ⟨configFault_kept.exec hstep, fun hne => ?_⟩, fun config p hpass => ?_⟩,
    fun c s t hstep => materialsValid_kept.exec hstep⟩
  · by_contra hnone
    simp only [not_or, not_exists] at hnone
    obtain ⟨hreset, hset, hbyte⟩ := hnone
    exact hne ((steady_config (· = s.config)).events.exec hstep hreset (fun dma b => hbyte dma b)
      (fun u hu => command_config hset (· = s.config) hu) rfl)
  · have hle := limits_of_configFault hpass
    unfold clampPressure
    split_ifs <;> omega

/-! ### Wear -/

/-- The law of wear, and no value below the one it had in `s`. -/
def WornSince (s u : State) : Prop := WearLaw u ∧ ∀ i, (s.wear.counter i).value ≤ (u.wear.counter i).value

/-- A count on the counters and its judgement keep the law and lower no value. -/
theorem wornSince_judgeWear {s u v : State} (h : WornSince s u)
    (hv : ∀ i, (u.wear.counter i).value ≤ (v.wear.counter i).value ∧ (v.wear.counter i).value ≤ 4294967295) :
    WornSince s v.judgeWear :=
  ⟨judgeWear_law fun i => (hv i).2, fun i => by
    rw [judgeWear_counter, judge_value]
    exact (h.2 i).trans (hv i).1⟩

theorem millisecond_value {c : Counter} (h : c.value ≤ 4294967295) :
    c.value ≤ c.millisecond.value ∧ c.millisecond.value ≤ 4294967295 := by
  unfold Counter.millisecond Counter.add
  split
  · exact ⟨by simp; omega, by simp⟩
  · exact ⟨le_rfl, h⟩

/-- No operation but the wear commands lowers a value or breaks the law. -/
theorem steady_wear (s : State) : SteadyThroughout (WornSince s) where
  setQueue _ h := h
  setStore _ h := h
  setFreePages _ h := h
  setEngine _ h := h
  setFinished _ h := h
  setPlanner _ h := h
  setJsq _ h := h
  setStream _ _ h := h
  setMotion _ _ h := h
  endActive h := h
  setPump _ h := h
  raise _ h := h
  settle h := h
  countWear f hf h := wornSince_judgeWear h fun i => by
    rw [State.setWear_wear, counter_mapCounters]
    exact hf _ (h.1.2.2 i)
  setPort _ h := h
  setBuffer name _ h := by cases name <;> exact h
  setMaterials _ h := h
  setAttention _ h := h
  clearWork h := h
  putStream _ h := h
  putMotion _ h := h
  unit i h := wornSince_judgeWear h fun j => by
    rw [State.setWear_wear, counter_setCounter]
    split
    · next hj => exact hj ▸ millisecond_value (h.1.2.2 j)
    · exact ⟨le_rfl, h.1.2.2 j⟩

/-- A wear command that sets a counter leaves the law where the value it sets is in range. -/
theorem changeCounter_law {s : State} (h : WearLaw s) (i : Fin 4) {f : Counter → Counter}
    (hf : ∀ c, c.value ≤ 4294967295 → (f c).value ≤ 4294967295) : WearLaw (changeCounter i f s) := by
  refine judgeWear_law fun j => ?_
  rw [State.setWear_wear, counter_setCounter]
  split
  · exact hf _ (h.2.2 i)
  · exact h.2.2 j

theorem configure_value (source : WearSource) (limit : Nat) {c : Counter} (h : c.value ≤ 4294967295) :
    (Counter.configure source limit c).value ≤ 4294967295 := by
  unfold Counter.configure
  split
  · exact h
  · exact Nat.zero_le _

/-- WEAR_LEVELS judges the level alone. -/
theorem wornSince_wearLevels {s u : State} (t1 t2 t3 : BitVec 32) (d1 d2 d3 : BitVec 16) (h : WornSince s u) :
    WornSince s (wearLevelsCommand t1 t2 t3 d1 d2 d3 u).2 := by
  rcases wearLevelsCommand_cases t1 t2 t3 d1 d2 d3 u with hr | ⟨t, -, ht, hr⟩
  · rw [hr.2]
    exact h
  · rw [hr]
    subst ht
    refine (steady_wear s).settle ?_
    have hwear := judgeLevel_wear (u.setWear { u.wear with t1 := t1.toNat, t2 := t2.toNat, t3 := t3.toNat, d1 := d1.toNat
                                                           d2 := d2.toNat, d3 := d3.toNat })
    refine ⟨⟨?_, ?_, fun i => ?_⟩, fun i => ?_⟩
    · rw [hwear]
      exact h.1.1
    · rw [hwear]
      rfl
    · rw [hwear]
      exact (congrArg (· ≤ 4294967295) (by fin_cases i <;> rfl)).mpr (h.1.2.2 i)
    · rw [hwear]
      exact (congrArg ((s.wear.counter i).value ≤ ·) (by fin_cases i <;> rfl)).mpr (h.2 i)

theorem wornSince_refl {s : State} (h : WearLaw s) : WornSince s s := ⟨h, fun _ => le_rfl⟩

/-- Every command keeps the law of wear. -/
theorem command_wearLaw (c : Instr) {u : State} (h : WearLaw u) : WearLaw (runCommand c u).2 := by
  by_cases hk : keepsTables c = true
  · exact ((steady_wear u).command hk (wornSince_refl h)).1
  · cases c with
    | configSet record =>
      rw [show runCommand (.configSet record) u = configSetCommand record u from rfl]
      rcases configSetCommand_cases record u with hr | ⟨-, -, hr⟩
      · rw [hr.2]
        exact h
      · rw [hr]
        exact h
    | wearConfig counter source limit =>
      rw [show runCommand (.wearConfig counter source limit) u = wearConfigCommand counter source limit u from rfl]
      rcases wearConfigCommand_cases counter source limit u with hr | ⟨i, src, t, -, -, ht, hr⟩
      · rw [hr.2]
        exact h
      · rw [hr]
        subst ht
        dsimp only [okay]
        exact changeCounter_law h i fun c hc => configure_value src limit.toNat hc
    | wearLoad counter value =>
      rw [show runCommand (.wearLoad counter value) u = wearLoadCommand counter value u from rfl]
      rcases wearLoadCommand_cases counter value u with hr | ⟨i, t, -, ht, hr⟩
      · rw [hr.2]
        exact h
      · rw [hr]
        subst ht
        dsimp only [okay]
        exact changeCounter_law h i fun c _ => Nat.le_of_lt_succ value.isLt
    | wearReset counter =>
      rw [show runCommand (.wearReset counter) u = wearResetCommand counter u from rfl]
      rcases wearResetCommand_cases counter u with hr | ⟨i, t, -, ht, hr⟩
      · rw [hr.2]
        exact h
      · rw [hr]
        subst ht
        dsimp only [okay]
        exact changeCounter_law h i fun c _ => Nat.zero_le _
    | wearLevels t1 t2 t3 d1 d2 d3 => exact (wornSince_wearLevels t1 t2 t3 d1 d2 d3 (wornSince_refl h)).1
    | _ => exact absurd rfl hk

/-- The law of wear holds of a state exactly where the state has worn since itself. -/
theorem wearLaw_kept : Kept WearLaw where
  port _ _ h := h
  commit s c rest heng h := ((steady_wear s).events.commit s c rest heng (wornSince_refl h)).1
  contourPlan s job e hjob hk he h := ((steady_wear s).events.contourPlan s job e hjob hk he (wornSince_refl h)).1
  activeJob s job e hjob hk he h := ((steady_wear s).events.activeJob s job e hjob hk he (wornSince_refl h)).1
  frameStart s hx h := ((steady_wear s).events.frameStart s hx (wornSince_refl h)).1
  frameComplete s x frame hx h := ((steady_wear s).events.frameComplete s x frame hx (wornSince_refl h)).1
  cutShort s x hx h := ((steady_wear s).events.cutShort s x hx (wornSince_refl h)).1
  linkTimeout s h := ((steady_wear s).events.linkTimeout s (wornSince_refl h)).1
  waitExpiry s hw h := ((steady_wear s).events.waitExpiry s hw (wornSince_refl h)).1
  pierce s h := ((steady_wear s).events.pierce s (wornSince_refl h)).1
  sent s m rest hm h := ((steady_wear s).events.sent s m rest hm (wornSince_refl h)).1
  assembly s a h := ((steady_wear s).events.assembly s a (wornSince_refl h)).1
  status s r h := ((steady_wear s).events.status s r (wornSince_refl h)).1
  reportTimeout s h := ((steady_wear s).events.reportTimeout s (wornSince_refl h)).1
  unit s i h := ((steady_wear s).events.unit s i (wornSince_refl h)).1
  tick s h := ((steady_wear s).events.tick s (wornSince_refl h)).1
  line _ _ h := ⟨h, h⟩
  command c _ h := command_wearLaw c h
  powerOn _ _ := show WearLaw State.reset by unfold WearLaw; decide

/-- Settles O39: the law holds at every step, and values fall by the wear commands alone. -/
theorem wearLawKept : Obligations.WearLawKept := by
  intro c s t hstep hlaw
  refine ⟨wearLaw_kept.exec hstep hlaw, fun i hfall => ?_⟩
  by_contra hnone
  simp only [not_or, not_exists] at hnone
  obtain ⟨hreset, hwearReset, hload, hconfig, hbyte⟩ := hnone
  refine absurd hfall (Nat.not_lt.2 (((steady_wear s).events.exec hstep hreset (fun dma b => hbyte dma b) (fun u hu => ?_)
    (wornSince_refl hlaw)).2 i))
  by_cases hk : keepsTables c = true
  · exact (steady_wear s).command hk hu
  · cases c with
    | configSet record =>
      rw [show runCommand (.configSet record) u = configSetCommand record u from rfl]
      rcases configSetCommand_cases record u with hr | ⟨-, -, hr⟩
      · rw [hr.2]
        exact hu
      · rw [hr]
        exact hu
    | wearLevels t1 t2 t3 d1 d2 d3 => exact wornSince_wearLevels t1 t2 t3 d1 d2 d3 hu
    | wearConfig counter source limit => exact absurd rfl (hconfig counter source limit)
    | wearLoad counter value => exact absurd rfl (hload counter value)
    | wearReset counter => exact absurd rfl (hwearReset counter)
    | _ => exact absurd rfl hk

end Sys2Proof.Proofs

/-! PROOFS. The wear commands, the millisecond and the attention router (R175 to R180, R187, R188). -/

namespace Sys2Proof.Proofs

open Sys2Proof Sys2Proof.Machine

/-! ### The wear commands -/

theorem counterOfByte_eq {b : Byte} {i : Fin 4} (h : i.val = b.toNat) : counterOfByte b = some i := by
  have hlt : b.toNat < 4 := h ▸ i.isLt
  rw [counterOfByte, dif_pos hlt]
  exact congrArg some (Fin.ext h.symm)

theorem counterOfByte_eq_none {b : Byte} (h : 3 < b.toNat) : counterOfByte b = none := dif_neg (by omega)

theorem wearSource_eq_none {b : Byte} (h : 3 < b.toNat) : WearSource.ofByte b = none := by
  unfold WearSource.ofByte
  split_ifs with h0 h1 h2 h3
  · subst h0; exact absurd h (by decide)
  · subst h1; exact absurd h (by decide)
  · subst h2; exact absurd h (by decide)
  · subst h3; exact absurd h (by decide)
  · rfl

/-- A counter set, before it is judged. -/
def counterChanged (i : Fin 4) (c : Counter) (s : State) : State := s.setWear (s.wear.setCounter i c)

/-- A counter set and judged, in a change of its own. -/
def counterJudged (i : Fin 4) (c : Counter) (s : State) : State := (counterChanged i c s).judgeWear.settle

theorem changeCounter_eq (i : Fin 4) (f : Counter → Counter) (s : State) :
    changeCounter i f s = counterJudged i { f (s.wear.counter i) with due := false } s := rfl

theorem counterChanged_counter (i j : Fin 4) (c : Counter) (s : State) :
    (counterChanged i c s).wear.counter j = if j = i then c else s.wear.counter j := counter_setCounter ..

section
variable {s : State} (i : Fin 4) {c : Counter}

theorem counterJudged_frame (s : State) (c : Counter) : counterJudged i c s
    = ((s.setPort (counterJudged i c s).port).setWear (counterJudged i c s).wear).setAttention (counterJudged i c s).attention := by
  have hframe := settle_judgeWear_frame (counterChanged i c s)
  rw [show (counterChanged i c s).judgeWear.settle = counterJudged i c s from rfl] at hframe
  generalize counterJudged i c s = t at hframe ⊢
  generalize t.wear = w at hframe
  generalize t.attention = a at hframe
  subst hframe
  rfl

/-- A change after which the counter becomes due raises WEAR_SERVICE (R177). -/
theorem counterJudged_service (h : c.becomesDue = true) : pendingWhereRouted .wearService s (counterJudged i c s) := by
  have hraised := judgeWear_service (s := counterChanged i c s) (i := i) (by rw [counterChanged_counter, if_pos rfl]; exact h)
  have hbefore : Gathers s (counterChanged i c s) := .of_attention rfl
  exact pendingWhereRouted_gathers (gathers_pendingWhereRouted hbefore hraised) (Gathers.settle (.refl _))

/-- A change that brings a new level raises WEAR_LEVEL (R178). -/
theorem counterJudged_newLevel (h : (counterJudged i c s).wear.level ≠ s.wear.level) :
    pendingWhereRouted .wearLevel s (counterJudged i c s) := by
  have hsame : (counterChanged i c s).wear.level = s.wear.level := by
    unfold counterChanged
    fin_cases i <;> rfl
  have hraised := judgeWear_newLevel (s := counterChanged i c s) (fun heq => h (heq.trans hsame))
  have hbefore : Gathers s (counterChanged i c s) := .of_attention rfl
  exact pendingWhereRouted_gathers (gathers_pendingWhereRouted hbefore hraised) (Gathers.settle (.refl _))

/-- Only counter `i` has been set. -/
theorem counterSet_of_judged (hlaw : WearLaw s) (hdue : c.due = true → (s.wear.counter i).due = true) :
    CounterSet s (counterJudged i c s) i c.judge := by
  refine ⟨?_, fun j hj => ?_, ?_, judgeWear_level (counterChanged i c s), fun hd hnot => counterJudged_service i ?_,
    counterJudged_newLevel i, counterJudged_frame i s c⟩
  · rw [counterJudged, State.settle_wear, judgeWear_counter, counterChanged_counter, if_pos rfl]
  · exact judgeWear_counter_of_law (u := counterChanged i c s) hlaw (by rw [counterChanged_counter, if_neg hj])
  · rw [counterJudged, State.settle_wear, judgeWear_wear]
    unfold counterChanged
    fin_cases i <;> rfl
  · rw [judge_due, Bool.or_eq_true] at hd
    exact hd.resolve_right fun h => by rw [hdue h] at hnot; cases hnot

end

/-- A response held afterwards leaves the change as it was. -/
theorem counterSet_respond {s t : State} {i : Fin 4} {c : Counter} (h : CounterSet (atWork s) t i c) (r : Response) :
    CounterSet s (t.respond r) i c := by
  obtain ⟨hcounter, hothers, hlevels, hlevel, hdue, hnew, hframe⟩ := h
  refine ⟨hcounter, hothers, hlevels, hlevel, hdue, hnew, ?_⟩
  generalize t.port = p at hframe
  generalize t.wear = w at hframe
  generalize t.attention = a at hframe
  subst hframe
  rfl

/-- A wear command that sets a counter, from the port to its response. -/
theorem exec_changeCounter {s : State} {c : Instr} {i : Fin 4} {f : Counter → Counter} {after : Counter} (hopen : portOpen s)
    (hlaw : WearLaw s) (hcode : (encodeCommand c).isSome)
    (hrun : runCommand c (atWork s) = okay (counterPayload (changeCounter i f (atWork s)) i) (changeCounter i f (atWork s)))
    (hc : { f (s.wear.counter i) with due := false }.judge = after) :
    ∃ t, exec c s = .next t ∧ CounterSet s t i after ∧ (after.due = true → pendingWhereRouted .wearService s t)
      ∧ t.port.condition = .responding ⟨.ok, .counter after.value after.remainder after.due⟩ 0 := by
  have hset : CounterSet (atWork s) (changeCounter i f (atWork s)) i after := by
    rw [changeCounter_eq, ← hc]
    exact counterSet_of_judged i (s := atWork s) (c := { f (s.wear.counter i) with due := false }) hlaw (fun h => nomatch h)
  refine ⟨(changeCounter i f (atWork s)).respond ⟨.ok, counterPayload (changeCounter i f (atWork s)) i⟩, ?_,
    counterSet_respond hset _, fun hd => ?_, ?_⟩
  · rw [exec_of_command hcode, State.onJobPort_of_open hopen, hrun]
    rfl
  · rw [← hc, judge_due, Bool.or_false] at hd
    exact counterJudged_service i (s := atWork s) hd
  · rw [State.respond, State.setPort_port, counterPayload, hset.1]

theorem firstFailure_wearLevelsFault (t1 t2 t3 d1 d2 d3 : Nat) :
    firstFailure ([(12, ¬ (1 ≤ d1 ∧ d1 ≤ 256)), (14, ¬ (1 ≤ d2 ∧ d2 ≤ 256)), (16, ¬ (1 ≤ d3 ∧ d3 ≤ 256))]
        ++ [(4, t1 = 0 ∧ t2 ≠ 0), (8, (t1 = 0 ∨ t2 = 0) ∧ t3 ≠ 0), (4, t2 ≠ 0 ∧ t2 < t1), (8, t3 ≠ 0 ∧ t3 < t2),
          (14, d1 < d2), (16, d2 < d3)])
      (wearLevelsFault t1 t2 t3 d1 d2 d3) :=
  firstFailure_append (firstFailure_ranges [⟨12, d1, 1, 256⟩, ⟨14, d2, 1, 256⟩, ⟨16, d3, 1, 256⟩]) fun _ =>
    firstFailure_cons_if Iff.rfl <| firstFailure_cons_if Iff.rfl <| firstFailure_cons_if Iff.rfl <|
      firstFailure_cons_if Iff.rfl <| firstFailure_firstRise [(12, d1), (14, d2), (16, d3)]

theorem levelNow_eq (t1 t2 t3 : BitVec 32) (w : Wear) (h1 : w.t1 = t1.toNat) (h2 : w.t2 = t2.toNat) (h3 : w.t3 = t3.toNat) :
    w.levelNow = ([t1, t2, t3].filter fun x => x ≠ 0 ∧ x.toNat ≤ w.c0.value).length := by
  have hne : ∀ x : BitVec 32, x.toNat ≠ 0 ↔ x ≠ 0 := fun x => by
    rw [ne_eq, ne_eq, ← BitVec.toNat_inj]
    rfl
  have hone : ∀ x : BitVec 32, (if x.toNat ≠ 0 ∧ x.toNat ≤ w.c0.value then 1 else 0)
      = ([x].filter fun x => x ≠ 0 ∧ x.toNat ≤ w.c0.value).length := fun x => by
    simp only [hne, List.filter_cons, List.filter_nil, decide_eq_true_eq]
    split <;> rfl
  rw [Wear.levelNow, h1, h2, h3]
  dsimp only
  rw [hone, hone, hone, ← List.length_append, ← List.length_append, ← List.filter_append, ← List.filter_append]
  rfl

/-- Settles O37: the refusals and the acceptances of the four wear commands. -/
theorem wearCommandsSet : Obligations.WearCommandsSet := by
  intro counter source limit value t1 t2 t3 d1 d2 d3 s hopen hlaw
  have htable := firstFailure_wearLevelsFault t1.toNat t2.toNat t3.toNat d1.toNat d2.toNat d3.toNat
  have hzero : ∀ x : BitVec 32, x = 0 ↔ x.toNat = 0 := fun x => BitVec.toNat_inj.symm
  refine ⟨fun hrange => ⟨exec_answers rfl hopen ?_, exec_answers rfl hopen ?_, exec_answers rfl hopen ?_⟩,
    fun i c hi hc => ⟨fun hsource => exec_answers rfl hopen ?_, fun src c' hsrc hc' => ?_, fun c' hc' => ?_, ?_⟩,
    fun checks hchecks l c r heq hl hfails => exec_answers rfl hopen ?_, fun hd h12 h23 h12' h23' hd12 hd23 => ?_⟩
  · simp only [runCommand, wearConfigCommand, counterOfByte_eq_none hrange, badArg_eq]
  · simp only [runCommand, wearLoadCommand, counterOfByte_eq_none hrange, badArg_eq]
  · simp only [runCommand, wearResetCommand, counterOfByte_eq_none hrange, badArg_eq]
  · simp only [runCommand, wearConfigCommand, counterOfByte_eq hi, wearSource_eq_none hsource, badArg_eq]
  · refine exec_changeCounter (f := Counter.configure src limit.toNat) hopen hlaw rfl ?_ ?_
    · simp only [runCommand, wearConfigCommand, counterOfByte_eq hi, hsrc]
    · rw [hc', ← hc, judge_eq, Counter.configure]
      split
      · simp
      · simp
  · refine exec_changeCounter (f := fun c => { c with value := value.toNat, remainder := 0 }) hopen hlaw rfl ?_ ?_
    · simp only [runCommand, wearLoadCommand, counterOfByte_eq hi]
    · rw [hc', ← hc, judge_eq]
      simp
  · obtain ⟨t, hstep, hset, -, hport⟩ := exec_changeCounter (c := .wearReset counter) (i := i)
      (f := fun c => { c with value := 0, remainder := 0 }) (after := { c with value := 0, remainder := 0, due := false }) hopen hlaw rfl
      (by simp only [runCommand, wearResetCommand, counterOfByte_eq hi]) (by
        rw [← hc, judge_eq]
        simp)
    exact ⟨t, hstep, hset, hport⟩
  · have hfault : wearLevelsFault t1.toNat t2.toNat t3.toNat d1.toNat d2.toNat d3.toNat = some c.1 := by
      refine htable.2 l c r ?_ hl hfails
      rw [← heq, hchecks]
      simp only [hzero, ne_eq, List.cons_append, List.nil_append]
    simp only [runCommand, wearLevelsCommand, hfault, badArg_eq]
  · have hpass : wearLevelsFault t1.toNat t2.toNat t3.toNat d1.toNat d2.toNat d3.toNat = none := by
      simp only [hzero, ne_eq] at h12 h23 h12' h23'
      have h1 := hd d1 (by simp)
      have h2 := hd d2 (by simp)
      have h3 := hd d3 (by simp)
      rw [htable.1]
      simp only [List.cons_append, List.nil_append, List.forall_mem_cons]
      refine ⟨by omega, by omega, by omega, by omega, by omega, by omega, by omega, by omega, by omega, by simp⟩
    obtain ⟨w, hw⟩ : ∃ w : Wear, w = { s.wear with
        t1 := t1.toNat, t2 := t2.toNat, t3 := t3.toNat, d1 := d1.toNat, d2 := d2.toNat, d3 := d3.toNat } := ⟨_, rfl⟩
    have hnow : w.levelNow = ([t1, t2, t3].filter fun x => x ≠ 0 ∧ x.toNat ≤ s.wear.c0.value).length := by
      rw [hw]
      exact levelNow_eq t1 t2 t3 _ rfl rfl rfl
    have hrun : runCommand (.wearLevels t1 t2 t3 d1 d2 d3) (atWork s)
        = okay (.level (((atWork s).setWear w).judgeLevel.settle).wear.level) (((atWork s).setWear w).judgeLevel.settle) := by
      rw [hw]
      simp only [runCommand, wearLevelsCommand, hpass] <;> rfl
    have hwear : (((atWork s).setWear w).judgeLevel.settle).wear = { w with level := w.levelNow } := judgeLevel_wear _
    have hframe := judgeLevel_frame ((atWork s).setWear w)
    have hraised := judgeLevel_raises (s := (atWork s).setWear w)
    have hlevel : w.level = s.wear.level := by rw [hw]
    refine ⟨(((atWork s).setWear w).judgeLevel.settle).respond ⟨.ok, .level (((atWork s).setWear w).judgeLevel.settle).wear.level⟩, ?_, ?_,
      rfl, fun hne => ?_, ?_⟩
    · rw [exec_of_command rfl, State.onJobPort_of_open hopen, hrun]
      rfl
    · refine hwear.trans ?_
      rw [hnow, hw]
    · refine pendingWhereRouted_gathers (hraised fun heq => hne (heq.trans hlevel)) ?_
      exact (Gathers.settle (.refl _)).trans (.of_attention rfl)
    · generalize ((atWork s).setWear w).judgeLevel = x at hframe ⊢
      generalize x.wear = w' at hframe
      generalize x.attention = a at hframe
      subst hframe
      rfl

/-! ### The millisecond -/

theorem timeCounts_iff (s : State) (c : Counter) : timeCounts s.jsq c = true ↔ timeRuns s c := by
  unfold timeCounts timeRuns
  cases c.source <;> simp

theorem judge_millisecond (c : Counter) : c.millisecond.judge = afterMillisecond c := by
  rw [judge_eq, Counter.millisecond, afterMillisecond]
  by_cases h : c.remainder + 1 < 100
  · rw [if_neg (by omega)]
    simp only [h, if_true]
  · rw [if_pos (by omega)]
    simp only [h, if_false] <;> rfl

theorem millisecond_due (c : Counter) : c.millisecond.due = c.due := by
  unfold Counter.millisecond
  split <;> rfl

theorem tick_due (jsq : Sequencer) (c : Counter) : (c.tick jsq).due = c.due := by
  unfold Counter.tick
  split
  · exact millisecond_due c
  · rfl

/-- The millisecond's counts, before they are judged. -/
def ticked (s : State) : State := (timersTick s).setWear (s.wear.mapCounters (Counter.tick s.jsq))

theorem exec_millisecondTick (s : State) : exec .millisecondTick s = .next (ticked s).judgeWear.settle := rfl

theorem ticked_counter (s : State) (i : Fin 4) : (ticked s).wear.counter i = (s.wear.counter i).tick s.jsq :=
  counter_mapCounters ..

theorem quiet_congr {s t : State} (h : Quiet s) (ht : t.attention = s.attention) : Quiet t := by
  rw [Quiet, ht]
  exact h

theorem ticked_attention (s : State) : (ticked s).attention = s.attention := rfl

theorem gathers_ticked (s : State) : Gathers s (ticked s) := .of_attention (ticked_attention s)

/-- Settles O38: each counter is counted and judged, and the timers run. -/
theorem timeCounts : Obligations.TimeCounts := by
  refine fun s hlaw => ⟨⟨_, exec_millisecondTick s, fun i => ⟨fun hruns => ?_, fun hstill => ?_⟩, judgeWear_level (ticked s),
    fun i hdue hnot => ?_, fun hlevel => ?_, fun hquiet hdues hlevel => ?_, ?_, ?_, ?_, ?_⟩,
    fun i => ⟨fun hruns hremainder => ⟨counterJudged i (s.wear.counter i).millisecond s, ?_, ?_⟩, fun hnot => ?_⟩⟩
  · rw [State.settle_wear, judgeWear_counter, ticked_counter, Counter.tick, if_pos ((timeCounts_iff s _).2 hruns),
      judge_millisecond]
  · rw [State.settle_wear, judgeWear_counter, ticked_counter, Counter.tick, if_neg (fun h => hstill ((timeCounts_iff s _).1 h)),
      judge_of_not_due (not_due_of_law hlaw i)]
  · rw [State.settle_wear, judgeWear_counter, judge_due, ticked_counter, tick_due, hnot, Bool.or_false] at hdue
    exact pendingWhereRouted_gathers (gathers_pendingWhereRouted (gathers_ticked s)
      (judgeWear_service (i := i) (by rw [ticked_counter]; exact hdue))) (Gathers.settle (.refl _))
  · exact pendingWhereRouted_gathers (gathers_pendingWhereRouted (gathers_ticked s)
      (judgeWear_newLevel (s := ticked s) hlevel)) (Gathers.settle (.refl _))
  · have hstill : (ticked s).wear.anyDue = false := by
      rw [anyDue_eq_false]
      intro i
      have hsame := hdues i
      rw [State.settle_wear, judgeWear_counter, judge_due, ticked_counter, tick_due] at hsame
      rw [ticked_counter]
      cases hbecomes : ((s.wear.counter i).tick s.jsq).becomesDue with
      | false => rfl
      | true =>
        rw [hbecomes, Bool.true_or] at hsame
        simp [Counter.becomesDue, tick_due, ← hsame] at hbecomes
    have hsame : (ticked s).wear.levelNow = (ticked s).wear.level := by
      refine Eq.trans ?_ hlevel
      rw [State.settle_wear, judgeWear_wear]
    have hunchanged : ((ticked s).setWear ((ticked s).wear.mapCounters Counter.judge)).attention = s.attention :=
      (State.setWear_attention ..).trans (ticked_attention s)
    rw [judgeWear_still hstill hsame, State.settle_of_quiet (quiet_congr hquiet hunchanged), hunchanged]
  · rw [settle_judgeWear_frame]
    rfl
  · rw [settle_judgeWear_frame]
    rfl
  · rw [settle_judgeWear_frame]
    rfl
  · have hframe := settle_judgeWear_frame (ticked s)
    generalize (ticked s).judgeWear.settle = t at hframe ⊢
    generalize t.wear = w at hframe
    generalize t.attention = a at hframe
    subst hframe
    rfl
  · have hexec : exec (.wearTimeUnit i) s = execWearTimeUnit i s := rfl
    rw [hexec, execWearTimeUnit]
    rw [if_pos ⟨(timeCounts_iff s _).2 hruns, hremainder⟩]
    rfl
  · rw [← judge_millisecond]
    refine counterSet_of_judged i hlaw fun h => ?_
    rwa [millisecond_due] at h
  · have hexec : exec (.wearTimeUnit i) s = execWearTimeUnit i s := rfl
    rw [hexec, execWearTimeUnit]
    rw [if_neg fun h => hnot ⟨(timeCounts_iff s _).1 h.1, h.2⟩]

end Sys2Proof.Proofs

/-! PROOFS. The attention router: routes, acknowledgements, raises and pulses (R187, R188); and what every command answers. -/

namespace Sys2Proof.Proofs

open Sys2Proof Sys2Proof.Machine

/-! ### Lines -/

/-- A pulse at its end: an owed further pulse waits in the gap. -/
def pulseDone : Pulse → Pulse
  | .high true => .gap
  | .high false => .idle
  | .gap => .gap
  | .idle => .idle

/-- A pulse at the end of the gap: the owed further pulse begins. -/
def pulseStarted : Pulse → Pulse
  | .gap => .high false
  | p => p

theorem pulseEnd_eq (l : Line) : l.pulseEnd = { l with pulse := pulseDone l.pulse } := by
  obtain ⟨route, mode, pending, pulse, fresh⟩ := l
  rcases pulse with _ | ⟨_ | _⟩ | _ <;> rfl

theorem gapEnd_eq (l : Line) : l.gapEnd = { l with pulse := pulseStarted l.pulse } := by
  obtain ⟨route, mode, pending, pulse, fresh⟩ := l
  rcases pulse with _ | ⟨_ | _⟩ | _ <;> rfl

theorem pulseStarted_of_not_gap {p : Pulse} (h : p ≠ .gap) : pulseStarted p = p := by
  cases p with
  | gap => exact absurd rfl h
  | idle => rfl
  | high owed => rfl

/-- A source raised on one line in a change of its own. -/
theorem settle_raise {bit : Mask} {l : Line} (hl : l.fresh = false) :
    (l.route &&& bit = 0 ∨ l.pending &&& bit ≠ 0 → (l.raise bit).settle = l)
      ∧ (l.route &&& bit ≠ 0 → l.pending &&& bit = 0 → (l.raise bit).settle = { l with
        pending := l.pending ||| bit
        pulse := if l.mode = .level then l.pulse else
          match l.pulse with
          | .idle => .high false
          | .high _ => .high true
          | .gap => .gap }) := by
  refine ⟨fun h => ?_, fun hroute hpending => ?_⟩
  · rw [Line.raise, if_pos h, State.settle_line hl]
  · rw [Line.raise, if_neg (not_or.2 ⟨hroute, not_not_intro hpending⟩)]
    obtain ⟨route, mode, pending, pulse, fresh⟩ := l
    obtain rfl : fresh = false := hl
    cases mode <;> rfl

theorem lineMode_ofByte_none {b : Byte} (h : 1 < b.toNat) : LineMode.ofByte b = none := by
  unfold LineMode.ofByte
  split_ifs with h0 h1
  · subst h0; exact absurd h (by decide)
  · subst h1; exact absurd h (by decide)
  · rfl

theorem lineMode_ofByte_some {b : Byte} (h : b.toNat ≤ 1) : ∃ m, LineMode.ofByte b = some m := by
  unfold LineMode.ofByte
  split_ifs with h0 h1
  · exact ⟨_, rfl⟩
  · exact ⟨_, rfl⟩
  · exfalso
    bv_omega

/-- Settles O40: each row of the router on its own lines, and a raise in a change of its own. -/
theorem attentionRouterActs : Obligations.AttentionRouterActs := by
  refine ⟨fun jatnRoute matnRoute mask jatnMode matnMode s => ⟨fun hopen => ⟨fun hj => exec_answers rfl hopen ?_,
    fun hj hm => exec_answers rfl hopen ?_, fun j m hj hm => ?_, ?_⟩, pulseDone, pulseStarted, rfl, rfl, rfl, rfl, rfl,
    fun p hp => pulseStarted_of_not_gap hp, ?_⟩, fun src s line l l' hquiet hl hl' => ?_, fun s l => ⟨fun hmode => ?_, fun hmode => ?_,
    rfl, rfl⟩⟩
  · simp only [runCommand, routeSetCommand, lineMode_ofByte_none hj, badArg_eq]
  · obtain ⟨j, hj⟩ := lineMode_ofByte_some hj
    simp only [runCommand, routeSetCommand, hj, lineMode_ofByte_none hm, badArg_eq]
  · refine ⟨⟨s.attention.jatn.reroute jatnRoute j, s.attention.matn.reroute matnRoute m⟩, ?_, rfl, rfl⟩
    have hrun : runCommand (.routeSet jatnRoute matnRoute jatnMode matnMode) (atWork s) = okay .empty ((atWork s).setAttention
        ⟨s.attention.jatn.reroute jatnRoute j, s.attention.matn.reroute matnRoute m⟩) := by
      simp only [runCommand, routeSetCommand, hj, hm] <;> rfl
    rw [exec_of_command rfl, State.onJobPort_of_open hopen, hrun]
    rfl
  · rw [exec_of_command rfl, State.onJobPort_of_open hopen]
    rfl
  · rintro a rfl
    refine ⟨?_, ?_, ?_, ?_⟩ <;> simp only [← pulseEnd_eq, ← gapEnd_eq] <;> rfl
  · cases line with
    | jatn =>
      obtain rfl : l = s.attention.jatn := hl
      obtain rfl : l' = (s.attention.jatn.raise src.bit).settle := hl'
      exact ⟨(settle_raise hquiet.1).1, (settle_raise hquiet.1).2, rfl⟩
    | matn =>
      obtain rfl : l = s.attention.matn := hl
      obtain rfl : l' = (s.attention.matn.raise src.bit).settle := hl'
      exact ⟨(settle_raise hquiet.2).1, (settle_raise hquiet.2).2, rfl⟩
  · simp [Line.asserted, hmode]
  · cases hp : l.pulse <;> simp [Line.asserted, hmode, hp]

/-! ### What every command answers -/

/-- No step faults and none is refused. -/
theorem exec_total (c : Instr) (s : State) : ∃ t, exec c s = .next t := by
  cases c <;> exact ⟨_, rfl⟩

/-- No operation touches the waiting commands. -/
theorem steady_pending (P : List Instr → Prop) : SteadyThroughout (fun u => P u.pending) where
  setQueue _ h := h
  setStore _ h := h
  setFreePages _ h := h
  setEngine _ h := h
  setFinished _ h := h
  setPlanner _ h := h
  setJsq _ h := h
  setStream _ _ h := h
  setMotion _ _ h := h
  endActive h := h
  setPump _ h := h
  raise _ h := h
  settle h := h
  countWear _ _ h := by rw [State.countWear, judgeWear_frame]; exact h
  setPort _ h := h
  setBuffer name _ h := by cases name <;> exact h
  setMaterials _ h := h
  setAttention _ h := h
  clearWork h := h
  putStream _ h := h
  putMotion _ h := h
  unit _ h := by rw [judgeWear_frame]; exact h

/-- A change of the configuration, the wear block and the pending sets alone. -/
def TablesOnly (u t : State) : Prop := ∃ config wear attention, t = ((u.setConfig config).setWear wear).setAttention attention

theorem tablesOnly_refl (u : State) : TablesOnly u u := ⟨u.config, u.wear, u.attention, rfl⟩

theorem tablesOnly_refused {r : Reply} {u : State} (hr : Refused r u) : TablesOnly u r.2 := by
  rw [hr.2]
  exact tablesOnly_refl u

theorem tablesOnly_judgeWear (u : State) (w : Wear) : TablesOnly u (u.setWear w).judgeWear.settle :=
  ⟨u.config, _, _, by rw [judgeWear_frame]; rfl⟩

theorem tablesOnly_judgeLevel (u : State) (w : Wear) : TablesOnly u (u.setWear w).judgeLevel.settle :=
  ⟨u.config, _, _, by rw [judgeLevel_frame]; rfl⟩

/-- The commands that set the configuration or the wear block. -/
theorem command_tables {c : Instr} (hc : keepsTables c = false) (u : State) : TablesOnly u (runCommand c u).2 := by
  cases c with
  | configSet record =>
    rw [show runCommand (.configSet record) u = configSetCommand record u from rfl]
    rcases configSetCommand_cases record u with hr | ⟨-, -, hr⟩
    · exact tablesOnly_refused hr
    · rw [hr]
      exact ⟨record, u.wear, u.attention, rfl⟩
  | wearConfig counter source limit =>
    rw [show runCommand (.wearConfig counter source limit) u = wearConfigCommand counter source limit u from rfl]
    rcases wearConfigCommand_cases counter source limit u with hr | ⟨i, src, t, -, -, ht, hr⟩
    · exact tablesOnly_refused hr
    · rw [hr]
      exact ht ▸ tablesOnly_judgeWear u _
  | wearLoad counter value =>
    rw [show runCommand (.wearLoad counter value) u = wearLoadCommand counter value u from rfl]
    rcases wearLoadCommand_cases counter value u with hr | ⟨i, t, -, ht, hr⟩
    · exact tablesOnly_refused hr
    · rw [hr]
      exact ht ▸ tablesOnly_judgeWear u _
  | wearReset counter =>
    rw [show runCommand (.wearReset counter) u = wearResetCommand counter u from rfl]
    rcases wearResetCommand_cases counter u with hr | ⟨i, t, -, ht, hr⟩
    · exact tablesOnly_refused hr
    · rw [hr]
      exact ht ▸ tablesOnly_judgeWear u _
  | wearLevels t1 t2 t3 d1 d2 d3 =>
    rw [show runCommand (.wearLevels t1 t2 t3 d1 d2 d3) u = wearLevelsCommand t1 t2 t3 d1 d2 d3 u from rfl]
    rcases wearLevelsCommand_cases t1 t2 t3 d1 d2 d3 u with hr | ⟨t, -, ht, hr⟩
    · exact tablesOnly_refused hr
    · rw [hr]
      exact ht ▸ tablesOnly_judgeLevel u _
  | _ => exact Bool.noConfusion hc

/-- Every command keeps the waiting commands. -/
theorem command_pending (c : Instr) (u : State) : (runCommand c u).2.pending = u.pending := by
  by_cases hk : keepsTables c = true
  · exact (steady_pending (· = u.pending)).command hk rfl
  · obtain ⟨config, wear, attention, ht⟩ := command_tables (Bool.eq_false_iff.2 hk) u
    rw [ht]
    rfl

theorem pending_kept (list : List Instr) : Kept (fun u => u.pending = list) where
  toKeptByEvents := (steady_pending (· = list)).events
  command c u h := (command_pending c u).trans h
  powerOn _ h := h

/-- Choosing a record raises nothing. -/
theorem chooseRecord_attention (s : State) : (chooseRecord s).attention = s.attention := by
  unfold chooseRecord
  split
  · rfl
  · split
    · rfl
    · split
      · unfold placeSeg
        split
        · rfl
        · rw [State.holdAtDue_attention]
          rfl
      · rfl

theorem quiet_pierceExpires {s : State} (h : Quiet s) : Quiet s.pierceExpires := by
  rcases State.pierceExpires_cases s with hc | ⟨e, -, -, -, hc⟩ <;> rw [hc]
  · exact h
  · exact State.settle_quiet _

theorem quiet_pierceAtOnce {s : State} (old : State) (h : Quiet s) : Quiet (s.pierceAtOnce old) := by
  unfold State.pierceAtOnce
  split
  · exact quiet_pierceExpires h
  · exact h

/-- Every command ends its change where it makes one: either it raises nothing, or it settles the lines. -/
theorem command_quiet (c : Instr) {u : State} (h : Quiet u) : Quiet (runCommand c u).2 := by
  cases c with
  | bufClear buffer =>
    rw [show runCommand (.bufClear buffer) u = bufClearCommand buffer u from rfl]
    rcases bufClearCommand_cases buffer u with hr | ⟨_, -, -, hr⟩
    · rwa [hr.2]
    · exact hr ▸ quiet_congr h (by simp [okay])
  | bufWrite buffer startSlot records =>
    rw [show runCommand (.bufWrite buffer startSlot records) u = bufWriteCommand buffer startSlot records u from rfl]
    rcases bufWriteCommand_cases buffer startSlot records u with hr | ⟨_, _, -, -, -, hr⟩
    · rwa [hr.2]
    · exact hr ▸ quiet_congr h (by simp [okay])
  | bufRead buffer slot => exact quiet_congr h (congrArg State.attention (bufReadCommand_snd ..))
  | commitStatus buffer => exact quiet_congr h (congrArg State.attention (commitStatusCommand_snd ..))
  | contourOpen id tag material quality passes pierceMode closed startX startY beforeId =>
    rw [show runCommand (.contourOpen id tag material quality passes pierceMode closed startX startY beforeId) u
      = contourOpenCommand id tag material quality passes pierceMode closed startX startY beforeId u from rfl]
    rcases contourOpenCommand_cases id tag material quality passes pierceMode closed startX startY beforeId u with
      hr | ⟨e, _, -, -, -, -, -, rfl, hr⟩
    · rwa [hr.2]
    · exact hr ▸ State.settle_quiet _
  | contourAppend buffer id =>
    rw [show runCommand (.contourAppend buffer id) u = contourAppendCommand buffer id u from rfl]
    rcases contourAppendCommand_cases buffer id u with hr | ⟨_, _, _, page, rest, -, -, -, -, -, -, -, hr⟩
    · rwa [hr.2]
    · exact hr ▸ quiet_congr h (by simp [acceptCommit, okay])
  | contourReplace buffer id position =>
    rw [show runCommand (.contourReplace buffer id position) u = contourReplaceCommand buffer id position u from rfl]
    rcases contourReplaceCommand_cases buffer id position u with hr | ⟨_, _, _, page, -, -, -, -, -, -, hr⟩
    · rwa [hr.2]
    · exact hr ▸ quiet_congr h (by simp [acceptCommit, okay])
  | contourClose id =>
    rw [show runCommand (.contourClose id) u = contourCloseCommand id u from rfl]
    rcases contourCloseCommand_cases id u with hr | ⟨_, -, -, -, -, hr⟩
    · rwa [hr.2]
    · exact hr ▸ quiet_congr h (by simp [okay])
  | contourDelete id =>
    rw [show runCommand (.contourDelete id) u = contourDeleteCommand id u from rfl]
    rcases contourDeleteCommand_cases id u with hr | ⟨e, -, -, hr⟩
    · rwa [hr.2]
    · exact hr ▸ State.settle_quiet _
  | contourMove id beforeId =>
    rw [show runCommand (.contourMove id beforeId) u = contourMoveCommand id beforeId u from rfl]
    rcases contourMoveCommand_cases id beforeId u with hr | ⟨e, -, -, -, ⟨-, hr⟩ | ⟨_, -, rfl, hr⟩⟩
    · rwa [hr.2]
    · rwa [hr]
    · exact hr ▸ State.settle_quiet _
  | contourQuery id => exact quiet_congr h (congrArg State.attention (contourQueryCommand_snd ..))
  | filterSkip base mask => exact State.settle_quiet _
  | hold =>
    rw [show runCommand .hold u = holdCommand u from rfl]
    rcases holdCommand_cases u with hr | ⟨t, -, hr⟩
    · rwa [hr.2]
    · exact hr ▸ State.settle_quiet _
  | resume =>
    rw [show runCommand .resume u = resumeCommand u from rfl]
    rcases resumeCommand_cases u with hr | ⟨-, hr⟩
    · rwa [hr.2]
    · exact hr ▸ State.settle_quiet _
  | skip =>
    rw [show runCommand .skip u = skipCommand u from rfl]
    rcases skipCommand_cases u with hr | ⟨t, -, hr⟩
    · rwa [hr.2]
    · exact hr ▸ State.settle_quiet _
  | finishedRead n =>
    rw [show runCommand (.finishedRead n) u = finishedReadCommand n u from rfl]
    rcases finishedReadCommand_cases n u with hr | hr
    · rwa [hr.2]
    · exact hr ▸ h
  | matWrite index record =>
    rw [show runCommand (.matWrite index record) u = matWriteCommand index record u from rfl]
    rcases matWriteCommand_cases index record u with hr | ⟨i, -, -, -, hr⟩
    · rwa [hr.2]
    · exact hr ▸ quiet_congr h (by rw [okay, writeMaterial_frame]; rfl)
  | matRead index => exact quiet_congr h (congrArg State.attention (matReadCommand_snd ..))
  | matInvalidate index =>
    rw [show runCommand (.matInvalidate index) u = matInvalidateCommand index u from rfl]
    rcases matInvalidateCommand_cases index u with hr | ⟨i, -, -, hr⟩
    · rwa [hr.2]
    · exact hr ▸ h
  | configSet record =>
    rw [show runCommand (.configSet record) u = configSetCommand record u from rfl]
    rcases configSetCommand_cases record u with hr | ⟨-, -, hr⟩
    · rwa [hr.2]
    · exact hr ▸ h
  | wearConfig counter source limit =>
    rw [show runCommand (.wearConfig counter source limit) u = wearConfigCommand counter source limit u from rfl]
    rcases wearConfigCommand_cases counter source limit u with hr | ⟨i, src, t, -, -, ht, hr⟩
    · rwa [hr.2]
    · rw [hr, ht]
      exact State.settle_quiet _
  | wearLoad counter value =>
    rw [show runCommand (.wearLoad counter value) u = wearLoadCommand counter value u from rfl]
    rcases wearLoadCommand_cases counter value u with hr | ⟨i, t, -, ht, hr⟩
    · rwa [hr.2]
    · rw [hr, ht]
      exact State.settle_quiet _
  | wearReset counter =>
    rw [show runCommand (.wearReset counter) u = wearResetCommand counter u from rfl]
    rcases wearResetCommand_cases counter u with hr | ⟨i, t, -, ht, hr⟩
    · rwa [hr.2]
    · rw [hr, ht]
      exact State.settle_quiet _
  | wearLevels t1 t2 t3 d1 d2 d3 =>
    rw [show runCommand (.wearLevels t1 t2 t3 d1 d2 d3) u = wearLevelsCommand t1 t2 t3 d1 d2 d3 u from rfl]
    rcases wearLevelsCommand_cases t1 t2 t3 d1 d2 d3 u with hr | ⟨t, -, ht, hr⟩
    · rwa [hr.2]
    · rw [hr, ht]
      exact State.settle_quiet _
  | routeSet jatnRoute matnRoute jatnMode matnMode =>
    rw [show runCommand (.routeSet jatnRoute matnRoute jatnMode matnMode) u
      = routeSetCommand jatnRoute matnRoute jatnMode matnMode u from rfl]
    rcases routeSetCommand_cases jatnRoute matnRoute jatnMode matnMode u with hr | ⟨_, _, -, -, hr⟩
    · rwa [hr.2]
    · exact hr ▸ h
  | eventsAck mask => exact h
  | jobReset =>
    rw [show runCommand .jobReset u = jobResetCommand u from rfl, jobResetCommand_eq]
    refine quiet_congr (s := clearWork u) h (by simp [okay])
  | _ => exact h

/-- Between changes no line carries an unfinished mark (R188). -/
theorem quiet_kept : Kept Quiet where
  port _ _ h := h
  commit _ _ _ _ _ := State.settle_quiet _
  contourPlan _ job e _ _ _ _ := by rw [completeContourPlan_eq]; exact State.settle_quiet _
  activeJob _ job e _ _ _ _ := by rw [completeActiveJob_eq]; exact State.settle_quiet _
  frameStart s _ h := quiet_congr h (chooseRecord_attention s)
  frameComplete _ _ _ _ _ := quiet_pierceAtOnce _ (State.settle_quiet _)
  cutShort _ _ _ h := by split <;> exact h
  linkTimeout _ _ := State.settle_quiet _
  waitExpiry _ _ _ := State.settle_quiet _
  pierce _ h := quiet_pierceExpires h
  sent _ _ _ _ h := by
    unfold closeTransmitted
    split
    · split <;> exact h
    · exact h
  assembly _ _ h := h
  status _ _ _ := quiet_pierceAtOnce _ (State.settle_quiet _)
  reportTimeout _ _ := State.settle_quiet _
  unit _ _ _ := State.settle_quiet _
  tick _ _ := State.settle_quiet _
  line s name h := by
    have hend : ∀ l : Line, l.pulseEnd.fresh = l.fresh := fun l => by rw [pulseEnd_eq]
    have hgap : ∀ l : Line, l.gapEnd.fresh = l.fresh := fun l => by rw [gapEnd_eq]
    cases name <;>
      exact ⟨⟨by simpa [Attention.onLine, hend] using h.1, by simpa [Attention.onLine, hend] using h.2⟩,
        ⟨by simpa [Attention.onLine, hgap] using h.1, by simpa [Attention.onLine, hgap] using h.2⟩⟩
  command c _ h := command_quiet c h
  powerOn _ _ := ⟨rfl, rfl⟩

/-- Settles O2: no step is refused, the waiting commands are kept, and every change has given its pulse. -/
theorem everyCommandAnswers : Obligations.EveryCommandAnswers := by
  intro c s
  obtain ⟨t, hstep⟩ := exec_total c s
  exact ⟨t, hstep, (pending_kept s.pending).exec hstep rfl, quiet_kept.exec hstep⟩

end Sys2Proof.Proofs

/-! PROOFS. What leaves the part and what arrives: the bytes of frames and messages (R134, R137, R191), and the transmit list
of the pump link (R167). -/

namespace Sys2Proof.Proofs

open Sys2Proof Sys2Proof.Machine

/-! ### Check bytes -/

theorem byteSum_append (a b : List Byte) : byteSum (a ++ b) = byteSum a + byteSum b := by
  induction a with
  | nil => exact (BitVec.zero_add _).symm
  | cons x rest ih =>
    calc x + byteSum (rest ++ b) = x + (byteSum rest + byteSum b) := by rw [ih]
      _ = x + byteSum rest + byteSum b := (BitVec.add_assoc _ _ _).symm

theorem byteSum_withCheck (bytes : List Byte) : byteSum (withCheck bytes) = 0 := by
  have hcheck : byteSum [-(byteSum bytes)] = -(byteSum bytes) := BitVec.add_zero _
  rw [withCheck, byteSum_append, hcheck, ← BitVec.sub_eq_add_neg, BitVec.sub_self]
  rfl

theorem length_withCheck (bytes : List Byte) : (withCheck bytes).length = bytes.length + 1 := by
  rw [withCheck, List.length_append, List.length_singleton]

/-- The check byte stands behind the bytes it is the check of. -/
theorem take_withCheck {bytes : List Byte} {n : Nat} (h : bytes.length = n) : (withCheck bytes).take n = bytes := by
  rw [withCheck, ← h, List.take_left]

theorem length_fieldBytes_control (c : Control) : c.fieldBytes.length = 24 := by
  cases c <;> rfl

theorem length_fieldBytes_seg (r : SegOut) : r.fieldBytes.length = 24 := rfl

/-- Bytes 0 to 26 of a frame. -/
def Placed.content (p : Placed) : List Byte :=
  match p.body with
  | .empty pendingSet => [0, 0, 0] ++ split2 pendingSet ++ zeros 22
  | .control c => c.kindCode :: (split2 (p.serial.getD 0) ++ c.fieldBytes)
  | .seg r => 3 :: (split2 (p.serial.getD 0) ++ r.fieldBytes)

theorem frame_eq (p : Placed) : p.frame = withCheck (Placed.content p) := by
  obtain ⟨serial, body⟩ := p
  cases body <;> rfl

theorem length_content (p : Placed) : (Placed.content p).length = 27 := by
  obtain ⟨serial, body⟩ := p
  cases body with
  | empty pendingSet => rfl
  | control c => simp [Placed.content, split2, length_fieldBytes_control]
  | seg r => simp [Placed.content, split2, length_fieldBytes_seg]

theorem frame_take (p : Placed) : p.frame.take 27 = Placed.content p := by
  rw [frame_eq, take_withCheck (length_content p)]

/-! ### Flags and kinds -/

theorem flags_eq (r : SegOut) : r.flags.getLsbD 0 = r.jet ∧ r.flags.getLsbD 1 = r.overspeed
    ∧ r.flags.getLsbD 2 = r.lastOfPass ∧ r.flags.getLsbD 3 = r.radius.isSome ∧ r.flags.toNat < 16 := by
  unfold SegOut.flags
  generalize r.jet = jet
  generalize r.overspeed = overspeed
  generalize r.lastOfPass = lastOfPass
  generalize r.radius.isSome = radius
  revert jet overspeed lastOfPass radius
  decide

theorem messageBytes_length (m : PumpMessage) : m.bytes.length = 6 := by
  rcases m with p | (_ | _) | rate <;> rfl

theorem messageBytes_sum (m : PumpMessage) : byteSum m.bytes = 0 := by
  rcases m with p | (_ | _) | rate <;> exact byteSum_withCheck _

theorem toNat_join2 (b0 b1 : Byte) : (join2 b0 b1).toNat = b0.toNat + 256 * b1.toNat := by
  rw [join2, BitVec.toNat_append, ← Nat.shiftLeft_add_eq_or_of_lt b0.isLt, Nat.shiftLeft_eq]
  omega

/-! ### What is received -/

/-- The kinds of R146 with their reports: a report kind is one of the table or the frame is not accepted. -/
theorem ofBytes_eq_some (kind : Byte) (field : BitVec 16) (r : Report) :
    Report.ofBytes kind field = some r ↔ (kind, r) ∈ [((0 : Byte), Report.nothing), (1, .segDone field), (2, .arrived field),
      (3, .stopped field), (4, .holdReq), (5, .resumeReq), (6, .skipReq), (7, .motionFault), (8, .starvedStop field),
      (9, .linkError), (10, .eventAck field)] := by
  constructor
  · intro h
    unfold Report.ofBytes at h
    split at h
    case h_12 => exact absurd h (by simp)
    all_goals
      next hkind =>
        obtain rfl := Option.some.inj h
        have hk : kind = BitVec.ofNat 8 kind.toNat := (BitVec.ofNat_toNat 8 kind).trans (BitVec.setWidth_eq kind) |>.symm
        rw [hkind] at hk
        subst hk
        simp
  · intro h
    simp only [List.mem_cons, Prod.mk.injEq, List.not_mem_nil, or_false] at h
    rcases h with ⟨rfl, rfl⟩ | ⟨rfl, rfl⟩ | ⟨rfl, rfl⟩ | ⟨rfl, rfl⟩ | ⟨rfl, rfl⟩ | ⟨rfl, rfl⟩ | ⟨rfl, rfl⟩ | ⟨rfl, rfl⟩
      | ⟨rfl, rfl⟩ | ⟨rfl, rfl⟩ | ⟨rfl, rfl⟩ <;> rfl

theorem flow_ofCode (n : Nat) (f : Flow) :
    Flow.ofCode n = some f ↔ (n, f) ∈ [(0, Flow.ok), (1, .low), (2, .noFlow)] := by
  unfold Flow.ofCode
  split <;> simp_all [eq_comm]

theorem decodeFrame_iff (frame : Vector Byte 28) (raw : Byte) (r : Report) (field : BitVec 16)
    (hfield : field.toNat = frame[2].toNat + 256 * frame[3].toNat) :
    decodeFrame frame = some (raw, r) ↔ byteSum frame.toList = 0 ∧ raw = frame[1]
      ∧ (frame[0], r) ∈ [((0 : Byte), Report.nothing), (1, .segDone field), (2, .arrived field), (3, .stopped field),
        (4, .holdReq), (5, .resumeReq), (6, .skipReq), (7, .motionFault), (8, .starvedStop field), (9, .linkError),
        (10, .eventAck field)] := by
  have hjoin : join2 frame[2] frame[3] = field := BitVec.eq_of_toNat_eq (by rw [toNat_join2, hfield])
  rw [← ofBytes_eq_some, decodeFrame, hjoin]
  by_cases hsum : byteSum frame.toList = 0
  · rw [if_pos hsum, Option.map_eq_some_iff]
    constructor
    · rintro ⟨r', hr', heq⟩
      obtain ⟨rfl, rfl⟩ := Prod.mk.inj heq
      exact ⟨hsum, rfl, hr'⟩
    · rintro ⟨-, rfl, hr⟩
      exact ⟨r, hr, rfl⟩
  · rw [if_neg hsum]
    exact iff_of_false (by simp) fun h => hsum h.1

theorem decodeStatus_iff (message : Vector Byte 6) (r : PumpReport) :
    decodeStatus message.toList = some r ↔
      message[0] = 0xA5 ∧ message[1] = 16 ∧ byteSum message.toList = 0
        ∧ r.pressure = message[2].toNat + 256 * message[3].toNat ∧ r.pressure ≤ 600
        ∧ r.code = message[4].toNat % 8 ∧ r.code ≤ 4
        ∧ (message[4].toNat / 16 % 4, r.flow) ∈ [(0, Flow.ok), (1, .low), (2, .noFlow)] := by
  have hlist : message.toList = [message[0], message[1], message[2], message[3], message[4], message[5]] := by
    apply List.ext_getElem
    · simp
    · intro i h1 h2
      have hi : i < 6 := h2
      interval_cases i <;> rfl
  have hdecode : decodeStatus message.toList
      = if message[0] = leadByte ∧ byteSum message.toList = 0 ∧ message[1] = 16
          ∧ (join2 message[2] message[3]).toNat ≤ 600 ∧ message[4].toNat % 8 ≤ 4 then
        (Flow.ofCode (message[4].toNat / 16 % 4)).map fun flow =>
          ⟨(join2 message[2] message[3]).toNat, message[4].toNat % 8, flow⟩
      else none := by
    rw [hlist]
    rfl
  rw [hdecode, ← flow_ofCode, toNat_join2]
  obtain ⟨pressure, code, flow⟩ := r
  split_ifs with h
  · obtain ⟨hlead, hsum, hkind, hpressure, hcode⟩ := h
    rw [Option.map_eq_some_iff]
    constructor
    · rintro ⟨f, hf, heq⟩
      obtain ⟨rfl, rfl, rfl⟩ := PumpReport.mk.inj heq
      exact ⟨hlead, hkind, hsum, rfl, hpressure, rfl, hcode, hf⟩
    · rintro ⟨-, -, -, rfl, -, rfl, -, hflow⟩
      exact ⟨flow, hflow, rfl⟩
  · refine iff_of_false (by simp) ?_
    rintro ⟨hlead, hkind, hsum, rfl, hpressure, rfl, hcode, -⟩
    exact h ⟨hlead, hsum, hkind, hpressure, hcode⟩

/-- Settles O51: every frame and message is its content with its check byte; what is received is read field by field. -/
theorem framesSumToZero : Obligations.FramesSumToZero := by
  unfold Obligations.FramesSumToZero
  refine ⟨fun p => ⟨?_, ?_⟩, fun mask => frame_take _, fun serial c kind fields h => ?_, fun serial r kind h => ?_,
    fun m => ⟨messageBytes_length m, messageBytes_sum m⟩, fun p => take_withCheck rfl, rfl, rfl,
    fun rate => take_withCheck rfl, fun frame raw r field hfield => decodeFrame_iff frame raw r field hfield,
    decodeStatus_iff⟩
  · rw [frame_eq, length_withCheck, length_content]
  · rw [frame_eq, byteSum_withCheck]
  · rw [frame_take]
    rcases h with ⟨n, rfl, rfl, rfl⟩ | ⟨x, y, v, rfl, rfl, rfl⟩ | ⟨rfl, rfl, rfl⟩ | ⟨rfl, rfl, rfl⟩ | ⟨rfl, rfl, rfl⟩
      | ⟨n, rfl, rfl, rfl⟩ <;> rfl
  · refine ⟨r.flags, flags_eq r, ?_⟩
    have hkind : r.kind.code = kind := by
      simp only [List.mem_cons, Prod.mk.injEq, List.not_mem_nil, or_false] at h
      rcases h with ⟨hk, rfl⟩ | ⟨hk, rfl⟩ | ⟨hk, rfl⟩ | ⟨hk, rfl⟩ <;> rw [hk] <;> rfl
    rw [frame_take, ← hkind]
    rfl

/-! ### The transmit list -/

theorem isPressure_iff {m : PumpMessage} : m.isPressure = true ↔ ∃ v, m = .setPressure v := by
  cases m <;> simp [PumpMessage.isPressure]

theorem any_isPressure {list : List PumpMessage} (h : ∃ v, PumpMessage.setPressure v ∈ list) :
    list.any PumpMessage.isPressure = true := by
  obtain ⟨v, hv⟩ := h
  exact List.any_eq_true.2 ⟨_, hv, rfl⟩

theorem any_isValve_iff (list : List PumpMessage) :
    list.any PumpMessage.isValve = false ↔ ∀ v, PumpMessage.setValve v ∉ list := by
  constructor
  · intro h v hv
    exact Bool.false_ne_true (h.symm.trans (List.any_eq_true.2 ⟨_, hv, rfl⟩))
  · intro h
    refine List.any_eq_false.2 fun m hm => ?_
    cases m with
    | setValve v => exact absurd hm (h v)
    | setPressure p => exact Bool.false_ne_true
    | setAbrasive rate => exact Bool.false_ne_true

/-- The oldest SET_PRESSURE goes where a later one stands behind it. -/
theorem dropOutdated_of_first {l : List PumpMessage} (hl : ∀ q ∈ l, ∀ v, q ≠ .setPressure v) (p : Nat)
    {r : List PumpMessage} (hr : ∃ v, PumpMessage.setPressure v ∈ r) : dropOutdated (l ++ .setPressure p :: r) = l ++ r := by
  induction l with
  | nil =>
    have h : ((PumpMessage.setPressure p).isPressure && r.any PumpMessage.isPressure) = true := any_isPressure hr
    exact if_pos h
  | cons m rest ih =>
    have hm : m.isPressure = false :=
      Bool.eq_false_iff.2 fun h => (isPressure_iff.1 h).elim fun v hv => hl m List.mem_cons_self v hv
    have hrest := ih fun q hq => hl q (List.mem_cons_of_mem _ hq)
    rw [List.cons_append, dropOutdated, hm, Bool.false_and, if_neg Bool.false_ne_true, hrest, List.cons_append]

/-- Settles O57. -/
theorem pumpMessagesLeaveInOrder : Obligations.PumpMessagesLeaveInOrder := by
  unfold Obligations.PumpMessagesLeaveInOrder
  refine ⟨fun s m rest hlist => ?_, fun m list h => enqueueMessage_of_room h m, fun m first l p r hl hr hlen => ?_⟩
  · let u := s.setPump { s.pump with transmit := rest, wire := m.bytes }
    have hexec : exec .pumpMessageTransmitted s
        = .next (if m = .setValve .closed ∧ rest.any PumpMessage.isValve = false then closeTransmitted u else u) := by
      have h : exec .pumpMessageTransmitted s = execPumpMessageTransmitted s := rfl
      rw [h, execPumpMessageTransmitted, hlist]
    have hclose : closeTransmitted u
        = if s.jsq.phase = .bridgeStop then u.setJsq { s.jsq with phase := .bridgeTravel } else u := rfl
    refine ⟨_, hexec, ?_⟩
    rw [hclose]
    split_ifs with hlast hphase
    · have hnone : ∀ v, PumpMessage.setValve v ∉ rest := (any_isValve_iff rest).1 hlast.2
      refine ⟨rfl, fun _ _ _ => rfl, fun h => ?_, rfl⟩
      rcases h with hm | ⟨v, hv⟩ | hother
      · exact absurd hlast.1 hm
      · exact absurd hv (hnone v)
      · exact absurd hphase hother
    · exact ⟨rfl, fun _ _ h => absurd h hphase, fun _ => rfl, rfl⟩
    · exact ⟨rfl, fun hm hrest _ => absurd ⟨hm, (any_isValve_iff rest).2 hrest⟩ hlast, fun _ => rfl, rfl⟩
  · rw [enqueueMessage, if_pos hlen.ge]
    rw [dropOutdated_of_first hl p hr]

end Sys2Proof.Proofs

/-! PROOFS. The exchanges of the motion port: the record a frame starts with (R140, R141), and how an exchange ends (R133 to
R135). -/

namespace Sys2Proof.Proofs

open Sys2Proof Sys2Proof.Machine

/-! ### The record that a frame starts with -/

theorem requestOutstanding_iff (s : State) : s.requestOutstanding = false ↔ noRequest s := by
  unfold noRequest State.requestOutstanding State.engineState
  cases s.planner.job with
  | none => simp
  | some job => by_cases hkind : job.kind = .contour <;> simp [hkind]

theorem maySend_iff (phase : Phase) (stop : Option Cursor) (bridge : Bool) : maySend phase stop.isSome bridge = true ↔
    phase = .cutting ∧ bridge = false ∨ phase = .holding ∧ stop ≠ none ∧ bridge = false
      ∨ phase = .bridgeTravel ∧ bridge = true := by
  cases phase <;> cases stop <;> cases bridge <;> simp [maySend]

theorem lastOfPass_eq (pass : Nat) (c : Cursor) : lastOfPass pass c = match c with
    | .fin => true
    | .seg q => decide (q.pass ≠ pass) := by
  cases c with
  | fin => rfl
  | seg q => exact (decide_not (p := q.pass = pass)).symm

/-- The conditions of R140 under which a segment's SEG record may be sent. -/
def MayBeSent (s : State) (r : SegRecord) (place : Place) : Prop :=
  s.stream.stopPlace ≠ some (.seg place) ∧ s.requestOutstanding = false ∧ s.stream.window.length < 8
    ∧ (s.stream.window = [] ∨ s.stream.lastKind = some .seg)
    ∧ maySend s.jsq.phase s.stream.stopPlace.isSome (isBridge r) = true

theorem segToSend_of {s : State} {e : Entry} {place : Place} {r : SegRecord} {w : PlanWord} (he : s.activeEntry = some e)
    (hc : s.stream.cursor = some (.seg place)) (hs : slotAt s.store e.pages place.index = some ⟨r, some w⟩)
    (hmay : MayBeSent s r place) : segToSend s = some (buildSeg s e place r w) := by
  rw [segToSend, he, hc]
  dsimp only
  rw [hs]
  exact if_pos hmay

theorem segToSend_none_of_not {s : State} {e : Entry} {place : Place} {r : SegRecord} {w : Option PlanWord}
    (he : s.activeEntry = some e) (hc : s.stream.cursor = some (.seg place))
    (hs : slotAt s.store e.pages place.index = some ⟨r, w⟩) (hmay : ¬ MayBeSent s r place) : segToSend s = none := by
  rw [segToSend, he, hc]
  dsimp only
  rw [hs]
  cases w with
  | none => rfl
  | some w => exact if_neg hmay

theorem segToSend_none_of_inactive {s : State} (h : s.activeEntry = none) : segToSend s = none := by
  rw [segToSend, h]

theorem segToSend_none_of_cursor {s : State} (h : s.stream.cursor = none ∨ s.stream.cursor = some .fin) :
    segToSend s = none := by
  unfold segToSend
  rcases h with h | h <;> rw [h] <;> cases s.activeEntry <;> rfl

theorem exec_motionFrameStart {s : State} (h : s.motion.exchange = none) :
    exec .motionFrameStart s = .next (chooseRecord s) := by
  have hexec : exec .motionFrameStart s = execMotionFrameStart s := rfl
  rw [hexec, execMotionFrameStart, if_pos h]

theorem chooseRecord_again {s : State} {p : Placed} (h : s.stream.again = some p) : chooseRecord s = placeAgain p s := by
  rw [chooseRecord, h]

theorem chooseRecord_due {s : State} {c : Control} {rest : List Control} (hagain : s.stream.again = none)
    (hdue : s.stream.due = c :: rest) : chooseRecord s = placeControl c rest s := by
  rw [chooseRecord, hagain, hdue]

theorem chooseRecord_seg {s : State} {r : SegOut} (hagain : s.stream.again = none) (hdue : s.stream.due = [])
    (hseg : segToSend s = some r) : chooseRecord s = placeSeg r s := by
  rw [chooseRecord, hagain, hdue]
  dsimp only
  rw [hseg]

theorem chooseRecord_empty {s : State} (hagain : s.stream.again = none) (hdue : s.stream.due = [])
    (hseg : segToSend s = none) : chooseRecord s = placeEmpty s := by
  rw [chooseRecord, hagain, hdue]
  dsimp only
  rw [hseg]

/-- Whether the cursor that moves to `next` reaches the stop place, with HOLD_AT not yet made (R139). -/
def reachesStop (s : State) (next : Cursor) : Bool :=
  decide (s.stream.stopPlace = some next ∧ next ≠ .fin ∧ s.stream.holdAtMade = some false)

theorem reachesStop_iff (s : State) (next : Cursor) :
    reachesStop s next = true ↔ s.stream.stopPlace = some next ∧ next ≠ .fin ∧ s.stream.holdAtMade = some false :=
  decide_eq_true_iff

theorem holdAtDue_of_reached {s : State} {next : Cursor} (hc : s.stream.cursor = some next) (h : reachesStop s next = true) :
    s.holdAtDue = s.setStream { s.stream with due := s.stream.due ++ [.holdAt], holdAtMade := some true } := by
  obtain ⟨hstop, hfin, hmade⟩ := (reachesStop_iff s next).1 h
  cases next with
  | fin => exact absurd rfl hfin
  | seg place =>
    rw [State.holdAtDue, hstop]
    exact if_pos ⟨hc, hmade⟩

theorem holdAtDue_of_not_reached {s : State} {next : Cursor} (hc : s.stream.cursor = some next)
    (h : reachesStop s next = false) : s.holdAtDue = s := by
  have hnot := fun hall => Bool.eq_false_iff.1 h ((reachesStop_iff s next).2 hall)
  unfold State.holdAtDue
  split
  next place hstop =>
    refine if_neg fun hboth => ?_
    obtain rfl := Option.some.inj (hc.symm.trans hboth.1)
    exact hnot ⟨hstop, Cursor.noConfusion, hboth.2⟩
  next => rfl

/-- The SEG record at the cursor is placed with nothing due: the cursor moves on, and HOLD_AT is due where it reaches the
stop place. -/
theorem placeSeg_eq {s : State} {e : Entry} {r : SegOut} {next : Cursor} {reached : Bool} (he : s.activeEntry = some e)
    (hdue : s.stream.due = []) (hnext : next = successor (s.segments e) e.passes r.place)
    (hreached : reached = reachesStop s next) :
    placeSeg r s = (s.setStream { s.stream with
        nextSerial := s.stream.nextSerial + 1, lastKind := some .seg, lastExit := some r.exit, cursor := some next
        due := if reached then [.holdAt] else []
        holdAtMade := if reached then some true else s.stream.holdAtMade }).setMotion
      { s.motion with exchange := some ⟨⟨some s.stream.nextSerial, .seg r⟩,
        Placed.frame ⟨some s.stream.nextSerial, .seg r⟩, false⟩ } := by
  subst hnext
  let placed := placeWithSerial .seg (.seg r) s
  let moved := placed.setStream { placed.stream with lastExit := some r.exit, cursor := some (successor (s.segments e) e.passes r.place) }
  have hplace : placeSeg r s = moved.holdAtDue := by
    rw [placeSeg, he]
  have hmoved : reachesStop moved (successor (s.segments e) e.passes r.place) = reached := hreached.symm
  have hdue' : moved.stream.due = [] := hdue
  rw [hplace]
  cases reached with
  | true =>
    rw [holdAtDue_of_reached rfl hmoved, hdue']
    rfl
  | false =>
    rw [holdAtDue_of_not_reached rfl hmoved, if_neg Bool.false_ne_true, if_neg Bool.false_ne_true, ← hdue]
    rfl

/-- Settles O50: the repeat record, the due list, the segment at the cursor, or EMPTY. -/
theorem frameStartPlacesRecord : Obligations.FrameStartPlacesRecord := by
  unfold Obligations.FrameStartPlacesRecord
  intro s hidle
  rw [exec_motionFrameStart hidle]
  refine ⟨fun p hagain => ?_, fun c rest p hagain hdue hp => ?_, fun mayBeSent hmay => ?_⟩
  · rw [chooseRecord_again hagain]
    rfl
  · rw [chooseRecord_due hagain hdue, hp]
    rfl
  · have hsent : ∀ r place, mayBeSent r place ↔ MayBeSent s r place := fun r place => by
      rw [hmay, MayBeSent, maySend_iff, requestOutstanding_iff, noRequest]
    refine ⟨fun e rest place r w next seg p hagain hdue hq hstate hc hs hr hnext hseg hp => ?_,
      fun p hagain hdue hp hnone => ?_⟩
    · have he : s.activeEntry = some e := State.activeEntry_eq_some.2 ⟨rest, hq, hstate⟩
      have hbuilt : buildSeg s e place r w = seg := by
        have hradius : (if isArc (segKind r) then segRadius r else none)
            = if segKind r = .arcCw ∨ segKind r = .arcCcw then segRadius r else none := by
          simp only [isArc, Bool.or_eq_true, beq_iff_eq]
        rw [hseg, buildSeg, hradius, ← hnext]
        cases next with
        | fin => rfl
        | seg q => simp only [lastOfPass_eq]
      refine ⟨reachesStop s next, reachesStop_iff s next, ?_⟩
      have hplace : seg.place = place := by rw [hseg]
      have hexit : seg.exit = w.exit := by rw [hseg]
      rw [chooseRecord_seg hagain hdue (segToSend_of he hc hs ((hsent r place).1 hr)), hbuilt,
        placeSeg_eq he hdue (next := next) (by rw [hplace, hnext]) rfl, hp, hexit]
    · have hempty : segToSend s = none := by
        rcases hnone with h | h | h | ⟨e, place, r, w, he, hc, hs, hnot⟩
        · exact segToSend_none_of_inactive h
        · exact segToSend_none_of_cursor (.inl h)
        · exact segToSend_none_of_cursor (.inr h)
        · exact segToSend_none_of_not he hc hs ((hsent r place).not.1 hnot)
      rw [chooseRecord_empty hagain hdue hempty, hp]
      rfl

/-! ### The end of an exchange -/

/-- An exchange is judged accepted: it has ended, the link is OK and its timer restarts. -/
abbrev heard (s : State) : State := s.setMotion ⟨none, some s.config.motionLinkTimeout.toNat, .ok, s.motion.override⟩

theorem takeOverride_same {s : State} {raw : Byte} (h : clampOverride raw.toNat = s.motion.override) : takeOverride raw s = s := by
  unfold takeOverride
  dsimp only
  rw [if_neg fun hchanged => hchanged.1 h, h]
  rfl

theorem exec_motionFrameComplete {s : State} {x : Exchange} (hx : s.motion.exchange = some x) (frame : Vector Byte 28) :
    exec (.motionFrameComplete frame) s = .next (completeExchange x frame s) := by
  have hexec : exec (.motionFrameComplete frame) s = execMotionFrameComplete frame s := rfl
  rw [hexec, execMotionFrameComplete, hx]

theorem deliver_empty {p : Placed} {mask : Mask} (h : p.body = .empty mask) (s : State) : deliver p s = s := by
  rw [deliver, h]

/-- What an exchange's record leaves at its delivery. -/
def delivered (x : Exchange) (s : State) : State := if x.cancelled then s else deliver x.placed s

theorem delivered_empty {x : Exchange} (h : ∃ mask, x.placed.body = .empty mask) (s : State) : delivered x s = s := by
  obtain ⟨mask, hmask⟩ := h
  rw [delivered, deliver_empty hmask, ite_self]

theorem completeExchange_eq (x : Exchange) (frame : Vector Byte 28) (s : State) :
    completeExchange x frame s = (judgeFrame frame (delivered x (endExchange s))).settle.pierceAtOnce s := rfl

theorem judgeFrame_accepted {frame : Vector Byte 28} {raw : Byte} {r : Report} (h : decodeFrame frame = some (raw, r))
    (s : State) : judgeFrame frame s = acceptFrame raw r s := by
  rw [judgeFrame, h]

theorem judgeFrame_failed {frame : Vector Byte 28} (h : decodeFrame frame = none) (s : State) :
    judgeFrame frame s = failFrame s := by
  rw [judgeFrame, h]

/-- An accepted frame beside an EMPTY record: the override is taken, then the report. -/
theorem exec_frame_accepted {s : State} {x : Exchange} (hx : s.motion.exchange = some x)
    (hempty : ∃ mask, x.placed.body = .empty mask) {frame : Vector Byte 28} {raw : Byte} {r : Report}
    (hdecode : decodeFrame frame = some (raw, r)) :
    exec (.motionFrameComplete frame) s = .next ((takeReport r (takeOverride raw (heard s))).settle.pierceAtOnce s) := by
  rw [exec_motionFrameComplete hx, completeExchange_eq, delivered_empty hempty, judgeFrame_accepted hdecode]
  rfl

/-- The same frame with the override as it was. -/
theorem exec_frame_report {s : State} {x : Exchange} (hx : s.motion.exchange = some x)
    (hempty : ∃ mask, x.placed.body = .empty mask) {frame : Vector Byte 28} {raw : Byte} {r : Report}
    (hdecode : decodeFrame frame = some (raw, r)) (hsame : clampOverride raw.toNat = s.motion.override) :
    exec (.motionFrameComplete frame) s = .next ((takeReport r (heard s)).settle.pierceAtOnce s) := by
  rw [exec_frame_accepted hx hempty hdecode, takeOverride_same (s := heard s) hsame]

theorem clampOverride_of_range {n : Nat} (h : 10 ≤ n) (h' : n ≤ 150) : clampOverride n = n := by
  rw [clampOverride, if_neg (by omega), if_neg (by omega)]

theorem reportSegDone_wrong {serial : Serial} {s : State}
    (h : s.stream.window = [] ∨ ∃ f rest, s.stream.window = f :: rest ∧ f.serial ≠ serial) :
    reportSegDone serial s = s.raise .motionLinkFault := by
  rcases h with h | ⟨f, rest, h, hserial⟩
  · rw [reportSegDone, h]
  · rw [reportSegDone, h]
    exact if_neg hserial

/-- Settles O54: the report only raises its source, on a link that is heard. -/
theorem wrongSegDoneIgnored : Obligations.WrongSegDoneIgnored := by
  unfold Obligations.WrongSegDoneIgnored
  intro serial s hwrong
  refine ⟨reportSegDone_wrong hwrong, fun x frame raw hx hempty hdecode hraw hlow hhigh hlink => ?_⟩
  have hsame : clampOverride raw.toNat = s.motion.override := (clampOverride_of_range hlow hhigh).trans hraw
  have hreport : takeReport (.segDone serial) (heard s) = (heard s).raise .motionLinkFault := reportSegDone_wrong hwrong
  refine ⟨((heard s).raise .motionLinkFault).settle, ?_, ?_, ?_, ?_⟩
  · rw [exec_frame_report hx hempty hdecode hsame, hreport, State.pierceAtOnce_of_same (by simp)]
  · exact Gathers.pending (u := heard s) (.of_attention rfl) (Gathers.refl _).settle
  · simp [hlink]
  · rfl

end Sys2Proof.Proofs

/-! PROOFS. The records in flight: the window and the SEG records on their way to it hold at most eight, with consecutive
serials, at every step (R138, R143). -/

namespace Sys2Proof.Proofs

open Sys2Proof Sys2Proof.Machine

/-! ### The serials in flight -/

/-- The serial of a SEG record in a frame and still to be delivered. -/
def exchangeSerials : Option Exchange → List Serial
  | some x => if !x.cancelled && x.placed.body.isSeg then [x.placed.serial.getD 0] else []
  | none => []

/-- The serial of a SEG record held as the repeat record. -/
def againSerials : Option Placed → List Serial
  | some p => if p.body.isSeg then [p.serial.getD 0] else []
  | none => []

theorem segSerials_eq (s : State) : segSerials s
    = s.stream.window.map Flight.serial ++ exchangeSerials s.motion.exchange ++ againSerials s.stream.again := by
  unfold segSerials exchangeSerials againSerials
  cases s.motion.exchange <;> cases s.stream.again <;> rfl

theorem segSerials_congr {s t : State} (hstream : t.stream = s.stream) (hmotion : t.motion.exchange = s.motion.exchange) :
    segSerials t = segSerials s := by
  rw [segSerials_eq, segSerials_eq, hstream, hmotion]

theorem exchangeSerials_length (x : Option Exchange) : (exchangeSerials x).length
    = if x.any (fun x => !x.cancelled && x.placed.body.isSeg) then 1 else 0 := by
  cases x with
  | none => rfl
  | some x => cases h : !x.cancelled && x.placed.body.isSeg <;> simp [exchangeSerials, h]

theorem againSerials_length (p : Option Placed) : (againSerials p).length
    = if p.any (fun p => p.body.isSeg) then 1 else 0 := by
  cases p with
  | none => rfl
  | some p => cases h : p.body.isSeg <;> simp [againSerials, h]

theorem windowLaw_iff (s : State) : WindowLaw s ↔ (segSerials s).length ≤ 8 := by
  rw [segSerials_eq, List.length_append, List.length_append, List.length_map, exchangeSerials_length, againSerials_length,
    WindowLaw, segsUnderWay, Nat.add_assoc]

/-! ### Records leave, none joins -/

/-- From `s` to `u` records may have left the flight, from its front or its end; none joined it. -/
structure Sheds (s u : State) : Prop where
  inside : segSerials u <:+: segSerials s
  apart : s.motion.exchange = none ∨ s.stream.again = none → u.motion.exchange = none ∨ u.stream.again = none
  numbered : segSerials u = [] ∨ u.stream.nextSerial = s.stream.nextSerial ∧ u.stream.lastKind = s.stream.lastKind

theorem Sheds.refl (s : State) : Sheds s s := ⟨List.infix_refl _, id, .inr ⟨rfl, rfl⟩⟩

theorem Sheds.of_same {s u v : State} (h : Sheds s u) (hstream : v.stream = u.stream)
    (hmotion : v.motion.exchange = u.motion.exchange) : Sheds s v := by
  have hsame := segSerials_congr hstream hmotion
  exact ⟨hsame ▸ h.inside, by rw [hstream, hmotion]; exact h.apart, by rw [hsame, hstream]; exact h.numbered⟩

/-- With nothing in flight nothing is in flight afterwards. -/
theorem Sheds.empty {s u : State} (h : Sheds s u) (hs : segSerials s = []) : segSerials u = [] :=
  List.eq_nil_of_infix_nil (hs ▸ h.inside)

theorem segSerials_thins {u : State} {x : Stream} (hx : Thins u.stream x) : segSerials (u.setStream x) <:+: segSerials u := by
  obtain ⟨⟨gone, hgone⟩, hagain, -, -⟩ := hx
  rw [segSerials_eq, segSerials_eq, ← hgone, List.map_append]
  rcases hagain with hagain | hagain
  · refine ⟨gone.map Flight.serial, [], ?_⟩
    simp [hagain]
  · refine ⟨gone.map Flight.serial, againSerials u.stream.again, ?_⟩
    simp [hagain, againSerials]

theorem Sheds.setStream {s u : State} {x : Stream} (h : Sheds s u) (hx : Thins u.stream x) : Sheds s (u.setStream x) where
  inside := (segSerials_thins hx).trans h.inside
  apart hs := (h.apart hs).imp id fun hnone => hx.again.elim (·.trans hnone) id
  numbered := by
    refine h.numbered.imp (fun hnone => ?_) fun ⟨hnext, hkind⟩ => ⟨hx.nextSerial.trans hnext, hx.lastKind.trans hkind⟩
    exact List.eq_nil_of_infix_nil (hnone ▸ segSerials_thins hx)

theorem exchangeSerials_endActive (x : Option Exchange) :
    exchangeSerials (x.map fun x => if (x.placed.body.isSeg || x.placed.body.isTraverse) = true then { x with cancelled := true }
      else x) = [] := by
  cases x with
  | none => rfl
  | some x =>
    cases hseg : x.placed.body.isSeg <;> cases htraverse : x.placed.body.isTraverse <;>
      simp [exchangeSerials, hseg, htraverse]

theorem againSerials_endActive (p : Option Placed) :
    againSerials (p.filter fun p => !(p.body.isSeg || p.body.isTraverse)) = [] := by
  cases p with
  | none => rfl
  | some p => cases hseg : p.body.isSeg <;> cases htraverse : p.body.isTraverse <;> simp [againSerials, Option.filter, hseg, htraverse]

theorem segSerials_endActive (u : State) : segSerials u.endActive = u.stream.window.map Flight.serial := by
  have hexchange : exchangeSerials u.endActive.motion.exchange = [] := exchangeSerials_endActive _
  have hagain : againSerials u.endActive.stream.again = [] := againSerials_endActive _
  rw [segSerials_eq, hexchange, hagain, List.append_nil, List.append_nil]
  rfl

theorem Sheds.endActive {s u : State} (h : Sheds s u) : Sheds s u.endActive where
  inside := by
    refine List.IsInfix.trans ?_ h.inside
    rw [segSerials_endActive, segSerials_eq, List.append_assoc]
    exact (List.prefix_append _ _).isInfix
  apart hs := (h.apart hs).imp (fun hnone => by rw [State.endActive]; simp [hnone])
    fun hnone => by rw [State.endActive]; simp [hnone]
  numbered := by
    refine h.numbered.imp (fun hnone => ?_) fun hsame => hsame
    rw [segSerials_eq, List.append_assoc] at hnone
    rw [segSerials_endActive]
    exact (List.append_eq_nil_iff.1 hnone).1

theorem segSerials_clearWork (u : State) : segSerials (clearWork u) = [] := by
  have hexchange : exchangeSerials (clearWork u).motion.exchange = [] := by
    have h : (clearWork u).motion.exchange = u.motion.exchange.map fun x => { x with cancelled := true } := rfl
    rw [h]
    cases u.motion.exchange <;> rfl
  rw [segSerials_eq, hexchange]
  rfl

/-- Every operation but an exchange sheds records at most. -/
theorem sheds_steady (s : State) : SteadyBetween (Sheds s) where
  setQueue _ h := h.of_same rfl rfl
  setStore _ h := h.of_same rfl rfl
  setFreePages _ h := h.of_same rfl rfl
  setEngine _ h := h.of_same rfl rfl
  setFinished _ h := h.of_same rfl rfl
  setPlanner _ h := h.of_same rfl rfl
  setJsq _ h := h.of_same rfl rfl
  setStream _ hx h := h.setStream hx
  setMotion _ hx h := h.of_same rfl hx
  endActive h := h.endActive
  setPump _ h := h.of_same rfl rfl
  raise _ h := h.of_same rfl rfl
  settle h := h.of_same rfl rfl
  countWear _ _ h := h.of_same (by simp) (by simp)
  setPort _ h := h.of_same rfl rfl
  setBuffer _ _ h := h.of_same (by simp) (by simp)
  setMaterials _ h := h.of_same rfl rfl
  setAttention _ h := h.of_same rfl rfl
  clearWork {u} h := ⟨by rw [segSerials_clearWork]; exact List.nil_infix, fun _ => .inr rfl, .inl (segSerials_clearWork u)⟩

/-- Every command sheds records at most. -/
theorem sheds_command (c : Instr) (u : State) : Sheds u (runCommand c u).2 := by
  by_cases hk : keepsTables c = true
  · exact (sheds_steady u).command hk (.refl u)
  · obtain ⟨config, wear, attention, ht⟩ := command_tables (Bool.eq_false_iff.2 hk) u
    rw [ht]
    exact (Sheds.refl u).of_same rfl rfl

/-! ### The exchanges of the motion port -/

theorem segSerials_endExchange (s : State) :
    segSerials (endExchange s) = s.stream.window.map Flight.serial ++ againSerials s.stream.again := by
  have hexchange : exchangeSerials (endExchange s).motion.exchange = [] := rfl
  rw [segSerials_eq, hexchange, List.append_nil]
  rfl

/-- A SEG record that joins the window at its delivery stands behind the window. -/
theorem segSerials_deliverSeg (serial : Serial) (r : SegOut) (s : State) : segSerials (deliverSeg serial r (endExchange s))
    = s.stream.window.map Flight.serial ++ [serial] ++ againSerials s.stream.again := by
  have hexchange : exchangeSerials (deliverSeg serial r (endExchange s)).motion.exchange = [] := rfl
  have hwindow : (deliverSeg serial r (endExchange s)).stream.window.map Flight.serial
      = s.stream.window.map Flight.serial ++ [serial] := List.map_append
  rw [segSerials_eq, hexchange, List.append_nil, hwindow]
  rfl

theorem exchangeSerials_seg {x : Exchange} (hlive : x.cancelled = false) {r : SegOut} (hseg : x.placed.body = .seg r) :
    exchangeSerials (some x) = [x.placed.serial.getD 0] := by
  rw [exchangeSerials, hlive, hseg]
  rfl

/-- A record cut short waits as the repeat record with the serial it has. -/
theorem againSerials_live {x : Exchange} (hlive : x.cancelled = false) :
    againSerials (some x.placed) = exchangeSerials (some x) := by
  rw [exchangeSerials, hlive]
  rfl

/-- A delivery brings a SEG record into the window, or nothing into the flight. -/
theorem delivered_cases (x : Exchange) (u : State) :
    (∃ r, x.cancelled = false ∧ x.placed.body = .seg r ∧ delivered x u = deliverSeg (x.placed.serial.getD 0) r u)
      ∨ Sheds u (delivered x u) := by
  have hrefl := Sheds.refl u
  have hsheds := sheds_steady u
  unfold delivered
  cases hlive : x.cancelled with
  | true => exact .inr hrefl
  | false =>
    rw [if_neg Bool.false_ne_true]
    unfold deliver
    split
    case h_2 r hseg => exact .inl ⟨r, rfl, hseg, rfl⟩
    case h_3 => exact .inr (Steady.cond (hsheds.setJsq _ hrefl) hrefl)
    case h_4 => exact .inr (Steady.cond (hsheds.runOn (hsheds.sequencerIdle hrefl)) hrefl)
    all_goals exact .inr hrefl

/-- The record that a frame starts with: the repeat record, a control record that is due, a SEG record, or EMPTY. -/
theorem chooseRecord_cases (s : State) :
    (∃ p, s.stream.again = some p ∧ chooseRecord s = placeAgain p s)
      ∨ s.stream.again = none ∧ ((∃ c rest, chooseRecord s = placeControl c rest s)
        ∨ (∃ r, s.stream.due = [] ∧ segToSend s = some r ∧ chooseRecord s = placeSeg r s) ∨ chooseRecord s = placeEmpty s) := by
  cases hagain : s.stream.again with
  | some p => exact .inl ⟨p, rfl, chooseRecord_again hagain⟩
  | none =>
    refine .inr ⟨rfl, ?_⟩
    cases hdue : s.stream.due with
    | cons c rest => exact .inl ⟨c, rest, chooseRecord_due hagain hdue⟩
    | nil =>
      cases hseg : segToSend s with
      | some r => exact .inr (.inl ⟨r, rfl, rfl, chooseRecord_seg hagain hdue hseg⟩)
      | none => exact .inr (.inr (chooseRecord_empty hagain hdue hseg))

theorem segSerials_placeAgain {s : State} {p : Placed} (hagain : s.stream.again = some p) (hidle : s.motion.exchange = none) :
    segSerials (placeAgain p s) = segSerials s := by
  rw [segSerials_eq, segSerials_eq, hagain, hidle, againSerials_live (x := ⟨p, p.frame, false⟩) rfl]
  simp [placeAgain, placeRecord, againSerials, exchangeSerials]

theorem segSerials_placeControl {s : State} (hagain : s.stream.again = none) (hidle : s.motion.exchange = none) (c : Control)
    (rest : List Control) : segSerials (placeControl c rest s) = segSerials s := by
  rw [segSerials_eq, segSerials_eq, hagain, hidle]
  simp [placeControl, placeWithSerial, placeRecord, hagain, againSerials, exchangeSerials, RecordBody.isSeg]

theorem segSerials_placeEmpty {s : State} (hidle : s.motion.exchange = none) : segSerials (placeEmpty s) = segSerials s := by
  rw [segSerials_eq, segSerials_eq, hidle]
  simp [placeEmpty, placeRecord, exchangeSerials, RecordBody.isSeg]

/-- A SEG record is sent for an ACTIVE entry, where R140 lets it. -/
theorem segToSend_some {s : State} {r : SegOut} (h : segToSend s = some r) : ∃ e record, s.activeEntry = some e
    ∧ MayBeSent s record r.place := by
  unfold segToSend at h
  split at h
  · next e place he hc =>
    split at h
    · next record w hslot =>
      split at h
      · next hmay =>
        obtain rfl := Option.some.inj h
        exact ⟨e, record, he, hmay⟩
      · cases h
    · cases h
  · cases h

/-- The SEG record placed joins the end of the flight with the next serial. -/
structure SegPlaced (s t : State) : Prop where
  serials : segSerials t = s.stream.window.map Flight.serial ++ [s.stream.nextSerial]
  again : t.stream.again = none
  nextSerial : t.stream.nextSerial = s.stream.nextSerial + 1

theorem segPlaced {s : State} {r : SegOut} {e : Entry} (hagain : s.stream.again = none) (hdue : s.stream.due = [])
    (he : s.activeEntry = some e) : SegPlaced s (placeSeg r s) := by
  rw [placeSeg_eq he hdue rfl rfl]
  refine ⟨?_, hagain, rfl⟩
  rw [segSerials_eq]
  simp [hagain, exchangeSerials, againSerials, RecordBody.isSeg]

/-! ### The window holds at most eight -/

theorem windowLaw_start {s : State} (hidle : s.motion.exchange = none) (h : WindowLaw s) : WindowLaw (chooseRecord s) := by
  rw [windowLaw_iff] at h ⊢
  rcases chooseRecord_cases s with ⟨p, hagain, hc⟩ | ⟨hagain, ⟨c, rest, hc⟩ | ⟨r, hdue, hseg, hc⟩ | hc⟩ <;> rw [hc]
  · rwa [segSerials_placeAgain hagain hidle]
  · rwa [segSerials_placeControl hagain hidle]
  · obtain ⟨e, record, he, -, -, hroom, -⟩ := segToSend_some hseg
    rw [(segPlaced hagain hdue he).serials, List.length_append, List.length_map, List.length_singleton]
    exact hroom
  · rwa [segSerials_placeEmpty hidle]

theorem windowLaw_end {s : State} {x : Exchange} (hx : s.motion.exchange = some x) (h : WindowLaw s) :
    WindowLaw (delivered x (endExchange s)) := by
  rw [windowLaw_iff, segSerials_eq, hx] at h
  rw [windowLaw_iff]
  rcases delivered_cases x (endExchange s) with ⟨r, hlive, hseg, hd⟩ | hsheds
  · rwa [hd, segSerials_deliverSeg, ← exchangeSerials_seg hlive hseg]
  · refine hsheds.inside.length_le.trans (le_trans ?_ h)
    rw [segSerials_endExchange]
    simp

theorem windowLaw_cut {s : State} {x : Exchange} (hx : s.motion.exchange = some x) (h : WindowLaw s) :
    WindowLaw (if x.cancelled then s.setMotion { s.motion with exchange := none }
      else (s.setMotion { s.motion with exchange := none }).setStream { s.stream with again := some x.placed }) := by
  rw [windowLaw_iff, segSerials_eq, hx] at h
  rw [windowLaw_iff, segSerials_eq]
  refine le_trans ?_ h
  cases hlive : x.cancelled with
  | true => simp [exchangeSerials]
  | false =>
    rw [if_neg Bool.false_ne_true]
    simp [againSerials_live hlive, exchangeSerials]

/-- A law that stands where records are shed is kept by every operation between the exchanges. -/
theorem steady_of_sheds {P : State → Prop} (hP : ∀ {u v}, Sheds u v → P u → P v) : SteadyBetween P where
  setQueue x h := hP ((sheds_steady _).setQueue x (.refl _)) h
  setStore x h := hP ((sheds_steady _).setStore x (.refl _)) h
  setFreePages x h := hP ((sheds_steady _).setFreePages x (.refl _)) h
  setEngine x h := hP ((sheds_steady _).setEngine x (.refl _)) h
  setFinished x h := hP ((sheds_steady _).setFinished x (.refl _)) h
  setPlanner x h := hP ((sheds_steady _).setPlanner x (.refl _)) h
  setJsq x h := hP ((sheds_steady _).setJsq x (.refl _)) h
  setStream x hx h := hP ((sheds_steady _).setStream x hx (.refl _)) h
  setMotion x hx h := hP ((sheds_steady _).setMotion x hx (.refl _)) h
  endActive h := hP ((sheds_steady _).endActive (.refl _)) h
  setPump x h := hP ((sheds_steady _).setPump x (.refl _)) h
  raise src h := hP ((sheds_steady _).raise src (.refl _)) h
  settle h := hP ((sheds_steady _).settle (.refl _)) h
  countWear f hf h := hP ((sheds_steady _).countWear f hf (.refl _)) h
  setPort x h := hP ((sheds_steady _).setPort x (.refl _)) h
  setBuffer name b h := hP ((sheds_steady _).setBuffer name b (.refl _)) h
  setMaterials x h := hP ((sheds_steady _).setMaterials x (.refl _)) h
  setAttention x h := hP ((sheds_steady _).setAttention x (.refl _)) h
  clearWork h := hP ((sheds_steady _).clearWork (.refl _)) h

theorem sheds_unit (s : State) (i : Fin 4) :
    Sheds s (s.setWear (s.wear.setCounter i (s.wear.counter i).millisecond)).judgeWear := by
  rw [judgeWear_frame]
  exact (Sheds.refl s).of_same rfl rfl

theorem windowLaw_of_sheds {s t : State} (h : Sheds s t) (hs : WindowLaw s) : WindowLaw t :=
  (windowLaw_iff t).2 (h.inside.length_le.trans ((windowLaw_iff s).1 hs))

theorem windowLaw_kept : Kept WindowLaw where
  toKeptByEvents := (steady_of_sheds windowLaw_of_sheds).eventsBetween (fun s i => windowLaw_of_sheds (sheds_unit s i))
    (fun _ => windowLaw_start) (fun _ _ => windowLaw_end) fun _ _ => windowLaw_cut
  command c u h := windowLaw_of_sheds (sheds_command c u) h
  powerOn s _ := by
    have hnone : segSerials (State.reset.setPending s.pending) = [] := by
      rw [segSerials_eq]
      rfl
    rw [windowLaw_iff, hnone]
    exact Nat.zero_le 8

/-! ### Serials follow one another -/

theorem serialsRun_infix {l l' : List Serial} (h : serialsRun l) (hsub : l' <:+: l) : serialsRun l' := by
  obtain ⟨pre, post, rfl⟩ := hsub
  have hat : ∀ j x, l'[j]? = some x → (pre ++ l' ++ post)[pre.length + j]? = some x := fun j x hx => by
    have hj : j < l'.length := (List.getElem?_eq_some_iff.1 hx).1
    rw [List.append_assoc, List.getElem?_append_right (Nat.le_add_right _ _), Nat.add_sub_cancel_left,
      List.getElem?_append_left hj, hx]
  exact fun i a b ha hb => h (pre.length + i) a b (hat i a ha) (hat (i + 1) b hb)

theorem serialsRun_append {l : List Serial} {b : Serial} (h : serialsRun l) (hb : ∀ a, l.getLast? = some a → b = a + 1) :
    serialsRun (l ++ [b]) := by
  intro i x y hx hy
  have hi : i + 1 < (l ++ [b]).length := (List.getElem?_eq_some_iff.1 hy).1
  rw [List.length_append, List.length_singleton] at hi
  rw [List.getElem?_append_left (by omega)] at hx
  rcases Nat.lt_or_ge (i + 1) l.length with hlt | hge
  · rw [List.getElem?_append_left hlt] at hy
    exact h i x y hx hy
  · rw [List.getElem?_append_right hge, show i + 1 - l.length = 0 by omega] at hy
    obtain rfl := Option.some.inj hy
    refine hb x ?_
    rw [List.getLast?_eq_getElem?, ← hx]
    congr 1
    omega

/-- Outside an abort the last serial in flight stays the last, or nothing is in flight. -/
structure Onward (s t : State) : Prop where
  last : t.jsq.phase ≠ .aborting → segSerials t = [] ∨ s.jsq.phase ≠ .aborting ∧ segSerials t <:+ segSerials s

theorem serialLaw_of_sheds {s t : State} (hsheds : Sheds s t) (honward : Onward s t) (h : SerialLaw s) : SerialLaw t := by
  obtain ⟨hapart, hrun, hlast⟩ := h
  refine ⟨hsheds.apart hapart, serialsRun_infix hrun hsheds.inside, fun hphase hkind a ha => ?_⟩
  have hsome : segSerials t ≠ [] := fun hnone => by
    rw [hnone] at ha
    cases ha
  obtain ⟨hnext, hsamekind⟩ := hsheds.numbered.resolve_left hsome
  obtain ⟨hs, before, hbefore⟩ := (honward.last hphase).resolve_left hsome
  rw [hnext]
  refine hlast hs (hsamekind ▸ hkind) a ?_
  rw [← hbefore, List.getLast?_append_of_ne_nil before hsome, ha]

end Sys2Proof.Proofs

/-! PROOFS. The last serial in flight: outside an abort every operation leaves the last record in flight where it is, or nothing
in flight (R138, R139, R143). -/

namespace Sys2Proof.Proofs

open Sys2Proof Sys2Proof.Machine

variable {s u v : State}

/-! ### What leaves the flight alone -/

@[simp] theorem makeDue_window (c : Control) (u : State) : (u.makeDue c).stream.window = u.stream.window := rfl
@[simp] theorem makeDue_again (c : Control) (u : State) : (u.makeDue c).stream.again = u.stream.again := rfl
@[simp] theorem startStream_window (p : Place) (u : State) : (u.startStream p).stream.window = u.stream.window := rfl
@[simp] theorem startStream_again (p : Place) (u : State) : (u.startStream p).stream.again = u.stream.again := rfl

@[simp] theorem startSequence_window (e : Entry) (mode : PierceMode) (x y : Nat) (u : State) :
    (u.startSequence e mode x y).stream.window = u.stream.window := rfl

@[simp] theorem startSequence_again (e : Entry) (mode : PierceMode) (x y : Nat) (u : State) :
    (u.startSequence e mode x y).stream.again = u.stream.again := rfl

@[simp] theorem holdAtDue_window (u : State) : u.holdAtDue.stream.window = u.stream.window := by
  unfold State.holdAtDue
  split
  · split <;> rfl
  · rfl

@[simp] theorem holdAtDue_again (u : State) : u.holdAtDue.stream.again = u.stream.again := by
  unfold State.holdAtDue
  split
  · split <;> rfl
  · rfl

@[simp] theorem removeEntry_window (e : Entry) (outcome : Option Outcome) (u : State) :
    (u.removeEntry e outcome).stream.window = u.stream.window := by
  rw [removeEntry_stream]
  split <;> rfl

@[simp] theorem removeEntry_again (e : Entry) (outcome : Option Outcome) (u : State) :
    (u.removeEntry e outcome).stream.again = u.stream.again := by
  rw [removeEntry_stream]
  split <;> rfl

/-! ### Onward -/

theorem Onward.refl (s : State) : Onward s s := ⟨fun h => .inr ⟨h, List.suffix_refl _⟩⟩

theorem Onward.emptied (h : segSerials u = []) : Onward s u := ⟨fun _ => .inl h⟩

theorem Onward.of_aborting (h : u.jsq.phase = .aborting) : Onward s u := ⟨fun hphase => absurd h hphase⟩

theorem Onward.trans (h : Onward s u) (h' : Onward u v) : Onward s v := by
  refine ⟨fun hphase => ?_⟩
  rcases h'.last hphase with hnone | ⟨hu, hsuffix⟩
  · exact .inl hnone
  · refine (h.last hu).imp (fun hnone => ?_) fun ⟨hs, hsuffix'⟩ => ⟨hs, hsuffix.trans hsuffix'⟩
    exact List.eq_nil_of_suffix_nil (hnone ▸ hsuffix)

theorem segSerials_of_same (hwindow : v.stream.window = u.stream.window) (hagain : v.stream.again = u.stream.again)
    (hexchange : v.motion.exchange = u.motion.exchange) : segSerials v = segSerials u := by
  rw [segSerials_eq, segSerials_eq, hwindow, hagain, hexchange]

/-- The flight and the sequencer's phase are as they were. -/
theorem Onward.same (h : Onward s u) (hwindow : v.stream.window = u.stream.window := by simp)
    (hagain : v.stream.again = u.stream.again := by simp) (hexchange : v.motion.exchange = u.motion.exchange := by simp)
    (hphase : v.jsq.phase = u.jsq.phase := by simp) : Onward s v :=
  h.trans ⟨fun hv => .inr ⟨hphase ▸ hv, by rw [segSerials_of_same hwindow hagain hexchange]⟩⟩

/-- The flight is as it was, and the sequencer enters another phase, not from ABORTING. -/
theorem Onward.phase (h : Onward s u) (hphase : u.jsq.phase ≠ .aborting) (hwindow : v.stream.window = u.stream.window := by simp)
    (hagain : v.stream.again = u.stream.again := by simp) (hexchange : v.motion.exchange = u.motion.exchange := by simp) :
    Onward s v :=
  h.trans ⟨fun _ => .inr ⟨hphase, by rw [segSerials_of_same hwindow hagain hexchange]⟩⟩

theorem Onward.frame (h : Onward s u) (hstream : v.stream = u.stream := by rfl)
    (hexchange : v.motion.exchange = u.motion.exchange := by rfl) (hjsq : v.jsq = u.jsq := by rfl) : Onward s v :=
  h.same (by rw [hstream]) (by rw [hstream]) hexchange (by rw [hjsq])

theorem Onward.settle (h : Onward s u) : Onward s u.settle := h.frame

theorem Onward.raise (h : Onward s u) (src : Source) : Onward s (u.raise src) := h.frame

theorem Onward.cond {c : Prop} [Decidable c] (h : Onward s u) (h' : Onward s v) : Onward s (if c then u else v) := by
  split
  · exact h
  · exact h'

/-! ### What leaves nothing in flight -/

theorem active_modifyHead {f : Entry → Entry} (hf : ∀ e, e.state = .active → (f e).state = .active)
    (hact : u.activeEntry.isSome = true) : (u.modifyHead f).activeEntry.isSome = true := by
  obtain ⟨e, rest, hq, he⟩ := isSome_activeEntry.1 hact
  exact isSome_activeEntry.2 ⟨f e, rest, by rw [modifyHead_queue, hq], hf e he⟩

/-- An entry that stops being ACTIVE with the window empty leaves nothing in flight. -/
theorem endActive_emptied (h : u.stream.window = []) : segSerials u.endActive = [] := by
  rw [segSerials_endActive, h]
  rfl

/-- An ACTIVE head with the window empty. -/
structure Cleared (u : State) : Prop where
  active : u.activeEntry.isSome = true
  window : u.stream.window = []

theorem becomeHeld_emptied (h : Cleared u) (cause : Cause) (point : Place) : segSerials (u.becomeHeld cause point) = [] := by
  obtain ⟨e, he⟩ := Option.isSome_iff_exists.1 h.active
  unfold State.becomeHeld
  rw [he]
  have hended := endActive_emptied (u := u.modifyHead (Entry.hold cause (State.pastBridge (u.segments e) e.passes point)))
    h.window
  have hsteady := sheds_steady (u.modifyHead (Entry.hold cause (State.pastBridge (u.segments e) e.passes point))).endActive
  exact (hsteady.raise .held (hsteady.dropRequest (hsteady.sequencerIdle (.refl _)))).empty hended

theorem immediateHold_emptied (hact : u.activeEntry.isSome = true) (cause : Cause) :
    segSerials (u.immediateHold cause) = [] := by
  obtain ⟨e, he⟩ := Option.isSome_iff_exists.1 hact
  unfold State.immediateHold
  rw [he]
  exact becomeHeld_emptied ⟨by rwa [activeEntry_congr (s := u) (by simp)], rfl⟩ cause _

theorem skipHead_emptied (h : Cleared u) : segSerials u.skipHead = [] := by
  obtain ⟨e, rest, hq, he⟩ := isSome_activeEntry.1 h.active
  unfold State.skipHead
  rw [hq]
  have hsteady := sheds_steady u.endActive
  dsimp only
  rw [if_pos he]
  exact (hsteady.runOn (hsteady.dropRequest (hsteady.sequencerIdle (hsteady.setStream _ thins_of_same
    (hsteady.removeEntry e _ (.refl _)))))).empty (endActive_emptied h.window)

theorem finish_emptied {e : Entry} {rest : List Entry} (hq : u.queue = e :: rest) : segSerials u.finish = [] := by
  have hcleared : segSerials u.endActive.leavePhase.clearWindow = [] := by
    have hsame : segSerials u.endActive.leavePhase.clearWindow = segSerials u.clearWindow.endActive :=
      segSerials_of_same rfl rfl rfl
    rw [hsame]
    exact endActive_emptied rfl
  have hsteady := sheds_steady u.endActive.leavePhase.clearWindow
  unfold State.finish
  rw [hq]
  exact (hsteady.dropRequest (hsteady.setJsq _ (hsteady.makeDue _ (hsteady.removeEntry e _ (.refl _))))).empty hcleared

theorem restAtDone_emptied (hact : u.activeEntry.isSome = true) (cause : Cause) (ending : Ending) :
    segSerials (u.restAtDone cause ending) = [] := by
  obtain ⟨e, he⟩ := Option.isSome_iff_exists.1 hact
  obtain ⟨rest, hq, -⟩ := State.activeEntry_eq_some.1 he
  have hcleared : Cleared u.clearWindow := ⟨hact, rfl⟩
  unfold State.restAtDone
  rw [he]
  dsimp only
  split
  · exact finish_emptied (e := e) (rest := rest) hq
  · cases ending with
    | held => exact becomeHeld_emptied hcleared cause _
    | skipped => exact skipHead_emptied hcleared

theorem immediateRest_emptied (hact : u.activeEntry.isSome = true) (cause : Cause) (ending : Ending) :
    segSerials (u.immediateRest cause ending) = [] := by
  obtain ⟨e, he⟩ := Option.isSome_iff_exists.1 hact
  unfold State.immediateRest
  rw [he]
  cases ending with
  | held => exact immediateHold_emptied hact cause
  | skipped =>
    have hrest : u.restAtOnce.activeEntry.isSome = true := by rwa [activeEntry_congr (s := u) (by simp)]
    exact skipHead_emptied ⟨active_modifyHead (fun _ h => h) hrest, rfl⟩

/-! ### Rest, activation and leaving -/

theorem isSome_or_none (s : State) : s.activeEntry.isSome = true ∨ s.activeEntry = none := by
  cases s.activeEntry with
  | none => exact .inr rfl
  | some e => exact .inl rfl

theorem onward_immediateHold (u : State) (cause : Cause) : Onward u (u.immediateHold cause) := by
  rcases isSome_or_none u with hact | hnone
  · exact .emptied (immediateHold_emptied hact cause)
  · rw [State.immediateHold, hnone]
    exact .refl u

theorem onward_immediateRest (u : State) (cause : Cause) (ending : Ending) : Onward u (u.immediateRest cause ending) := by
  rcases isSome_or_none u with hact | hnone
  · exact .emptied (immediateRest_emptied hact cause ending)
  · rw [State.immediateRest, hnone]
    exact .refl u

theorem onward_finish (u : State) : Onward u u.finish := by
  cases hq : u.queue with
  | nil =>
    rw [State.finish, hq]
    exact .refl u
  | cons e rest => exact .emptied (finish_emptied hq)

theorem onward_pumpSilenceAtStart (u : State) : Onward u u.pumpSilenceAtStart :=
  (onward_immediateHold u _).cond (.refl u)

theorem onward_silenceAtStart (u : State) : Onward u u.silenceAtStart :=
  ((onward_immediateHold u _).cond (.refl u)).trans (onward_pumpSilenceAtStart _)

theorem onward_startSequence (hphase : u.jsq.phase ≠ .aborting) (e : Entry) (mode : PierceMode) (x y : Nat) :
    Onward u (u.startSequence e mode x y) := (Onward.refl u).phase hphase

/-- The records in flight and the sequencer are as they were. -/
structure SameFlight (u v : State) : Prop where
  window : v.stream.window = u.stream.window
  again : v.stream.again = u.stream.again
  exchange : v.motion.exchange = u.motion.exchange
  jsq : v.jsq = u.jsq

theorem SameFlight.onward (h : SameFlight u v) : Onward u v :=
  (Onward.refl u).same h.window h.again h.exchange (by rw [h.jsq])

theorem activated_flight (e : Entry) (u : State) : SameFlight u (activated e u) := by
  unfold activated
  dsimp only
  split <;> constructor <;> simp

theorem onward_tryActivate (u : State) : Onward u u.tryActivate := by
  rcases State.tryActivate_cases u with hc | ⟨e, rest, -, hphase, -, -, hc⟩ <;> rw [hc]
  · exact .refl u
  · have hflight := activated_flight e u
    have hidle : (activated e u).jsq.phase ≠ .aborting := by rw [hflight.jsq, hphase]; exact Phase.noConfusion
    rw [activate_eq]
    exact (hflight.onward.trans (onward_startSequence hidle ..)).trans (onward_silenceAtStart _)

theorem onward_runOn (u : State) : Onward u u.runOn := (onward_tryActivate u).cond (Onward.refl u).same

/-- A head leaves by skip: ACTIVE with the window empty, or at rest outside an abort. -/
theorem onward_skipHead (u : State) (hact : u.activeEntry.isSome = true → u.stream.window = [])
    (hrest : u.activeEntry = none → u.jsq.phase ≠ .aborting) : Onward u u.skipHead := by
  rcases isSome_or_none u with hsome | hnone
  · exact .emptied (skipHead_emptied ⟨hsome, hact hsome⟩)
  · unfold State.skipHead
    split
    · exact .refl u
    · next e rest hq =>
      have hstate : e.state ≠ .active := fun h => by
        rw [State.activeEntry_eq_some.2 ⟨rest, hq, h⟩] at hnone
        cases hnone
      dsimp only
      rw [if_neg hstate]
      exact ((Onward.refl u).phase (hrest hnone)).trans
        (onward_runOn _)

/-! ### Segments done and faults -/

theorem active_congr (h : v.queue = u.queue := by simp) (hact : u.activeEntry.isSome = true) : v.activeEntry.isSome = true := by
  rwa [activeEntry_congr h]

theorem active_segmentDone (e : Entry) (index : Nat) (hact : u.activeEntry.isSome = true) :
    (u.segmentDone e index).activeEntry.isSome = true := by
  have hdone : (u.modifyHead fun x => { x with
      donePlace := x.donePlace.map (State.advanceDone (u.segments e) x.passes index), resumeFailures := 0
      restartMark := false }).activeEntry.isSome = true := active_modifyHead (fun _ h => h) hact
  unfold State.segmentDone
  dsimp only
  split
  · split
    · exact hdone
    · exact active_congr (hact := hdone)
  · exact hdone

theorem active_confirm (serial : Serial) (e : Entry) (hact : u.activeEntry.isSome = true) :
    (u.confirm serial e).activeEntry.isSome = true :=
  confirm_keeps (P := fun u => u.activeEntry.isSome = true) e (fun _ _ h => active_segmentDone e _ h) serial hact

theorem onward_startAbort (u : State) (cause : Cause) (ending : Ending) : Onward u (u.startAbort cause ending) :=
  .of_aborting (by simp [State.startAbort])

theorem onward_faultWhileCutting (f : FaultEvent) (ending : Ending) (e : Entry) (hact : u.activeEntry.isSome = true) :
    Onward u (u.faultWhileCutting f ending e) := by
  have hoff : u.jetOff.activeEntry.isSome = true := active_congr (hact := hact)
  have hdue : (u.jetOff.makeStopDue .abort).activeEntry.isSome = true := active_congr (hact := hact)
  cases f with
  | linkSilence => exact .emptied (restAtDone_emptied hdue ..)
  | linkCheck => exact .emptied (restAtDone_emptied hdue ..)
  | motionFault => exact .emptied (restAtDone_emptied hoff ..)
  | starved serial => exact .emptied (restAtDone_emptied (active_confirm serial e hoff) ..)
  | _ => exact onward_startAbort ..

theorem onward_faultWhileAborting (f : FaultEvent) (e : Entry) (hact : u.activeEntry.isSome = true) :
    Onward u (u.faultWhileAborting f e) := by
  have hseen : (u.modifyHead Entry.seeLaterFault).activeEntry.isSome = true := active_modifyHead (fun _ h => h) hact
  have hsame : Onward u (u.modifyHead Entry.seeLaterFault) := (Onward.refl u).same
  cases f with
  | starved serial => exact .emptied (restAtDone_emptied (active_confirm serial e hseen) ..)
  | motionFault => exact .emptied (restAtDone_emptied hseen ..)
  | linkSilence => exact .emptied (restAtDone_emptied hseen ..)
  | _ => exact hsame

theorem onward_takeFault (u : State) (f : FaultEvent) : Onward u (u.takeFault f) := by
  have hhold := onward_immediateHold u f.cause
  unfold State.takeFault
  split
  · exact .refl u
  · next e he =>
    have hact : u.activeEntry.isSome = true := by rw [he]; rfl
    split
    case h_7 => exact onward_faultWhileCutting f _ e hact
    case h_8 =>
      have hseen : Onward u ((u.setJsq { u.jsq with stopCause := some f.cause }).modifyHead Entry.seeLaterFault) :=
        (Onward.refl u).same
      exact hseen.trans (onward_faultWhileCutting f _ e (active_modifyHead (fun _ h => h) (active_congr (hact := hact))))
    case h_9 => exact onward_faultWhileAborting f e hact
    case h_10 => exact .refl u
    case h_11 => exact .refl u
    all_goals exact hhold

/-! ### Events of the sequencer -/

theorem phase_ne {p : Phase} (h : u.jsq.phase = p) (hp : p ≠ .aborting) : u.jsq.phase ≠ .aborting := h ▸ hp

theorem onward_openJet (hphase : u.jsq.phase ≠ .aborting) (e : Entry) : Onward u (u.openJet e) :=
  ((Onward.refl u).phase hphase).cond ((Onward.refl u).phase hphase)

theorem onward_pierceExpires (u : State) : Onward u u.pierceExpires := by
  rcases State.pierceExpires_cases u with hc | ⟨e, -, hphase, -, hc⟩ <;> rw [hc]
  · exact .refl u
  · exact (Onward.refl u).phase (phase_ne hphase Phase.noConfusion)

theorem onward_pierceAtOnce (u old : State) : Onward u (u.pierceAtOnce old) := (onward_pierceExpires u).cond (.refl u)

theorem onward_positioningEnd (hphase : u.jsq.phase ≠ .aborting) (e : Entry) : Onward u (u.positioningEnd e) :=
  (onward_openJet hphase e).cond (.refl u)

theorem onward_onArrived (u : State) (serial : Serial) : Onward u (u.onArrived serial) := by
  unfold State.onArrived
  split
  · exact .refl u
  · split
    · next hwhen =>
      have harrived : Onward u (u.setJsq { u.jsq with arrived := some true }) := (Onward.refl u).same
      have hphase : (u.setJsq { u.jsq with arrived := some true }).jsq.phase ≠ .aborting := phase_ne hwhen.1 Phase.noConfusion
      exact harrived.trans (onward_positioningEnd hphase _)
    · exact .refl u

theorem onward_onPressureReady (u : State) : Onward u u.onPressureReady := by
  have hclosed : Onward u (u.setJsq { u.jsq with wait := none }) := (Onward.refl u).same
  unfold State.onPressureReady
  split
  · exact .refl u
  · dsimp only
    split
    · exact hclosed
    · split
      case h_1 hphase => exact hclosed.trans (onward_positioningEnd (phase_ne hphase Phase.noConfusion) _)
      case h_2 hphase => exact hclosed.trans (onward_openJet (phase_ne hphase Phase.noConfusion) _)
      case h_3 hphase => exact hclosed.phase (phase_ne hphase Phase.noConfusion)
      case h_4 => exact hclosed

/-- A planned stop has reached its stop place with the window empty (R153). -/
structure StopReached (u : State) (place : Place) : Prop where
  stop : u.stream.stopPlace = some (.seg place)
  phase : u.jsq.phase = .holding
  cursor : u.stream.cursor = some (.seg place)
  window : u.stream.window = []

/-- Outside a stop that has reached its place nothing ends. -/
theorem holdingEnd_cases (u : State) : u.holdingEnd = u ∨ ∃ place, StopReached u place
    ∧ (u.holdingEnd = u.jetOff.becomeHeld (u.jsq.stopCause.getD .operator) place ∨ u.holdingEnd = u.jetOff.skipHead) := by
  unfold State.holdingEnd
  split
  · next place hstop =>
    split
    · next hwhen =>
      obtain ⟨hphase, hcursor, hwindow⟩ := hwhen
      refine .inr ⟨place, ⟨hstop, hphase, hcursor, hwindow⟩, ?_⟩
      split
      · exact .inl rfl
      · exact .inr rfl
    · exact .inl rfl
  · exact .inl rfl

/-- A sequencer that holds has an ACTIVE head. -/
theorem active_of_phase (h : Agreeing u) {p : Phase} (hphase : u.jsq.phase = p) (hp : p ≠ .idle ∧ p ≠ .finishing) :
    u.activeEntry.isSome = true := by
  rcases h with hrun | hrest
  · exact isSome_activeEntry.2 hrun.loaded.active
  · exact absurd (hphase ▸ hrest.phase) (not_or.2 hp)

theorem onward_holdingEnd (h : Agreeing u) : Onward u u.holdingEnd := by
  rcases holdingEnd_cases u with hc | ⟨place, hreached, hc⟩
  · rw [hc]
    exact .refl u
  · have hact := active_of_phase h hreached.phase ⟨Phase.noConfusion, Phase.noConfusion⟩
    have hcleared : Cleared u.jetOff := ⟨active_congr (hact := hact), by simpa using hreached.window⟩
    rcases hc with hc | hc <;> rw [hc]
    · exact .emptied (becomeHeld_emptied hcleared ..)
    · exact .emptied (skipHead_emptied hcleared)

theorem onward_jetOff_finish (u : State) : Onward u u.jetOff.finish := by
  have hoff : Onward u u.jetOff := (Onward.refl u).same (hphase := rfl)
  exact hoff.trans (onward_finish u.jetOff)

theorem onward_sequencerSegDone (h : Agreeing u) (e : Entry) (p : Place) : Onward u (u.sequencerSegDone e p) := by
  unfold State.sequencerSegDone
  dsimp only
  split
  · next hphase =>
    split
    · exact onward_jetOff_finish u
    · exact ((Onward.refl u).phase (phase_ne hphase Phase.noConfusion)).cond (.refl u)
  · next hphase => exact ((Onward.refl u).phase (phase_ne hphase Phase.noConfusion)).cond (.refl u)
  · split
    · exact onward_jetOff_finish u
    · exact onward_holdingEnd h
  · exact .refl u

/-! ### Holds, skips, resumes and reports -/

theorem onward_plannedStop (hphase : u.jsq.phase ≠ .aborting) (ending : Ending) : Onward u (plannedStop ending u) := by
  unfold plannedStop
  exact (Onward.refl u).phase hphase

theorem onward_holdHead (hv : holdHead u = some v) : Onward u v := by
  unfold holdHead at hv
  split at hv
  · cases hv
  · split_ifs at hv with hcutting hrests hstopping <;> cases hv
    · exact onward_plannedStop (phase_ne hcutting Phase.noConfusion) _
    · exact onward_immediateRest ..
    · exact .refl u

/-- A head at rest leaves the sequencer outside an abort. -/
theorem resting_of_inactive (h : Agreeing u) (hnone : u.activeEntry = none) : u.jsq.phase ≠ .aborting := by
  rcases h with hrun | hrest
  · obtain ⟨e, he⟩ := hrun.loaded.head
    rw [hnone] at he
    cases he
  · rcases hrest.phase with hp | hp <;> exact phase_ne hp Phase.noConfusion

theorem inactive_of_head {e : Entry} {rest : List Entry} (hq : u.queue = e :: rest) (he : e.state ≠ .active) :
    u.activeEntry = none := by
  simp [State.activeEntry, hq, he]

theorem onward_skipHead_resting (h : Agreeing u) {e : Entry} {rest : List Entry} (hq : u.queue = e :: rest)
    (he : e.state ≠ .active) : Onward u u.skipHead := by
  have hnone := inactive_of_head hq he
  refine onward_skipHead u (fun hact => ?_) (resting_of_inactive h)
  rw [hnone] at hact
  cases hact

theorem onward_skipRequest (h : Agreeing u) (hv : skipRequest u = some v) : Onward u v := by
  unfold skipRequest at hv
  split at hv
  · cases hv
  · next e rest hq =>
    split at hv
    · split_ifs at hv with hcutting hrests hstopping <;> cases hv
      · exact onward_plannedStop (phase_ne hcutting Phase.noConfusion) _
      · exact onward_immediateRest ..
      · exact (Onward.refl u).same
    · next hstate =>
      cases hv
      exact onward_skipHead_resting h hq (by rw [hstate]; exact EntryState.noConfusion)
    · next hstate =>
      cases hv
      exact onward_skipHead_resting h hq (by rw [hstate]; exact EntryState.noConfusion)
    · cases hv

/-- The checks of a resume passed (R162). -/
structure Resumable (u : State) (e : Entry) (rest : List Entry) : Prop where
  head : u.queue = e :: rest
  held : e.state = .held
  noFault : (u.pump.report.any fun r => r.code != 0) = false
  heard : u.motion.link ≠ .silent

theorem resumable_iff (u : State) : resumeFault u = none ↔ ∃ e rest, Resumable u e rest := by
  unfold resumeFault
  split
  · next hq => exact iff_of_false (by simp) fun ⟨e, rest, h⟩ => List.cons_ne_nil e rest (h.head.symm.trans hq)
  · next e rest hq =>
    constructor
    · intro h
      split_ifs at h with hheld hfault hlink
      exact ⟨e, rest, hq, not_not.1 hheld, Bool.eq_false_iff.2 hfault, hlink⟩
    · rintro ⟨x, others, h⟩
      obtain ⟨rfl, rfl⟩ := List.cons.inj (hq.symm.trans h.head)
      rw [if_neg (not_not.2 h.held), h.noFault, if_neg Bool.false_ne_true, if_neg h.heard]

theorem onward_resumeHead (h : Agreeing u) (hfault : resumeFault u = none) : Onward u (resumeHead u) := by
  obtain ⟨e, rest, hresume⟩ := (resumable_iff u).1 hfault
  have hphase := resting_of_inactive h
    (inactive_of_head hresume.head (by rw [hresume.held]; exact EntryState.noConfusion))
  unfold resumeHead
  rw [hresume.head]
  refine Onward.trans ?_ (onward_pumpSilenceAtStart _)
  exact (Onward.refl u).phase hphase

/-- The oldest record leaves the window at its SEG_DONE. -/
theorem onward_leaveWindow {f : Flight} {rest : List Flight} (h : u.stream.window = f :: rest) :
    Onward u (u.setStream { u.stream with window := rest }) := by
  refine ⟨fun hphase => .inr ⟨hphase, ?_⟩⟩
  rw [segSerials_eq, segSerials_eq, h, List.append_assoc, List.append_assoc]
  exact List.suffix_cons _ _

theorem onward_segmentDone (u : State) (e : Entry) (index : Nat) : Onward u (u.segmentDone e index) := (Onward.refl u).same

theorem onward_reportSegDone (h : Agreeing u) (serial : Serial) : Onward u (reportSegDone serial u) := by
  unfold reportSegDone
  split
  · next f rest hwindow =>
    refine Onward.cond ?_ ((Onward.refl u).raise _)
    have hleft := onward_leaveWindow hwindow
    unfold acceptSegDone
    dsimp only
    split
    · next e he =>
      have hdone : Agreeing ((u.setStream { u.stream with window := rest }).segmentDone e f.place.index) := by
        rcases h.setStream { u.stream with window := rest } with hrun | hrest
        · exact .inl ⟨hrun.loaded.segmentDone e _, by simpa using hrun.phase, by simpa using hrun.valve⟩
        · rw [hrest.inactive] at he
          cases he
      exact (hleft.trans (onward_segmentDone _ e _)).trans (onward_sequencerSegDone hdone e _)
    · exact hleft
  · exact (Onward.refl u).same

theorem onward_reportStopped (u : State) (serial : Serial) : Onward u (reportStopped serial u) := by
  unfold reportStopped
  split
  · next e he =>
    exact (Onward.emptied (restAtDone_emptied (active_confirm serial e (by rw [he]; rfl)) _ _)).cond (.refl u)
  · exact .refl u

theorem onward_raised_takeFault (u : State) (src : Source) (f : FaultEvent) : Onward u ((u.raise src).takeFault f) :=
  ((Onward.refl u).raise src).trans (onward_takeFault (u.raise src) f)

theorem onward_takeReport (h : Agreeing u) (r : Report) : Onward u (takeReport r u) := by
  cases r with
  | nothing => exact .refl u
  | segDone serial => exact onward_reportSegDone h serial
  | arrived serial => exact onward_onArrived u serial
  | stopped serial => exact onward_reportStopped u serial
  | holdReq =>
    unfold takeReport
    cases hv : holdHead u with
    | none => exact .refl u
    | some t => exact onward_holdHead hv
  | resumeReq =>
    dsimp only [takeReport]
    split
    · next hfault => exact onward_resumeHead h hfault
    · exact .refl u
  | skipReq =>
    unfold takeReport
    cases hv : skipRequest u with
    | none => exact .refl u
    | some t => exact onward_skipRequest h hv
  | motionFault => exact onward_takeFault u _
  | starvedStop serial => exact (onward_raised_takeFault u _ _).cond (.refl u)
  | linkError => exact onward_raised_takeFault u _ _
  | eventAck mask => exact (Onward.refl u).frame

theorem onward_takeOverride (u : State) (raw : Byte) : Onward u (takeOverride raw u) := by
  have hset : Onward u (u.setMotion { u.motion with override := clampOverride raw.toNat }) := (Onward.refl u).frame
  exact Onward.cond hset.same hset

theorem onward_judgeFrame (h : Agreeing u) (frame : Vector Byte 28) : Onward u (judgeFrame frame u) := by
  unfold judgeFrame
  split
  · next raw r _ =>
    have hheard : Onward u (u.setMotion { u.motion with link := .ok }) := (Onward.refl u).same
    exact (hheard.trans (onward_takeOverride _ raw)).trans (onward_takeReport (takeOverride_agreeing (h.setMotion _) raw) r)
  · exact onward_raised_takeFault u _ _

/-! ### The pump's reports, the engine and the write engine -/

theorem onward_acceptStatus (u : State) (r : PumpReport) : Onward u (acceptStatus r u) := by
  have hheard : Onward u (pumpHeard u) := (Onward.refl u).frame
  have hcode : ∀ w, Onward w (judgeFaultCode r w) := fun w => by
    have hraised : Onward w (w.raise .pumpFault) := (Onward.refl w).frame
    exact (Onward.refl w).cond (((Onward.refl w).cond hraised).trans (onward_takeFault _ _))
  have hready : ∀ w, Onward w (judgeReady r w) := fun w => by
    have hmade : Onward w (w.setPump { w.pump with ready := true }) := (Onward.refl w).same
    exact (hmade.trans (onward_onPressureReady _)).cond (.refl w)
  have hsag : ∀ w, Onward w (judgeSag r w) := fun w => by
    have hnone : Onward w (w.setPump { w.pump with sag := 0 }) := (Onward.refl w).same
    have hone : Onward w (w.setPump { w.pump with sag := 1 }) := (Onward.refl w).same
    exact (hone.cond (hnone.trans (onward_raised_takeFault _ _ _))).cond hnone
  have hflow : ∀ w, Onward w (judgeFlow r w) := fun w => (Onward.refl w).same.cond (.refl w)
  have hjudged := (((hheard.trans (hcode _)).trans (hready _)).trans (hsag _)).trans (hflow _)
  have hheld : Onward u (holdReport r (judgeFlow r (judgeSag r (judgeReady r (judgeFaultCode r (pumpHeard u)))))).settle :=
    hjudged.frame
  exact hheld.trans (onward_pierceAtOnce _ u)

theorem jobWritten_flight (job : Job) (e : Entry) (u : State) : SameFlight u (jobWritten job e u) := by
  rcases jobWritten_cases job e u with hc | hc <;> rw [hc] <;> constructor <;> simp

theorem onward_handStopPlace (u : State) (job : Job) : Onward u (handStopPlace job u) := by
  unfold handStopPlace
  split
  · exact (Onward.refl u).same
  · exact .refl u

theorem onward_completeContourPlan (u : State) (job : Job) (e : Entry) : Onward u (completeContourPlan job e u) := by
  have hchosen : Onward u (planWritten job e u).chooseWork :=
    (Onward.refl u).same (by rw [State.chooseWork_stream]; rfl) (by rw [State.chooseWork_stream]; rfl)
      (by rw [State.chooseWork_motion]; rfl) (by rw [State.chooseWork_jsq]; rfl)
  rw [completeContourPlan_eq]
  refine Onward.settle ?_
  split
  · exact (hchosen.trans (onward_tryActivate _)).cond hchosen
  · exact hchosen

theorem onward_completeActiveJob (h : Agreeing u) {job : Job} (hjob : u.planner.job = some job) (hk : job.kind ≠ .contour)
    (e : Entry) : Onward u (completeActiveJob job e u) := by
  have hhanded := (jobWritten_flight job e u).onward.trans (onward_handStopPlace _ job)
  have hagree := chooseWork_agreeing (jobDone_agreeing (handStopPlace_agreeing (jobWritten_agreeing h job e) job)
    (by rw [handStopPlace_planner, jobWritten_planner, hjob]) hk)
  rw [completeActiveJob_eq]
  have hchosen : Onward u ((handStopPlace job (jobWritten job e u)).setPlanner
      { (handStopPlace job (jobWritten job e u)).planner with job := none }).chooseWork := hhanded.same
  exact (hchosen.trans (onward_holdingEnd hagree)).settle

theorem onward_completeCommit (u : State) (c : Commit) (rest : List Commit) : Onward u (completeCommit c rest u) := by
  unfold completeCommit
  refine Onward.settle ?_
  generalize hw : takeWaitingCommit rest ((commitToBuffer c (commitResult c u) (commitToEntry c (commitResult c u)
    (commitToStore c (commitResult c u) u))).raise .commitDone) = w
  have hwritten : Onward u w.chooseWork :=
    (Onward.refl u).same (by rw [← hw]; simp) (by rw [← hw]; simp) (by rw [← hw]; simp) (by rw [← hw]; simp)
  unfold activateAfterCommit
  split
  · exact (hwritten.trans (onward_tryActivate _)).cond hwritten
  · exact hwritten

theorem onward_closeTransmitted (u : State) : Onward u (closeTransmitted u) := by
  unfold closeTransmitted
  split
  · next hphase => exact (Onward.refl u).phase (phase_ne hphase Phase.noConfusion)
  · exact .refl u

/-! ### Commands -/

theorem onward_activateNewHead (old u : State) : Onward u (State.activateNewHead old u) := (Onward.refl u).cond (onward_tryActivate u)

theorem onward_refused {r : Reply} (hr : Refused r u) : Onward u r.2 := by
  rw [hr.2]
  exact .refl u

theorem onward_okay {r : Reply} {payload : Payload} (hr : r = okay payload v) (h : Onward u v) : Onward u r.2 := by
  rw [hr]
  exact h

theorem onward_same_state {r : Reply} (hr : r.2 = u) : Onward u r.2 := by
  rw [hr]
  exact .refl u

theorem onward_filterRemoves (taken : List Entry) (h : Onward s u) : Onward s (taken.foldl filterRemove u) := by
  induction taken generalizing u with
  | nil => exact h
  | cons e rest ih =>
    have hremoved : Onward s ((u.abandonPlan e.contourId).removeEntry e (some .skipped)) := h.same
    exact ih hremoved

/-- A change of the queue that leaves the flight alone, and the activation of a new head. -/
theorem onward_newHead (old : State) (h : Onward u v) : Onward u (State.activateNewHead old v).settle :=
  (h.trans (onward_activateNewHead old v)).settle

theorem onward_acceptCommit_of {c : Commit} {r : Reply} (hr : r = acceptCommit c u) (h : Onward s u) : Onward s r.2 := by
  have hsame : Onward s (((u.setEngine (u.engine ++ [c])).setBuffer c.buffer { (u.setEngine (u.engine ++ [c])).buffer c.buffer with
      state := if u.engine.isEmpty then .committing else .commitWaiting }).modifyEntry c.contour
      fun e => { e with commitsPending := e.commitsPending + 1 }) := h.same
  rw [hr]
  exact hsame

theorem onward_writeMaterial (u : State) (i : Fin 24) (record : Material) : Onward u (writeMaterial i record u) := by
  have hframe : ∀ w : State, Onward u w → Onward u (abandonUser i w) := fun w hw => by
    rcases abandonUser_cases i w with ha | ha <;> rw [ha]
    · exact hw
    · exact hw.frame
  refine Onward.same (u := abandonUser i (u.setMaterials (u.materials.set i (rewriteRecord record u.materials[i]))))
    (hframe _ (Onward.refl u).frame) ?_ ?_ ?_ ?_ <;> simp [writeMaterial]

/-- Every command leaves the last serial in flight, or nothing. -/
theorem onward_command (c : Instr) (h : Agreeing u) : Onward u (runCommand c u).2 := by
  by_cases hk : keepsTables c = false
  · obtain ⟨config, wear, attention, ht⟩ := command_tables hk u
    rw [ht]
    exact (Onward.refl u).frame
  have hbase := Onward.refl u
  cases c with
  | bufClear buffer =>
    rcases bufClearCommand_cases buffer u with hr | ⟨_, -, -, hr⟩
    · exact onward_refused hr
    · exact onward_okay hr hbase.same
  | bufWrite buffer startSlot records =>
    rcases bufWriteCommand_cases buffer startSlot records u with hr | ⟨_, _, -, -, -, hr⟩
    · exact onward_refused hr
    · exact onward_okay hr hbase.same
  | bufRead buffer slot => exact onward_same_state (bufReadCommand_snd buffer slot u)
  | commitStatus buffer => exact onward_same_state (commitStatusCommand_snd buffer u)
  | contourOpen id tag material quality passes pierceMode closed startX startY beforeId =>
    rcases contourOpenCommand_cases id tag material quality passes pierceMode closed startX startY beforeId u with
      hr | ⟨e, _, -, -, -, -, -, hopened, hr⟩
    · exact onward_refused hr
    · exact onward_okay hr (hopened ▸ onward_newHead u hbase.frame)
  | contourAppend buffer id =>
    rcases contourAppendCommand_cases buffer id u with hr | ⟨_, _, _, _, rest, -, -, -, -, -, -, -, hr⟩
    · exact onward_refused hr
    · exact onward_acceptCommit_of hr hbase.frame
  | contourReplace buffer id position =>
    rcases contourReplaceCommand_cases buffer id position u with hr | ⟨_, _, _, _, -, -, -, -, -, -, hr⟩
    · exact onward_refused hr
    · exact onward_acceptCommit_of hr hbase
  | contourClose id =>
    rcases contourCloseCommand_cases id u with hr | ⟨e, -, -, -, -, hr⟩
    · exact onward_refused hr
    · exact onward_okay hr hbase.same
  | contourDelete id =>
    rcases contourDeleteCommand_cases id u with hr | ⟨e, -, -, hr⟩
    · exact onward_refused hr
    · exact onward_okay hr (onward_newHead u hbase.same)
  | contourMove id beforeId =>
    rcases contourMoveCommand_cases id beforeId u with hr | ⟨e, -, -, -, ⟨-, hr⟩ | ⟨_, -, hmoved, hr⟩⟩
    · exact onward_refused hr
    · exact onward_okay hr hbase
    · exact onward_okay hr (hmoved ▸ onward_newHead u hbase.frame)
  | contourQuery id => exact onward_same_state (contourQueryCommand_snd id u)
  | filterSkip base mask =>
    exact onward_newHead u (onward_filterRemoves (u.queue.filter (filterMatches base mask)) hbase).same
  | hold =>
    rcases holdCommand_cases u with hr | ⟨t, ht, hr⟩
    · exact onward_refused hr
    · exact onward_okay hr (onward_holdHead ht).settle
  | resume =>
    rcases resumeCommand_cases u with hr | ⟨hfault, hr⟩
    · exact onward_refused hr
    · exact onward_okay hr (onward_resumeHead h hfault).settle
  | skip =>
    rcases skipCommand_cases u with hr | ⟨t, ht, hr⟩
    · exact onward_refused hr
    · exact onward_okay hr (onward_skipRequest h ht).settle
  | finishedRead n =>
    rcases finishedReadCommand_cases n u with hr | hr
    · exact onward_refused hr
    · exact onward_okay hr hbase.frame
  | matWrite index record =>
    rcases matWriteCommand_cases index record u with hr | ⟨i, -, -, -, hr⟩
    · exact onward_refused hr
    · exact onward_okay hr (onward_writeMaterial u i record)
  | matRead index => exact onward_same_state (matReadCommand_snd index u)
  | matInvalidate index =>
    rcases matInvalidateCommand_cases index u with hr | ⟨i, -, -, hr⟩
    · exact onward_refused hr
    · exact onward_okay hr hbase.frame
  | routeSet jatnRoute matnRoute jatnMode matnMode =>
    rcases routeSetCommand_cases jatnRoute matnRoute jatnMode matnMode u with hr | ⟨_, _, -, -, hr⟩
    · exact onward_refused hr
    · exact onward_okay hr hbase.frame
  | eventsAck mask => exact hbase.frame
  | jobReset =>
    refine .emptied ?_
    have hempty : segSerials (jobResetCommand u).2 = segSerials (clearWork u) := by
      rw [jobResetCommand_eq]
      exact segSerials_of_same rfl rfl rfl
    exact hempty.trans (segSerials_clearWork u)
  | configSet record => exact absurd rfl hk
  | wearConfig counter source limit => exact absurd rfl hk
  | wearLevels t1 t2 t3 d1 d2 d3 => exact absurd rfl hk
  | wearLoad counter value => exact absurd rfl hk
  | wearReset counter => exact absurd rfl hk
  | _ => exact hbase

end Sys2Proof.Proofs

/-! PROOFS. The law of the serials at every step (R138, R143). -/

namespace Sys2Proof.Proofs

open Sys2Proof Sys2Proof.Machine

variable {s u v : State}

/-! ### The serials at every step -/

theorem serialLaw_start (hidle : s.motion.exchange = none) (h : SerialLaw s) : SerialLaw (chooseRecord s) := by
  obtain ⟨-, hrun, hlast⟩ := h
  rcases chooseRecord_cases s with ⟨p, hagain, hc⟩ | ⟨hagain, ⟨c, rest, hc⟩ | ⟨r, hdue, hseg, hc⟩ | hc⟩ <;> rw [hc]
  · refine ⟨.inr rfl, ?_, ?_⟩ <;> rw [segSerials_placeAgain hagain hidle]
    · exact hrun
    · exact hlast
  · refine ⟨.inr hagain, ?_, fun _ hkind => ?_⟩
    · rwa [segSerials_placeControl hagain hidle]
    · exact absurd (Option.some.inj hkind) SerialKind.noConfusion
  · obtain ⟨e, record, he, -, -, -, hfirst, hmay⟩ := segToSend_some hseg
    have hplaced := segPlaced (r := r) hagain hdue he
    have hphase : s.jsq.phase ≠ .aborting := fun hp => by
      rw [hp] at hmay
      exact Bool.false_ne_true hmay
    have hserials : segSerials s = s.stream.window.map Flight.serial := by
      rw [segSerials_eq, hidle, hagain]
      exact (List.append_nil _).trans (List.append_nil _)
    refine ⟨.inr hplaced.again, ?_, fun _ _ a ha => ?_⟩
    · rw [hplaced.serials, ← hserials]
      refine serialsRun_append hrun fun a ha => hlast hphase (hfirst.resolve_left fun hnone => ?_) a ha
      rw [hserials, hnone] at ha
      cases ha
    · rw [hplaced.serials, List.getLast?_concat] at ha
      rw [hplaced.nextSerial, Option.some.inj ha]
  · refine ⟨.inr hagain, ?_, ?_⟩
    · rwa [segSerials_placeEmpty hidle]
    · rw [segSerials_placeEmpty hidle]
      exact hlast

theorem onward_delivered_other (x : Exchange) (u : State) (h : ¬ ∃ r, x.cancelled = false ∧ x.placed.body = .seg r) :
    Onward u (delivered x u) := by
  unfold delivered
  cases hlive : x.cancelled with
  | true => exact .refl u
  | false =>
    rw [if_neg Bool.false_ne_true]
    unfold deliver
    split
    case h_2 r hseg => exact absurd ⟨r, hlive, hseg⟩ h
    case h_3 =>
      have hserial : Onward u (u.setJsq { u.jsq with traverseSerial := some (x.placed.serial.getD 0) }) := (Onward.refl u).same
      exact hserial.cond (.refl u)
    case h_4 =>
      unfold deliverContourEnd
      split
      · next hphase =>
        have hidle : Onward u u.sequencerIdle := (Onward.refl u).phase (phase_ne hphase Phase.noConfusion)
        exact hidle.trans (onward_runOn _)
      · exact .refl u
    all_goals exact .refl u

/-- The same serials in flight, the same phase and the same serial to take next. -/
structure SameSerials (s t : State) : Prop where
  serials : segSerials t = segSerials s
  jsq : t.jsq = s.jsq
  nextSerial : t.stream.nextSerial = s.stream.nextSerial
  lastKind : t.stream.lastKind = s.stream.lastKind

theorem serialLaw_congr {t : State} (hsame : SameSerials s t) (hapart : t.motion.exchange = none ∨ t.stream.again = none)
    (h : SerialLaw s) : SerialLaw t := by
  obtain ⟨-, hrun, hlast⟩ := h
  refine ⟨hapart, hsame.serials ▸ hrun, ?_⟩
  rw [hsame.serials, hsame.jsq, hsame.nextSerial, hsame.lastKind]
  exact hlast

/-- The record of an exchange keeps its place in the flight when the exchange ends. -/
theorem serialLaw_delivered {x : Exchange} (hx : s.motion.exchange = some x) (h : SerialLaw s) :
    SerialLaw (delivered x (endExchange s)) := by
  have hagain : s.stream.again = none := h.1.resolve_left (by rw [hx]; simp)
  have hserials : segSerials s = s.stream.window.map Flight.serial ++ exchangeSerials (some x) := by
    rw [segSerials_eq, hx, hagain]
    exact List.append_nil _
  by_cases hseg : ∃ r, x.cancelled = false ∧ x.placed.body = .seg r
  · obtain ⟨r, hlive, hbody⟩ := hseg
    have hd : delivered x (endExchange s) = deliverSeg (x.placed.serial.getD 0) r (endExchange s) := by
      rw [delivered, hlive, if_neg Bool.false_ne_true, deliver, hbody]
    rw [hd]
    refine serialLaw_congr (s := s) ⟨?_, rfl, rfl, rfl⟩ (.inl rfl) h
    rw [segSerials_deliverSeg, hagain, hserials, exchangeSerials_seg hlive hbody]
    exact List.append_nil _
  · have hnone : exchangeSerials (some x) = [] := by
      rw [exchangeSerials]
      refine if_neg fun hboth => hseg ?_
      obtain ⟨hlive, hbody⟩ := Bool.and_eq_true_iff.1 hboth
      unfold RecordBody.isSeg at hbody
      split at hbody
      · next r hr => exact ⟨r, by simpa using hlive, hr⟩
      · cases hbody
    have hended : SerialLaw (endExchange s) := by
      refine serialLaw_congr (s := s) ⟨?_, rfl, rfl, rfl⟩ (.inl rfl) h
      rw [segSerials_endExchange, hserials, hnone, hagain]
      rfl
    have hsheds := (delivered_cases x (endExchange s)).resolve_left fun ⟨r, hlive, hbody, _⟩ => hseg ⟨r, hlive, hbody⟩
    exact serialLaw_of_sheds hsheds (onward_delivered_other x _ hseg) hended

theorem serialLaw_cut {x : Exchange} (hx : s.motion.exchange = some x) (h : SerialLaw s) :
    SerialLaw (if x.cancelled then s.setMotion { s.motion with exchange := none }
      else (s.setMotion { s.motion with exchange := none }).setStream { s.stream with again := some x.placed }) := by
  have hagain : s.stream.again = none := h.1.resolve_left (by rw [hx]; simp)
  cases hlive : x.cancelled with
  | true =>
    refine serialLaw_congr (s := s) ⟨?_, rfl, rfl, rfl⟩ (.inl rfl) h
    rw [segSerials_eq, segSerials_eq, hx]
    simp [exchangeSerials, hlive]
  | false =>
    rw [if_neg Bool.false_ne_true]
    refine serialLaw_congr (s := s) ⟨?_, rfl, rfl, rfl⟩ (.inl rfl) h
    rw [segSerials_eq, segSerials_eq, hx, hagain, ← againSerials_live hlive]
    simp [againSerials, exchangeSerials]

theorem serialLaw_of_onward (hsheds : SteadyBetween (Sheds s) → Sheds s u) (honward : Onward s u) (h : SerialLaw s) : SerialLaw u :=
  serialLaw_of_sheds (hsheds (sheds_steady s)) honward h

/-- The serials in flight follow one another after every step, in a part whose queue, sequencer and engine agree. -/
theorem serialLaw_kept : Kept fun s => Agreeing s ∧ SerialLaw s where
  port s p h := ⟨agreeing_kept.port s p h.1,
    serialLaw_of_onward (fun hs => hs.setPort p (.refl s)) (Onward.refl s).frame h.2⟩
  commit s c rest he h := ⟨agreeing_kept.commit s c rest he h.1,
    serialLaw_of_onward (fun hs => hs.completeCommit c rest (.refl s)) (onward_completeCommit s c rest) h.2⟩
  contourPlan s job e hjob hk he h := ⟨agreeing_kept.contourPlan s job e hjob hk he h.1,
    serialLaw_of_onward (fun hs => hs.completeContourPlan job e (.refl s)) (onward_completeContourPlan s job e) h.2⟩
  activeJob s job e hjob hk he h := ⟨agreeing_kept.activeJob s job e hjob hk he h.1,
    serialLaw_of_onward (fun hs => hs.completeActiveJob job e (.refl s)) (onward_completeActiveJob h.1 hjob hk e) h.2⟩
  frameStart s hx h := ⟨agreeing_kept.frameStart s hx h.1, serialLaw_start hx h.2⟩
  frameComplete s x frame hx h := by
    refine ⟨agreeing_kept.frameComplete s x frame hx h.1, ?_⟩
    have hdelivered := serialLaw_delivered hx h.2
    have hagree : Agreeing (delivered x (endExchange s)) :=
      (h.1.setMotion _).cond (deliver_agreeing (h.1.setMotion _) x.placed)
    exact serialLaw_of_onward (fun hs => hs.judgeFrame frame s (.refl _))
      ((onward_judgeFrame hagree frame).settle.trans (onward_pierceAtOnce _ s)) hdelivered
  cutShort s x hx h := ⟨agreeing_kept.cutShort s x hx h.1, serialLaw_cut hx h.2⟩
  linkTimeout s h := by
    have hset : Onward s (s.setMotion { s.motion with timer := none, link := .silent }) := (Onward.refl s).frame
    exact ⟨agreeing_kept.linkTimeout s h.1, serialLaw_of_onward
      (fun hs => hs.settle (hs.takeFault _ (hs.raise _ (hs.setMotion _ rfl (.refl s)))))
      (hset.trans (onward_raised_takeFault _ _ _)).settle h.2⟩
  waitExpiry s hw h := by
    have hset : Onward s (s.setJsq { s.jsq with wait := none }) := (Onward.refl s).same
    exact ⟨agreeing_kept.waitExpiry s hw h.1, serialLaw_of_onward
      (fun hs => hs.settle (hs.takeFault _ (hs.raise _ (hs.setJsq _ (.refl s)))))
      (hset.trans (onward_raised_takeFault _ _ _)).settle h.2⟩
  pierce s h := ⟨agreeing_kept.pierce s h.1,
    serialLaw_of_onward (fun hs => hs.pierceExpires (.refl s)) (onward_pierceExpires s) h.2⟩
  sent s m rest hm h := by
    have hset : Onward s (s.setPump { s.pump with transmit := rest, wire := m.bytes }) := (Onward.refl s).frame
    exact ⟨agreeing_kept.sent s m rest hm h.1, serialLaw_of_onward
      (fun hs => Steady.cond (Steady.cond (hs.setJsq _ (hs.setPump _ (.refl s))) (hs.setPump _ (.refl s))) (hs.setPump _ (.refl s)))
      ((hset.trans (onward_closeTransmitted _)).cond hset) h.2⟩
  assembly s a h := ⟨agreeing_kept.assembly s a h.1,
    serialLaw_of_onward (fun hs => hs.setPump _ (.refl s)) (Onward.refl s).frame h.2⟩
  status s r h := ⟨agreeing_kept.status s r h.1,
    serialLaw_of_onward (fun hs => hs.acceptStatus r (.refl s)) (onward_acceptStatus s r) h.2⟩
  reportTimeout s h := by
    have hset : Onward s (s.setPump { s.pump with timer := none, link := .silent }) := (Onward.refl s).frame
    exact ⟨agreeing_kept.reportTimeout s h.1, serialLaw_of_onward
      (fun hs => hs.settle (hs.takeFault _ (hs.raise _ (hs.setPump _ (.refl s)))))
      (hset.trans (onward_raised_takeFault _ _ _)).settle h.2⟩
  unit s i h := by
    refine ⟨agreeing_kept.unit s i h.1, serialLaw_of_onward (fun hs => hs.settle (sheds_unit s i)) ?_ h.2⟩
    obtain ⟨config, wear, attention, ht⟩ := tablesOnly_judgeWear s (s.wear.setCounter i (s.wear.counter i).millisecond)
    rw [ht]
    exact (Onward.refl s).frame
  tick s h := by
    have htick : Onward s (timersTick s) := (Onward.refl s).same rfl rfl rfl rfl
    exact ⟨agreeing_kept.tick s h.1, serialLaw_of_onward
      (fun hs => hs.settle (hs.countWear _ (counts_tick s.jsq) (hs.timersTick (.refl s)))) htick.same.settle h.2⟩
  line s name h := ⟨⟨(agreeing_kept.line s name h.1).1, serialLaw_of_onward
      (fun hs => hs.setAttention _ (.refl s)) (Onward.refl s).frame h.2⟩,
    ⟨(agreeing_kept.line s name h.1).2, serialLaw_of_onward
      (fun hs => hs.setAttention _ (.refl s)) (Onward.refl s).frame h.2⟩⟩
  command c u h := ⟨agreeing_kept.command c u h.1, serialLaw_of_sheds (sheds_command c u) (onward_command c h.1) h.2⟩
  powerOn s h := by
    have hempty : segSerials (State.reset.setPending s.pending) = [] := by
      rw [segSerials_eq]
      rfl
    refine ⟨agreeing_kept.powerOn s h.1, .inl rfl, ?_, fun _ _ a ha => ?_⟩
    · rw [hempty]
      intro i a b ha
      cases ha
    · rw [hempty] at ha
      cases ha

/-- Settles O59: the window holds no more than R143 lets it, and the serials in flight follow one another. -/
theorem windowLawKept : Obligations.WindowLawKept := by
  unfold Obligations.WindowLawKept
  intro c s t hstep
  refine ⟨windowLaw_kept.exec hstep, fun hsafe hserials => ?_⟩
  exact (serialLaw_kept.exec hstep ⟨(jetSafe_iff.1 hsafe).1, hserials⟩).2

end Sys2Proof.Proofs

/-! PROOFS. What a fault or a hold does to the ACTIVE head, phase by phase (R151 to R161). -/

namespace Sys2Proof.Proofs

open Sys2Proof Sys2Proof.Machine

variable {s t t' u v : State} {e : Entry} {rest : List Entry} {due : List Control}

/-! ### What the words of the statements look at -/

/-- Everything that the words for a rest look at is in `t'` as in `t`; what is pending in `t` is pending in `t'`. -/
structure Alike (t t' : State) : Prop where
  queue : t'.queue = t.queue
  store : t'.store = t.store
  freePages : t'.freePages = t.freePages
  finished : t'.finished = t.finished
  config : t'.config = t.config
  materials : t'.materials = t.materials
  engine : t'.engine = t.engine
  planner : t'.planner = t.planner
  jsq : t'.jsq = t.jsq
  stream : t'.stream = t.stream
  transmit : t'.pump.transmit = t.pump.transmit
  target : t'.pump.target = t.pump.target
  gathers : Gathers t t'

theorem Alike.refl (t : State) : Alike t t := ⟨rfl, rfl, rfl, rfl, rfl, rfl, rfl, rfl, rfl, rfl, rfl, rfl, .refl t⟩

theorem Alike.settle (h : Alike t t') : Alike t t'.settle := ⟨h.queue, h.store, h.freePages, h.finished, h.config, h.materials,
  h.engine, h.planner, h.jsq, h.stream, h.transmit, h.target, h.gathers.settle⟩

theorem Alike.raise (h : Alike t t') (src : Source) : Alike t (t'.raise src) := ⟨h.queue, h.store, h.freePages, h.finished,
  h.config, h.materials, h.engine, h.planner, h.jsq, h.stream, h.transmit, h.target, h.gathers.raise src⟩

theorem Alike.setPort (h : Alike t t') (p : JobPort) : Alike t (t'.setPort p) := ⟨h.queue, h.store, h.freePages, h.finished,
  h.config, h.materials, h.engine, h.planner, h.jsq, h.stream, h.transmit, h.target, h.gathers.trans (.of_attention rfl)⟩

theorem Alike.setPump (h : Alike t t') {p : PumpLink} (htransmit : p.transmit = t'.pump.transmit := by rfl)
    (htarget : p.target = t'.pump.target := by rfl) : Alike t (t'.setPump p) := ⟨h.queue, h.store, h.freePages, h.finished,
  h.config, h.materials, h.engine, h.planner, h.jsq, h.stream, htransmit.trans h.transmit, htarget.trans h.target,
  h.gathers.trans (.of_attention rfl)⟩

theorem Alike.setMotion (h : Alike t t') (m : MotionPort) : Alike t (t'.setMotion m) := ⟨h.queue, h.store, h.freePages, h.finished,
  h.config, h.materials, h.engine, h.planner, h.jsq, h.stream, h.transmit, h.target, h.gathers.trans (.of_attention rfl)⟩

theorem noRequest_congr (h : t'.planner = t.planner) (ht : noRequest t) : noRequest t' := by
  rw [noRequest, h]
  exact ht

theorem becomesHeld_alike {cause : Cause} {place : Place} (h : BecomesHeld s t e cause place due) (ha : Alike t t') :
    BecomesHeld s t' e cause place due := by
  obtain ⟨hhead, hids, hjsq, hnone, hwindow, hdue, hcursor, hexit, hshut, hheld, hstore, hfree, hfin, hconfig, hmat, heng⟩ := h
  rw [← ha.queue] at hhead hids
  rw [← ha.jsq] at hjsq
  rw [← ha.stream] at hwindow hdue hcursor hexit
  rw [← ha.transmit] at hshut
  exact ⟨hhead, hids, hjsq, noRequest_congr ha.planner hnone, hwindow, hdue, hcursor, hexit, hshut,
    pendingWhereRouted_gathers hheld ha.gathers, ha.store.trans hstore, ha.freePages.trans hfree, ha.finished.trans hfin,
    ha.config.trans hconfig, ha.materials.trans hmat, ha.engine.trans heng⟩

theorem headLeft_alike {f : Finished} (h : HeadLeft s t e rest f) (ha : Alike t t') : HeadLeft s t' e rest f := by
  obtain ⟨hids, hfree, hstore, hfin, hend, hconfig, hmat⟩ := h
  exact ⟨by rw [ha.queue, hids], ha.freePages.trans hfree, ha.store.trans hstore, ha.finished.trans hfin,
    pendingWhereRouted_gathers hend ha.gathers, ha.config.trans hconfig, ha.materials.trans hmat⟩

theorem finishes_alike (h : Finishes s t e rest due) (ha : Alike t t') : Finishes s t' e rest due := by
  obtain ⟨hleft, hjsq, hnone, hshut, hdue, hwindow, hcursor, hexit⟩ := h
  rw [← ha.stream] at hdue hwindow hcursor hexit
  rw [← ha.transmit] at hshut
  exact ⟨headLeft_alike hleft ha, ha.jsq.trans hjsq, noRequest_congr ha.planner hnone, hshut, hdue, hwindow, hcursor, hexit⟩

theorem skippedOut_alike {f : Finished} (h : SkippedOut s t e rest f due) (ha : Alike t t') : SkippedOut s t' e rest f due := by
  obtain ⟨hleft, hwindow, ⟨list, hshut, htransmit⟩, hidle⟩ := h
  refine ⟨headLeft_alike hleft ha, by rw [ha.stream, hwindow], ⟨list, hshut, by rw [ha.transmit, ha.target, htransmit]⟩,
    fun hnot => ?_⟩
  obtain ⟨hjsq, hnone, hcursor, hexit, hdue, htarget, hempty⟩ := hidle hnot
  rw [← ha.stream] at hcursor hexit hdue
  exact ⟨ha.jsq.trans hjsq, noRequest_congr ha.planner hnone, hcursor, hexit, hdue, ha.target.trans htarget,
    pendingWhereRouted_gathers hempty ha.gathers⟩

theorem restsAtDone_alike {cause : Cause} {ending : Ending} (h : RestsAtDone s t e rest cause ending due) (ha : Alike t t') :
    RestsAtDone s t' e rest cause ending due := by
  intro done hdone
  obtain ⟨hfull, hheld, hskipped⟩ := h done hdone
  exact ⟨fun h => finishes_alike (hfull h) ha, fun h h' => becomesHeld_alike (hheld h h') ha,
    fun h h' => skippedOut_alike (hskipped h h') ha⟩

theorem startsAbort_alike {cause : Cause} {ending : Ending} (h : StartsAbort s t e cause ending) (ha : Alike t t') :
    StartsAbort s t' e cause ending := by
  obtain ⟨hhead, hids, hjsq, hnone, htransmit, hdue, hwindow, hcursor, hexit, hstore, hfree, hfin, hconfig⟩ := h
  rw [← ha.queue] at hhead hids
  rw [← ha.stream] at hdue hwindow hcursor hexit
  exact ⟨hhead, hids, ha.jsq.trans hjsq, noRequest_congr ha.planner hnone, ha.transmit.trans htransmit, hdue, hwindow, hcursor,
    hexit, ha.store.trans hstore, ha.freePages.trans hfree, ha.finished.trans hfin, ha.config.trans hconfig⟩

theorem takesFaultMoving_alike {f : FaultEvent} {ending : Ending} (h : TakesFaultMoving s t f e rest ending) (ha : Alike t t') :
    TakesFaultMoving s t' f e rest ending := by
  cases f with
  | linkSilence => exact restsAtDone_alike h ha
  | linkCheck => exact restsAtDone_alike h ha
  | motionFault => exact restsAtDone_alike h ha
  | starved serial => exact restsAtDone_alike h ha
  | _ => exact startsAbort_alike h ha

theorem takesFault_alike {f : FaultEvent} (h : TakesFault s f t) (ha : Alike t t') : TakesFault s f t' := by
  intro e rest hq he
  obtain ⟨hrests, hcutting, hstopping⟩ := h e rest hq he
  refine ⟨fun c hphase hc => becomesHeld_alike (hrests c hphase hc) ha, fun hp => takesFaultMoving_alike (hcutting hp) ha,
    fun cause ending hcause hending => ?_⟩
  obtain ⟨hholding, haborting⟩ := hstopping cause ending hcause hending
  refine ⟨fun hp => takesFaultMoving_alike (hholding hp) ha, fun hp => ?_⟩
  have hab := haborting hp
  cases f with
  | linkSilence => exact restsAtDone_alike hab ha
  | motionFault => exact restsAtDone_alike hab ha
  | starved serial => exact restsAtDone_alike hab ha
  | _ =>
    obtain ⟨hqueue, hjsq, hstream, hplanner, hstore, hfin⟩ := hab
    exact ⟨ha.queue.trans hqueue, ha.jsq.trans hjsq, ha.stream.trans hstream, ha.planner.trans hplanner, ha.store.trans hstore,
      ha.finished.trans hfin⟩

/-! ### Before a stop -/

/-- Up to `u` nothing that a stop looks at has changed since `s`, a pressure wait apart. -/
structure Unmoved (s u : State) : Prop where
  queue : u.queue = s.queue
  store : u.store = s.store
  freePages : u.freePages = s.freePages
  finished : u.finished = s.finished
  config : u.config = s.config
  materials : u.materials = s.materials
  engine : u.engine = s.engine
  planner : u.planner = s.planner
  jsq : u.jsq = { s.jsq with wait := u.jsq.wait }
  stream : u.stream = s.stream
  transmit : u.pump.transmit = s.pump.transmit
  gathers : Gathers s u

theorem Unmoved.refl (s : State) : Unmoved s s := ⟨rfl, rfl, rfl, rfl, rfl, rfl, rfl, rfl, rfl, rfl, rfl, .refl s⟩

/-- The part with the ACTIVE head `e` moving, the jet not yet shut. -/
structure Moving (s u : State) (e : Entry) (rest : List Entry) : Prop where
  law : QueueLaw u
  queue : u.queue = e :: rest
  ids : ids u = ids s
  store : u.store = s.store
  freePages : u.freePages = s.freePages
  finished : u.finished = s.finished
  config : u.config = s.config
  materials : u.materials = s.materials
  engine : u.engine = s.engine
  stream : u.stream = s.stream
  transmit : u.pump.transmit = s.pump.transmit
  contour : u.jsq.contour = s.jsq.contour
  shuts : s.jsq.valve = .closed → s.jsq.phase.jetOpen = true
  gathers : Gathers s u

theorem Unmoved.moving (h : Unmoved s u) (hlaw : QueueLaw s) (hq : s.queue = e :: rest)
    (hshuts : s.jsq.valve = .closed → s.jsq.phase.jetOpen = true) :
    Moving s u e rest where
  law := queueLaw_of_map hlaw (by rw [h.queue]) (by rw [h.queue]; exact hlaw.2.2.1) h.finished
  queue := h.queue.trans hq
  ids := ids_congr h.queue
  store := h.store
  freePages := h.freePages
  finished := h.finished
  config := h.config
  materials := h.materials
  engine := h.engine
  stream := h.stream
  transmit := h.transmit
  contour := by rw [h.jsq]
  shuts := hshuts
  gathers := h.gathers

/-- A change of the head that leaves its state and its own fields. -/
theorem Moving.modifyHead {f : Entry → Entry} (h : Moving s u e rest) (hf : KeepsOwn f) : Moving s (u.modifyHead f) (f e) rest :=
  { h with
    law := queueLaw_course h.law (Course.refl.modifyHead hf)
    queue := by rw [modifyHead_queue, h.queue]
    ids := (ids_modifyHead hf.contourId u).trans h.ids
    gathers := h.gathers.trans (.of_attention rfl) }

theorem Moving.setJsq {x : Sequencer} (h : Moving s u e rest) (hcontour : x.contour = u.jsq.contour := by rfl) :
    Moving s (u.setJsq x) e rest :=
  { h with
    law := queueLaw_of_map h.law rfl h.law.2.2.1 rfl
    contour := hcontour.trans h.contour
    gathers := h.gathers.trans (.of_attention rfl) }

/-! ### The jet is shut -/

/-- The jet-off pair while the head moves. -/
theorem Moving.jetOff (h : Moving s u e rest) : Stopped s u.jetOff e rest s.stream.due where
  law := queueLaw_of_map h.law (by simp) (by simpa using h.law.2.2.1) (by simp)
  queue := by rw [State.jetOff_queue, h.queue]
  ids := (ids_congr (by simp)).trans h.ids
  store := by rw [State.jetOff_store, h.store]
  freePages := by rw [State.jetOff_freePages, h.freePages]
  finished := by rw [State.jetOff_finished, h.finished]
  config := by rw [State.jetOff_config, h.config]
  materials := by rw [State.jetOff_materials, h.materials]
  engine := by rw [State.jetOff_engine, h.engine]
  valve := rfl
  abrasive := rfl
  shut := by
    refine ⟨fun _ => ?_, fun hvalve hclosed => ?_⟩
    · rw [State.jetOff_eq, State.setJsq_pump, State.setPump_pump, h.transmit]
    · rw [h.shuts hvalve] at hclosed
      cases hclosed
  due := by rw [State.jetOff_stream, h.stream]
  cursor := by rw [State.jetOff_stream, h.stream]
  gathers := h.gathers.trans (.of_attention (by simp))

/-- HALT or ABORT made due at a stop. -/
theorem Halted.makeStopDue (h : Halted s u e rest due) (c : Control) :
    Halted s (u.makeStopDue c) e rest (due.filter (fun c => !c.superseded) ++ [c]) :=
  { h with
    law := queueLaw_of_map h.law rfl h.law.2.2.1 rfl
    due := by
      have hdue : (u.makeStopDue c).stream.due = u.stream.due.filter (fun c => !c.superseded) ++ [c] := rfl
      rw [hdue, h.due]
    gathers := h.gathers.trans (.of_attention rfl) }

theorem Stopped.makeStopDue (h : Stopped s u e rest due) (c : Control) :
    Stopped s (u.makeStopDue c) e rest (due.filter (fun c => !c.superseded) ++ [c]) :=
  { h.toHalted.makeStopDue c with abrasive := h.abrasive }

theorem Stopped.modifyHead {f : Entry → Entry} (h : Stopped s u e rest due) (hf : KeepsOwn f) :
    Stopped s (u.modifyHead f) (f e) rest due :=
  { h with
    law := queueLaw_course h.law (Course.refl.modifyHead hf)
    queue := by rw [modifyHead_queue, h.queue]
    ids := (ids_modifyHead hf.contourId u).trans h.ids
    gathers := h.gathers.trans (.of_attention rfl) }

/-- The laws of the jet as a stop uses them: with the valve closed there is no abrasive, and an open valve asks for a phase
whose jet is open. -/
theorem closed_of_phase (h : JetSafe s) (hphase : s.jsq.phase.jetOpen = false) : s.jsq.valve = .closed := by
  refine valve_closed fun hopen => ?_
  have hjet := h.2.1.2.1 hopen
  rw [hphase] at hjet
  cases hjet

/-- Where the jet is closed already nothing is left to shut. -/
theorem Unmoved.halted (h : Unmoved s u) (hlaw : QueueLaw s) (hq : s.queue = e :: rest) (hclosed : s.jsq.valve = .closed) :
    Halted s u e rest s.stream.due where
  law := queueLaw_of_map hlaw (by rw [h.queue]) (by rw [h.queue]; exact hlaw.2.2.1) h.finished
  queue := h.queue.trans hq
  ids := ids_congr h.queue
  store := h.store
  freePages := h.freePages
  finished := h.finished
  config := h.config
  materials := h.materials
  engine := h.engine
  valve := by rw [h.jsq, hclosed]
  shut := by
    refine ⟨fun hopen => ?_, fun _ _ => h.transmit⟩
    rw [hclosed] at hopen
    cases hopen
  due := by rw [h.stream]
  cursor := by rw [h.stream]
  gathers := h.gathers

theorem Unmoved.stopped (h : Unmoved s u) (hlaw : QueueLaw s) (hjet : JetLaw s) (hq : s.queue = e :: rest)
    (hclosed : s.jsq.valve = .closed) : Stopped s u e rest s.stream.due :=
  { h.halted hlaw hq hclosed with
    abrasive := by
      have habrasive : s.jsq.abrasive = 0 := hjet hclosed
      rw [h.jsq, habrasive] }

/-- The first half of an immediate rest (R154). -/
theorem Unmoved.restAtOnce (h : Unmoved s u) (hlaw : QueueLaw s) (hq : s.queue = e :: rest) :
    Halted s u.restAtOnce e rest (s.stream.due.filter (fun c => !c.superseded) ++ [.halt])
      ∧ (JetLaw s → u.restAtOnce.jsq.abrasive = 0) := by
  have hvalve : (u.makeStopDue .halt).jsq.valve = s.jsq.valve := by
    have hjsq : (u.makeStopDue .halt).jsq = u.jsq := rfl
    rw [hjsq, h.jsq]
  unfold State.restAtOnce
  dsimp only
  rw [hvalve]
  split
  · next hopen =>
    have hmoving := h.moving hlaw hq fun hclosed => by rw [hopen] at hclosed; cases hclosed
    have hdue : Stopped s (u.makeStopDue .halt).jetOff e rest (s.stream.due.filter (fun c => !c.superseded) ++ [.halt]) :=
      hmoving.jetOff.makeStopDue .halt
    have hstopped := hdue.congr (v := (u.makeStopDue .halt).jetOff.leavePhase.clearWindow) (hvalve := rfl) (habr := rfl)
      (hdue := rfl) (hcursor := rfl)
    exact ⟨hstopped.toHalted, fun _ => hstopped.abrasive⟩
  · next hshut =>
    have hclosed : s.jsq.valve = .closed := valve_closed hshut
    have hdue := (h.halted hlaw hq hclosed).makeStopDue .halt
    refine ⟨hdue.congr (hvalve := rfl) (hdue := rfl) (hcursor := rfl), fun hjet => ?_⟩
    have habrasive : u.jsq.abrasive = 0 := by
      rw [h.jsq]
      exact hjet hclosed
    exact habrasive

theorem Unmoved.restAtOnce_stopped (h : Unmoved s u) (hlaw : QueueLaw s) (hjet : JetLaw s) (hq : s.queue = e :: rest) :
    Stopped s u.restAtOnce e rest (s.stream.due.filter (fun c => !c.superseded) ++ [.halt]) :=
  { (h.restAtOnce hlaw hq).1 with abrasive := (h.restAtOnce hlaw hq).2 hjet }

theorem placeAt_cursorPlace (segs : List SegRecord) (passes : Nat) (c : Cursor) :
    State.cursorPlace segs passes c = placeAt segs passes c := by
  cases c <;> rfl

/-- An immediate rest is a rest at the send cursor (R154). -/
theorem Unmoved.immediateHold_eq (h : Unmoved s u) (hq : s.queue = e :: rest) (he : e.state = .active) {c : Cursor}
    (hc : s.stream.cursor = some c) (cause : Cause) :
    u.immediateHold cause = u.restAtOnce.becomeHeld cause (placeAt (s.segments e) e.passes c) := by
  have hplace : u.restPoint e = placeAt (s.segments e) e.passes c := by
    rw [State.restPoint, h.stream, hc, segments_congr h.store]
    exact placeAt_cursorPlace ..
  rw [State.immediateHold, State.activeEntry_eq_some.2 ⟨rest, h.queue.trans hq, he⟩, ← hplace]

/-- An immediate rest leaves the ACTIVE head at the send cursor (R154, R155). -/
theorem Unmoved.heldAtOnce (h : Unmoved s u) (hlaw : QueueLaw s) (hq : s.queue = e :: rest) (he : e.state = .active) {c : Cursor}
    (hc : s.stream.cursor = some c) (cause : Cause) :
    HeldAt s (u.immediateHold cause) e cause (placeAt (s.segments e) e.passes c)
      (s.stream.due.filter (fun c => !c.superseded) ++ [.halt]) u.restAtOnce.jsq.abrasive := by
  rw [h.immediateHold_eq hq he hc]
  exact heldAt_of_halted (h.restAtOnce hlaw hq).1 he rfl cause _

theorem Unmoved.immediateHold (h : Unmoved s u) (hlaw : QueueLaw s) (hjet : JetLaw s) (hq : s.queue = e :: rest)
    (he : e.state = .active) {c : Cursor} (hc : s.stream.cursor = some c) (cause : Cause) :
    BecomesHeld s (u.immediateHold cause) e cause (placeAt (s.segments e) e.passes c)
      (s.stream.due.filter (fun c => !c.superseded) ++ [.halt]) :=
  HeldAt.becomesHeld ((h.restAtOnce hlaw hq).2 hjet ▸ h.heldAtOnce hlaw hq he hc cause)

/-! ### Segments confirmed -/

/-- A segment handed on as done, in the head. -/
def doneAt (segs : List SegRecord) (index : Nat) (e : Entry) : Entry :=
  { e with
    donePlace := e.donePlace.map (State.advanceDone segs e.passes index), resumeFailures := 0, restartMark := false }

theorem keepsOwn_doneAt (segs : List SegRecord) (index : Nat) : KeepsOwn (doneAt segs index) :=
  ⟨fun _ => rfl, fun _ => rfl, fun _ => rfl⟩

theorem segmentDone_eq (x : Entry) (index : Nat) (u : State) : u.segmentDone x index = u.modifyHead (doneAt (u.segments x) index)
    ∨ u.segmentDone x index
      = (u.modifyHead (doneAt (u.segments x) index)).countWear (Counter.cut (((u.segments x)[index]?.map segLength).getD 0)) := by
  unfold State.segmentDone
  dsimp only
  split
  · next r hr =>
    split
    · exact .inl rfl
    · refine .inr ?_
      rw [hr]
      rfl
  · exact .inl rfl

theorem Stopped.countWear (h : Stopped s u e rest due) (f : Counter → Counter) : Stopped s (u.countWear f) e rest due :=
  { h.congr (v := (u.countWear f).setAttention u.attention) (hatt := rfl) with
    law := queueLaw_of_map h.law (by simp) (by simpa using h.law.2.2.1) (by simp)
    gathers := h.gathers.countWear f }

theorem Stopped.segmentDone (h : Stopped s u e rest due) {x : Entry} (hx : x.pages = e.pages) (index : Nat) :
    Stopped s (u.segmentDone x index) (doneAt (s.segments e) index e) rest due := by
  have hsegs : u.segments x = s.segments e := by
    unfold State.segments
    rw [h.store, hx]
  have hdone := h.modifyHead (keepsOwn_doneAt (s.segments e) index)
  rcases segmentDone_eq x index u with hc | hc <;> rw [hc, hsegs]
  · exact hdone
  · exact hdone.countWear _

/-- The head behind a list of segments handed on, oldest first. -/
def doneThrough (segs : List SegRecord) (through : List Flight) (e : Entry) : Entry :=
  through.foldl (fun e f => doneAt segs f.place.index e) e

theorem Stopped.segmentsDone (through : List Flight) {x : Entry} (h : Stopped s u e rest due) (hx : x.pages = e.pages) :
    Stopped s (through.foldl (fun s f => s.segmentDone x f.place.index) u) (doneThrough (s.segments e) through e) rest due := by
  induction through generalizing u e with
  | nil => exact h
  | cons f through ih => exact ih (h.segmentDone hx f.place.index) hx

theorem doneThrough_eq (segs : List SegRecord) (through : List Flight) (f : Flight) (e : Entry) :
    doneThrough segs (f :: through) e = { e with
      donePlace := e.donePlace.map fun p =>
        (f :: through).foldl (fun p f => State.advanceDone segs e.passes f.place.index p) p
      resumeFailures := 0
      restartMark := false } := by
  induction through generalizing f e with
  | nil => rfl
  | cons g through ih =>
    have hstep : doneThrough segs (f :: g :: through) e = doneThrough segs (g :: through) (doneAt segs f.place.index e) := rfl
    rw [hstep, ih]
    simp [doneAt, Function.comp_def]

/-- The serial confirmation of R160 hands on the entries of the window through the one named. -/
theorem confirmedEntry_eq (segs : List SegRecord) (window : List Flight) (serial : Serial) (e : Entry) :
    confirmedEntry segs window serial e = if window.any (fun f => f.serial == serial) then
      doneThrough segs (window.take ((window.takeWhile fun f => f.serial != serial).length + 1)) e else e := by
  unfold confirmedEntry
  split
  · next hany =>
    cases window with
    | nil => cases hany
    | cons f window => rw [List.take_succ_cons, doneThrough_eq]
  · rfl

theorem Stopped.confirm (h : Stopped s u e rest due) {x : Entry} (hx : x.pages = e.pages) (serial : Serial)
    (hwindow : u.stream.window = s.stream.window) :
    Stopped s (u.confirm serial x) (confirmedEntry (s.segments e) s.stream.window serial e) rest due := by
  rw [confirmedEntry_eq]
  unfold State.confirm
  rw [hwindow]
  split
  · exact h.segmentsDone _ hx
  · exact h

/-! ### Faults -/

/-- An abort begins (R159). -/
theorem Moving.startAbort (h : Moving s u e rest) (he : e.state = .active) (cause : Cause) (ending : Ending) :
    StartsAbort s (u.startAbort cause ending) e cause ending := by
  have hstopped := h.jetOff.makeStopDue .abort
  have hlaw : QueueLaw ((u.jetOff.makeStopDue .abort).leavePhase.setJsq { (u.jetOff.makeStopDue .abort).leavePhase.jsq with
      phase := .aborting, stopCause := some cause, stopEnding := some ending }) :=
    queueLaw_of_map hstopped.law rfl hstopped.law.2.2.1 rfl
  obtain ⟨others, hothers, -⟩ := sameHead_dropRequest (e := e) (rest := rest) hlaw hstopped.queue (by simp [he])
  have hstream : (u.startAbort cause ending).stream = (u.jetOff.makeStopDue .abort).stream := State.dropRequest_stream _
  have hjsq : (u.startAbort cause ending).jsq = { (u.jetOff.makeStopDue .abort).leavePhase.jsq with
      phase := .aborting, stopCause := some cause, stopEnding := some ending } := State.dropRequest_jsq _
  have hpump : (u.startAbort cause ending).pump = (u.jetOff.makeStopDue .abort).pump := State.dropRequest_pump _
  refine ⟨?_, ?_, ?_, dropRequest_noRequest _, ?_, ?_, ?_, ?_, ?_, ?_, ?_, ?_, ?_⟩
  · exact congrArg List.head? hothers
  · exact (ids_dropRequest _).trans hstopped.ids
  · rw [hjsq, ← h.contour]
    rfl
  · rw [hpump, ← h.transmit]
    rfl
  · rw [hstream, hstopped.due]
  · rw [hstream, ← h.stream]
    rfl
  · rw [hstream, hstopped.cursor]
  · rw [hstream, ← h.stream]
    rfl
  · exact (State.dropRequest_store _).trans hstopped.store
  · exact (State.dropRequest_freePages _).trans hstopped.freePages
  · exact (State.dropRequest_finished _).trans hstopped.finished
  · exact (State.dropRequest_config _).trans hstopped.config

theorem confirmedEntry_state (segs : List SegRecord) (window : List Flight) (serial : Serial) (e : Entry) :
    (confirmedEntry segs window serial e).state = e.state := by
  unfold confirmedEntry
  split <;> rfl

/-- A fault taken while the head moves, by its class (R159). -/
theorem Moving.fault (h : Moving s u e rest) (he : e.state = .active) {x : Entry} (hx : x.pages = e.pages) (f : FaultEvent)
    (ending : Ending) : TakesFaultMoving s (u.faultWhileCutting f ending x) f e rest ending := by
  have hoff := h.jetOff
  have hdue := hoff.makeStopDue .abort
  cases f with
  | linkSilence => exact restsAtDone_of_stopped hdue he _ ending
  | linkCheck => exact restsAtDone_of_stopped hdue he _ ending
  | motionFault => exact restsAtDone_of_stopped hoff he _ ending
  | starved serial =>
    have hwindow : u.jetOff.stream.window = s.stream.window := by rw [State.jetOff_stream, h.stream]
    have hconfirmed := hoff.confirm hx serial hwindow
    exact restsAtDone_of_stopped hconfirmed ((confirmedEntry_state ..).trans he) _ ending
  | _ => exact h.startAbort he _ ending

/-- A fault taken in ABORTING (R161): later fault seen, and by its class the end of the abort. -/
theorem faultWhileAborting_eq (f : FaultEvent) (x : Entry) (u : State) : u.faultWhileAborting f x =
    match f with
    | .starved serial => ((u.modifyHead Entry.seeLaterFault).confirm serial x).endAbort
    | .motionFault | .linkSilence => (u.modifyHead Entry.seeLaterFault).endAbort
    | _ => u.modifyHead Entry.seeLaterFault := by
  cases f <;> rfl

theorem endAbort_eq {cause : Cause} {ending : Ending} (hcause : u.jsq.stopCause = some cause)
    (hending : u.jsq.stopEnding = some ending) : u.endAbort = u.restAtDone cause ending := by
  rw [State.endAbort, hcause, hending]
  rfl

/-- What a fault does to the ACTIVE head, by JSQ's phase (R158 to R161). -/
theorem takesFault (h : Unmoved s u) (hjsq : s.jsq.phase = .aborting → u.jsq = s.jsq) (hsafe : JetSafe s) (f : FaultEvent) :
    TakesFault s f (u.takeFault f) := by
  intro e rest hq he
  have hact : u.activeEntry = some e := State.activeEntry_eq_some.2 ⟨rest, h.queue.trans hq, he⟩
  have hphase : u.jsq.phase = s.jsq.phase := by rw [h.jsq]
  refine ⟨fun c hin hc => ?_, fun hcutting => ?_, fun cause ending hcause hending => ⟨fun hholding => ?_, fun haborting => ?_⟩⟩
  · have heq : u.takeFault f = u.immediateHold f.cause := by
      rw [State.takeFault, hact, hphase]
      revert hin
      cases s.jsq.phase <;> simp
    rw [heq]
    exact h.immediateHold hsafe.1 hsafe.2.2.1 hq he hc f.cause
  · have heq : u.takeFault f = u.faultWhileCutting f .held e := by
      rw [State.takeFault, hact, hphase, hcutting]
    rw [heq]
    exact (h.moving hsafe.1 hq (fun _ => by rw [hcutting]; rfl)).fault he rfl f .held
  · have hending' : u.jsq.stopEnding = some ending := by rw [h.jsq, ← hending]
    have heq : u.takeFault f = ((u.setJsq { u.jsq with stopCause := some f.cause }).modifyHead
        Entry.seeLaterFault).faultWhileCutting f ending e := by
      rw [State.takeFault, hact, hphase, hholding, hending']
      rfl
    rw [heq]
    have hmoving : Moving s ((u.setJsq { u.jsq with stopCause := some f.cause }).modifyHead Entry.seeLaterFault)
        { e with laterFault := some true } rest :=
      (h.moving hsafe.1 hq (fun _ => by rw [hholding]; rfl)).setJsq.modifyHead keepsOwn_seeLaterFault
    exact hmoving.fault he rfl f ending
  · have hstopped : Stopped s (u.modifyHead Entry.seeLaterFault) { e with laterFault := some true } rest s.stream.due :=
      (h.stopped hsafe.1 hsafe.2.2.1 hq (closed_of_phase hsafe (by rw [haborting]; rfl))).modifyHead keepsOwn_seeLaterFault
    have heq : u.takeFault f = u.faultWhileAborting f e := by
      rw [State.takeFault, hact, hphase, haborting]
    have hcause' : u.jsq.stopCause = some cause := by rw [h.jsq, ← hcause]
    have hending' : u.jsq.stopEnding = some ending := by rw [h.jsq, ← hending]
    rw [heq, faultWhileAborting_eq]
    cases f with
    | starved serial =>
      have hwindow : (u.modifyHead Entry.seeLaterFault).stream.window = s.stream.window := by
        rw [State.modifyHead_stream, h.stream]
      dsimp only
      rw [endAbort_eq (cause := cause) (ending := ending) (by rw [confirm_jsq]; exact hcause') (by rw [confirm_jsq]; exact hending')]
      have hconfirmed := hstopped.confirm (x := e) rfl serial hwindow
      exact restsAtDone_of_stopped hconfirmed ((confirmedEntry_state ..).trans he) cause ending
    | motionFault =>
      dsimp only
      rw [endAbort_eq (u := u.modifyHead Entry.seeLaterFault) hcause' hending']
      exact restsAtDone_of_stopped hstopped he cause ending
    | linkSilence =>
      dsimp only
      rw [endAbort_eq (u := u.modifyHead Entry.seeLaterFault) hcause' hending']
      exact restsAtDone_of_stopped hstopped he cause ending
    | _ => exact ⟨hstopped.queue, hjsq haborting, h.stream, h.planner, h.store, h.finished⟩

end Sys2Proof.Proofs

/-! PROOFS. Faults as events take them: cut and damaged frames, the silence of the links (R133 to R135, R173). -/

namespace Sys2Proof.Proofs

open Sys2Proof Sys2Proof.Machine

variable {s t u v : State} {e : Entry} {rest : List Entry}

/-! ### No pierce starts -/

/-- From `u` to `v` no pierce timer has been started. -/
structure Unpierced (u v : State) : Prop where
  pierceMs : u.jsq.pierceMs = none → v.jsq.pierceMs = none

theorem Unpierced.of_same (h : v.jsq.pierceMs = u.jsq.pierceMs := by simp) : Unpierced u v := ⟨fun hu => h.trans hu⟩

theorem Unpierced.stopped (h : v.jsq.pierceMs = none := by simp) : Unpierced u v := ⟨fun _ => h⟩

theorem Unpierced.trans (h : Unpierced s u) (h' : Unpierced u v) : Unpierced s v := ⟨fun hs => h'.pierceMs (h.pierceMs hs)⟩

theorem Unpierced.cond {c : Prop} [Decidable c] (h : Unpierced s u) (h' : Unpierced s v) : Unpierced s (if c then u else v) := by
  split
  · exact h
  · exact h'

theorem Unpierced.settle (h : Unpierced s u) : Unpierced s u.settle := ⟨h.pierceMs⟩

/-- Where no pierce timer was started none expires at once. -/
theorem Unpierced.pierceAtOnce (h : Unpierced s u) : u.pierceAtOnce s = u := by
  unfold State.pierceAtOnce
  refine if_neg fun hboth => ?_
  rw [h.pierceMs hboth.1] at hboth
  exact absurd hboth.2 (by simp)

theorem unpierced_becomeHeld (u : State) (cause : Cause) (point : Place) : Unpierced u (u.becomeHeld cause point) := by
  unfold State.becomeHeld
  split
  · exact .of_same
  · exact .stopped (by simp [sequencerIdle_jsq])

theorem unpierced_restAtOnce (u : State) : Unpierced u u.restAtOnce := by
  refine .stopped ?_
  unfold State.restAtOnce
  rfl

theorem unpierced_immediateHold (u : State) (cause : Cause) : Unpierced u (u.immediateHold cause) := by
  unfold State.immediateHold
  split
  · exact .of_same
  · exact (unpierced_restAtOnce u).trans (unpierced_becomeHeld ..)

theorem unpierced_pumpSilenceAtStart (u : State) : Unpierced u u.pumpSilenceAtStart :=
  (unpierced_immediateHold u _).cond .of_same

theorem unpierced_silenceAtStart (u : State) : Unpierced u u.silenceAtStart :=
  ((unpierced_immediateHold u _).cond .of_same).trans (unpierced_pumpSilenceAtStart _)

theorem unpierced_startSequence (u : State) (e : Entry) (mode : PierceMode) (x y : Nat) :
    Unpierced u (u.startSequence e mode x y) := .of_same rfl

theorem unpierced_tryActivate (u : State) : Unpierced u u.tryActivate := by
  rcases State.tryActivate_cases u with hc | ⟨e, rest, -, -, -, -, hc⟩ <;> rw [hc]
  · exact .of_same
  · rw [activate_eq]
    have hactivated : Unpierced u (activated e u) := .of_same
    exact (hactivated.trans (unpierced_startSequence ..)).trans (unpierced_silenceAtStart _)

theorem unpierced_runOn (u : State) : Unpierced u u.runOn := (unpierced_tryActivate u).cond .of_same

theorem unpierced_skipHead (u : State) : Unpierced u u.skipHead := by
  cases hq : u.queue with
  | nil =>
    rw [State.skipHead, hq]
    exact .of_same
  | cons e rest =>
    rw [skipHead_eq hq]
    have hidle : Unpierced u (skippedHead e u) := .stopped (by simp [skippedHead, sequencerIdle_jsq])
    exact hidle.trans (unpierced_runOn _)

theorem unpierced_finish (u : State) : Unpierced u u.finish := by
  unfold State.finish
  split
  · exact .of_same
  · exact .stopped (by simp [State.leavePhase])

theorem unpierced_restAtDone (u : State) (cause : Cause) (ending : Ending) : Unpierced u (u.restAtDone cause ending) := by
  have hcleared : Unpierced u u.clearWindow := .of_same rfl
  unfold State.restAtDone
  split
  · exact .of_same
  · refine (hcleared.trans (unpierced_finish _)).cond ?_
    cases ending with
    | held => exact hcleared.trans (unpierced_becomeHeld ..)
    | skipped => exact hcleared.trans (unpierced_skipHead _)

theorem unpierced_startAbort (u : State) (cause : Cause) (ending : Ending) : Unpierced u (u.startAbort cause ending) :=
  .stopped (by simp [State.startAbort, State.leavePhase])

theorem unpierced_faultWhileCutting (u : State) (f : FaultEvent) (ending : Ending) (e : Entry) :
    Unpierced u (u.faultWhileCutting f ending e) := by
  have hoff : Unpierced u u.jetOff := .of_same rfl
  have hdue : Unpierced u (u.jetOff.makeStopDue .abort) := .of_same rfl
  cases f with
  | linkSilence => exact hdue.trans (unpierced_restAtDone ..)
  | linkCheck => exact hdue.trans (unpierced_restAtDone ..)
  | motionFault => exact hoff.trans (unpierced_restAtDone ..)
  | starved serial =>
    have hconfirmed : Unpierced u (u.jetOff.confirm serial e) := .of_same (by rw [confirm_jsq]; rfl)
    exact hconfirmed.trans (unpierced_restAtDone ..)
  | _ => exact unpierced_startAbort ..

theorem unpierced_faultWhileAborting (u : State) (f : FaultEvent) (e : Entry) : Unpierced u (u.faultWhileAborting f e) := by
  have hseen : Unpierced u (u.modifyHead Entry.seeLaterFault) := .of_same
  rw [faultWhileAborting_eq]
  cases f with
  | starved serial =>
    have hconfirmed : Unpierced u ((u.modifyHead Entry.seeLaterFault).confirm serial e) := .of_same (by rw [confirm_jsq]; simp)
    exact hconfirmed.trans (unpierced_restAtDone ..)
  | motionFault => exact hseen.trans (unpierced_restAtDone ..)
  | linkSilence => exact hseen.trans (unpierced_restAtDone ..)
  | _ => exact hseen

theorem unpierced_takeFault (u : State) (f : FaultEvent) : Unpierced u (u.takeFault f) := by
  have hhold := unpierced_immediateHold u f.cause
  have hcause : Unpierced u ((u.setJsq { u.jsq with stopCause := some f.cause }).modifyHead Entry.seeLaterFault) := .of_same rfl
  unfold State.takeFault
  split
  · exact .of_same
  · split
    case h_7 => exact unpierced_faultWhileCutting ..
    case h_8 => exact hcause.trans (unpierced_faultWhileCutting ..)
    case h_9 => exact unpierced_faultWhileAborting ..
    case h_10 => exact .of_same
    case h_11 => exact .of_same
    all_goals exact hhold

/-! ### The motion link -/

theorem exec_motionFrameCutShort {x : Exchange} (hx : s.motion.exchange = some x) :
    exec .motionFrameCutShort s = .next (if x.cancelled then s.setMotion { s.motion with exchange := none }
      else (s.setMotion { s.motion with exchange := none }).setStream { s.stream with again := some x.placed }) := by
  have hexec : exec .motionFrameCutShort s = execMotionFrameCutShort s := rfl
  rw [hexec, execMotionFrameCutShort, hx]
  rfl

/-- A frame that fails its check, beside an EMPTY record (R134). -/
theorem exec_frame_failed {x : Exchange} (hx : s.motion.exchange = some x) (hempty : ∃ mask, x.placed.body = .empty mask)
    {frame : Vector Byte 28} (hdecode : decodeFrame frame = none) :
    exec (.motionFrameComplete frame) s
      = .next (((endExchange s).raise .motionLinkFault).takeFault .linkCheck).settle := by
  have hended : Unpierced s ((endExchange s).raise .motionLinkFault) := .of_same rfl
  have hunpierced := (hended.trans (unpierced_takeFault _ .linkCheck)).settle
  rw [exec_motionFrameComplete hx, completeExchange_eq, delivered_empty hempty, judgeFrame_failed hdecode, failFrame,
    hunpierced.pierceAtOnce]

/-- The motion link silent. -/
abbrev silenced (s : State) : State := s.setMotion { s.motion with timer := none, link := .silent }

theorem exec_motionLinkTimeout {n : Nat} (htimer : s.motion.timer = some n) :
    exec .motionLinkTimeout s = .next (((silenced s).raise .motionLinkFault).takeFault .linkSilence).settle := by
  have hexec : exec .motionLinkTimeout s = execMotionLinkTimeout s := rfl
  rw [hexec, execMotionLinkTimeout, htimer]

theorem takeFault_inactive (h : u.activeEntry = none) (src : Source) (f : FaultEvent) :
    ((u.raise src).takeFault f).settle = u.setAttention ((u.raise src).settle).attention := by
  rw [State.takeFault_of_inactive ((activeEntry_congr (by simp)).trans h)]
  rfl

/-- A source raised before a fault is pending behind it. -/
theorem pending_takeFault (h : Gathers s u) (src : Source) (f : FaultEvent) :
    pendingWhereRouted src s ((u.raise src).takeFault f).settle :=
  h.pending ((gathers_steady _).settle ((gathers_steady _).takeFault f (.refl _)))

theorem unmoved_of_motion (s : State) (m : MotionPort) (src : Source) : Unmoved s ((s.setMotion m).raise src) :=
  ⟨rfl, rfl, rfl, rfl, rfl, rfl, rfl, rfl, rfl, rfl, rfl, Gathers.raise (s := s) (t := s.setMotion m) (.of_attention rfl) src⟩

/-- A report kind is one of R146's table up to 10. -/
theorem ofBytes_ne_none (kind : Byte) (field : BitVec 16) : Report.ofBytes kind field = none ↔ ¬ kind.toNat ≤ 10 := by
  unfold Report.ofBytes
  split <;> simp_all <;> omega

theorem decodeFrame_ne_none (frame : Vector Byte 28) :
    decodeFrame frame ≠ none ↔ byteSum frame.toList = 0 ∧ frame[0].toNat ≤ 10 := by
  rw [decodeFrame]
  split
  · next hsum => simp [ofBytes_ne_none, hsum]
  · next hsum => exact iff_of_false (by simp) fun h => hsum h.1

/-- The operations of a fault touch no more of the motion port than the record in its frame. -/
theorem steady_motion (m : MotionPort) : Steady fun u => { u.motion with exchange := m.exchange } = m where
  setQueue _ h := h
  setStore _ h := h
  setFreePages _ h := h
  setEngine _ h := h
  setFinished _ h := h
  setPlanner _ h := h
  setJsq _ h := h
  setStream _ _ h := h
  endActive h := h
  setPump _ h := h
  raise _ h := h
  settle h := h
  countWear _ _ h := by rw [State.countWear_motion]; exact h

theorem takeFault_link (u : State) (f : FaultEvent) : (u.takeFault f).motion.link = u.motion.link
    ∧ (u.takeFault f).motion.override = u.motion.override ∧ (u.takeFault f).motion.timer = u.motion.timer := by
  have h := (steady_motion u.motion).takeFault f (u := u) rfl
  rw [← h]
  exact ⟨rfl, rfl, rfl⟩

/-- Settles O55: an ACTIVE head takes the fault, whatever else changes on the link. -/
theorem linkFailures : Obligations.LinkFailures := by
  unfold Obligations.LinkFailures
  intro s x frame n
  refine ⟨exec_motionFrameCutShort, fun hnone hx hempty hdecode => ?_, fun hnone htimer => ?_,
    fun hsafe hx hempty hdecode => ?_, fun hsafe htimer => ?_, decodeFrame_ne_none⟩
  · refine ⟨_, exec_frame_failed hx hempty hdecode, pending_takeFault (u := endExchange s) (.of_attention rfl) _ _, ?_⟩
    rw [takeFault_inactive (u := endExchange s) hnone]
    rfl
  · refine ⟨_, exec_motionLinkTimeout htimer, pending_takeFault (u := silenced s) (.of_attention rfl) _ _, ?_⟩
    rw [takeFault_inactive (u := silenced s) hnone]
    rfl
  · obtain ⟨hlink, hoverride, -⟩ := takeFault_link ((endExchange s).raise .motionLinkFault) .linkCheck
    have hfault := takesFault (u := (endExchange s).raise .motionLinkFault) (unmoved_of_motion s _ _) (fun _ => rfl) hsafe .linkCheck
    exact ⟨_, exec_frame_failed hx hempty hdecode, pending_takeFault (u := endExchange s) (.of_attention rfl) _ _,
      takesFault_alike hfault (Alike.refl _).settle,
      hlink, hoverride⟩
  · obtain ⟨hlink, -, htimer'⟩ := takeFault_link ((silenced s).raise .motionLinkFault) .linkSilence
    have hfault := takesFault (u := (silenced s).raise .motionLinkFault) (unmoved_of_motion s _ _) (fun _ => rfl) hsafe .linkSilence
    exact ⟨_, exec_motionLinkTimeout htimer, pending_takeFault (u := silenced s) (.of_attention rfl) _ _,
      takesFault_alike hfault (Alike.refl _).settle,
      hlink, htimer'⟩

end Sys2Proof.Proofs

/-! PROOFS. HOLD and SKIP: planned stops, immediate rests and the skipped head (R151 to R157). -/

namespace Sys2Proof.Proofs

open Sys2Proof Sys2Proof.Machine

variable {s t u v : State} {e : Entry} {rest : List Entry}

/-! ### A request for the ACTIVE head -/

/-- A job's start is a change of the planner. -/
theorem startActiveJob_tables (kind : JobKind) (e : Entry) (p : Planner) (u : State) :
    ∃ p', (u.setPlanner p).startActiveJob kind e = (u.setPlanner p').setQueue u.queue :=
  ⟨((u.setPlanner p).startActiveJob kind e).planner, rfl⟩

/-- A request touches the planner and, where it abandons a contour plan, that plan's entry. -/
theorem takeRequest_tables (kind : JobKind) (u : State) : ∃ p q, u.takeRequest kind = (u.setPlanner p).setQueue q := by
  unfold State.takeRequest
  split
  · exact ⟨u.planner, u.queue, rfl⟩
  · next e _ =>
    have hmark : ∃ p, (if kind = .stop then u.setPlanner { u.planner with stopTaken := true } else u) = u.setPlanner p := by
      split
      · exact ⟨_, rfl⟩
      · exact ⟨u.planner, rfl⟩
    obtain ⟨p, hmark⟩ := hmark
    rw [hmark]
    dsimp only
    split
    · obtain ⟨p', hstart⟩ := startActiveJob_tables kind e p u
      exact ⟨p', u.queue, hstart⟩
    · next job _ =>
      split
      · obtain ⟨p', hstart⟩ := startActiveJob_tables kind e p
          (u.modifyEntry job.contour fun x => { x with state := .waitingPlan })
        exact ⟨p', _, hstart⟩
      · split
        · next merged _ =>
          obtain ⟨p', hstart⟩ := startActiveJob_tables merged e p u
          exact ⟨p', u.queue, hstart⟩
        · exact ⟨p, u.queue, rfl⟩

theorem mergeRequest_stop (kind : JobKind) : kind = .stop ∧ mergeRequest kind .stop = none ∨ mergeRequest kind .stop = some .stop := by
  cases kind <;> simp [mergeRequest]

/-- A STOP taken is the request outstanding (R96), and its taking is marked (R97). -/
theorem takeRequest_stop (hact : u.activeEntry = some e) : (u.takeRequest .stop).planner.stopTaken = true
    ∧ ∃ job, (u.takeRequest .stop).planner.job = some job ∧ job.kind = .stop := by
  unfold State.takeRequest
  rw [hact]
  dsimp only [if_true]
  split
  · exact ⟨rfl, _, rfl, rfl⟩
  · next job hjob =>
    split
    · exact ⟨rfl, _, rfl, rfl⟩
    · rcases mergeRequest_stop job.kind with ⟨hstop, hmerge⟩ | hmerge <;> rw [hmerge]
      · exact ⟨rfl, job, hjob, hstop⟩
      · exact ⟨rfl, _, rfl, rfl⟩

/-- A planned stop takes a STOP and enters HOLDING (R152). -/
theorem plannedStop_eq (hsound : Sound u) (hq : u.queue = e :: rest) (he : e.state = .active) (ending : Ending) :
    ∃ p q job, plannedStop ending u = ((u.setPlanner p).setQueue q).setJsq
        { u.jsq with phase := .holding, stopCause := some .operator, stopEnding := some ending }
      ∧ p.stopTaken = true ∧ p.job = some job ∧ job.kind = .stop ∧ q.head? = some e := by
  obtain ⟨p, q, htables⟩ := takeRequest_tables .stop u
  obtain ⟨hstop, job, hjob, hkind⟩ := takeRequest_stop (State.activeEntry_eq_some.2 ⟨rest, hq, he⟩)
  obtain ⟨others, hothers, -⟩ := sameHead_takeRequest (kind := .stop) hsound hq (by simp [he])
  rw [htables] at hstop hjob hothers
  refine ⟨p, q, job, ?_, hstop, hjob, hkind, congrArg List.head? hothers⟩
  unfold plannedStop
  rw [htables]
  rfl

/-! ### The commands through the port -/

theorem respond_condition (u : State) (r : Response) : (u.respond r).port.condition = .responding r 0 := rfl

theorem alike_respond (u : State) (r : Response) : Alike u (u.settle.respond r) := ((Alike.refl u).settle).setPort _

theorem settle_respond_of_quiet (h : Quiet u) (r : Response) : u.settle.respond r = u.respond r := by
  rw [State.settle_of_quiet h]

/-- Up to the carrying out of a command only the port has changed. -/
theorem unmoved_atWork (s : State) : Unmoved s (atWork s) :=
  ⟨rfl, rfl, rfl, rfl, rfl, rfl, rfl, rfl, rfl, rfl, rfl, .of_attention rfl⟩

theorem exec_hold (hopen : portOpen s) (h : holdHead (atWork s) = some v) :
    exec .hold s = .next (v.settle.respond ⟨.ok, .empty⟩) := by
  have hrun : runCommand .hold (atWork s) = okay .empty v.settle := by
    rw [show runCommand .hold (atWork s) = holdCommand (atWork s) from rfl, holdCommand, h]
  rw [exec_of_command rfl, State.onJobPort_of_open hopen, hrun]
  rfl

theorem exec_hold_refused (hopen : portOpen s) (h : holdHead (atWork s) = none) :
    exec .hold s = .next (s.respond (plainRefusal .wrongState)) := by
  refine exec_answers rfl hopen ?_
  rw [show runCommand .hold (atWork s) = holdCommand (atWork s) from rfl, holdCommand, h]
  rfl

theorem exec_skip (hopen : portOpen s) (h : skipRequest (atWork s) = some v) :
    exec .skip s = .next (v.settle.respond ⟨.ok, .empty⟩) := by
  have hrun : runCommand .skip (atWork s) = okay .empty v.settle := by
    rw [show runCommand .skip (atWork s) = skipCommand (atWork s) from rfl, skipCommand, h]
  rw [exec_of_command rfl, State.onJobPort_of_open hopen, hrun]
  rfl

theorem exec_skip_refused (hopen : portOpen s) (h : skipRequest (atWork s) = none) :
    exec .skip s = .next (s.respond (plainRefusal .wrongState)) := by
  refine exec_answers rfl hopen ?_
  rw [show runCommand .skip (atWork s) = skipCommand (atWork s) from rfl, skipCommand, h]
  rfl

/-! ### The head by JSQ's phase -/

/-- The phases of a contour in which a hold or a skip is an immediate rest (R151, R156). -/
theorem restsAtOnce_of_mem {p : Phase}
    (h : p ∈ [.positioning, .piercePressure, .piercing, .cutPressure, .bridgeStop, .bridgeTravel]) :
    p ≠ .cutting ∧ p.restsAtOnce = true := by
  revert h
  cases p <;> simp [Phase.restsAtOnce]

theorem stopping_of_or {p : Phase} (h : p = .holding ∨ p = .aborting) :
    p ≠ .cutting ∧ p.restsAtOnce = false ∧ p.stopping = true := by
  rcases h with rfl | rfl <;> simp [Phase.restsAtOnce, Phase.stopping]

theorem holdHead_cutting (hact : u.activeEntry = some e) (hphase : u.jsq.phase = .cutting) :
    holdHead u = some (plannedStop .held u) := by
  rw [holdHead, hact]
  exact if_pos hphase

theorem holdHead_rests (hact : u.activeEntry = some e) (hphase : u.jsq.phase ≠ .cutting ∧ u.jsq.phase.restsAtOnce = true) :
    holdHead u = some (u.immediateHold .operator) := by
  have hrest : u.immediateRest .operator .held = u.immediateHold .operator := by rw [State.immediateRest, hact]
  rw [holdHead, hact]
  dsimp only
  rw [if_neg hphase.1, if_pos hphase.2, hrest]

theorem holdHead_stopping (hact : u.activeEntry = some e)
    (hphase : u.jsq.phase ≠ .cutting ∧ u.jsq.phase.restsAtOnce = false ∧ u.jsq.phase.stopping = true) : holdHead u = some u := by
  rw [holdHead, hact]
  dsimp only
  rw [if_neg hphase.1, if_neg (by simp [hphase.2.1]), if_pos hphase.2.2]

theorem skipRequest_cutting (hq : u.queue = e :: rest) (he : e.state = .active) (hphase : u.jsq.phase = .cutting) :
    skipRequest u = some (plannedStop .skipped u) := by
  rw [skipRequest, hq]
  dsimp only
  rw [he]
  exact if_pos hphase

theorem skipRequest_stopping (hq : u.queue = e :: rest) (he : e.state = .active)
    (hphase : u.jsq.phase ≠ .cutting ∧ u.jsq.phase.restsAtOnce = false ∧ u.jsq.phase.stopping = true) :
    skipRequest u = some (u.setJsq { u.jsq with stopEnding := some .skipped }) := by
  rw [skipRequest, hq]
  dsimp only
  rw [he]
  dsimp only
  rw [if_neg hphase.1, if_neg (by simp [hphase.2.1]), if_pos hphase.2.2]

/-- The entry whose done position is set to a place of rest. -/
def doneTo (p : Place) (e : Entry) : Entry := { e with donePlace := some p }

theorem keepsOwn_doneTo (p : Place) : KeepsOwn (doneTo p) := keepsOwn_donePlace (some p)

theorem skipRequest_rests (hq : u.queue = e :: rest) (he : e.state = .active)
    (hphase : u.jsq.phase ≠ .cutting ∧ u.jsq.phase.restsAtOnce = true) :
    skipRequest u = some ((u.restAtOnce.modifyHead
      (doneTo (State.pastBridge (u.segments e) e.passes (u.restPoint e)))).skipHead) := by
  have hrest : u.immediateRest .operator .skipped = ((u.restAtOnce.modifyHead
      (doneTo (State.pastBridge (u.segments e) e.passes (u.restPoint e)))).skipHead) := by
    rw [State.immediateRest, State.activeEntry_eq_some.2 ⟨rest, hq, he⟩]
    rfl
  rw [skipRequest, hq]
  dsimp only
  rw [he]
  dsimp only
  rw [if_neg hphase.1, if_pos hphase.2, hrest]

theorem skipRequest_stood (hq : u.queue = e :: rest) (he : e.state = .held ∨ e.state = .failed) :
    skipRequest u = some u.skipHead := by
  rw [skipRequest, hq]
  dsimp only
  rcases he with he | he <;> rw [he]

theorem skipRequest_none (h : u.queue = [] ∨ u.queue.head? = some e ∧ e.state.begun = false) : skipRequest u = none := by
  unfold skipRequest
  rcases h with h | ⟨h, he⟩
  · rw [h]
  · cases hq : u.queue with
    | nil => rfl
    | cons x xs =>
      rw [hq] at h
      cases h
      dsimp only
      revert he
      cases e.state <;> simp [EntryState.begun]

/-! ### HOLD -/

/-- Settles O47, by the phase of JSQ. -/
theorem holdBringsToRest : Obligations.HoldBringsToRest := by
  intro s hopen hquiet hsafe
  refine ⟨fun hnone => ?_, fun e rest hq he => ⟨fun hphase => ?_, fun hphase => ?_, fun c hphase hc => ?_⟩⟩
  · refine exec_hold_refused hopen ?_
    have hnone' : (atWork s).activeEntry = none := hnone
    rw [holdHead, hnone']
  · have hact : (atWork s).activeEntry = some e := State.activeEntry_eq_some.2 ⟨rest, hq, he⟩
    rw [exec_hold hopen (holdHead_stopping hact (stopping_of_or hphase)), settle_respond_of_quiet (u := atWork s) hquiet]
    rfl
  · have hact : (atWork s).activeEntry = some e := State.activeEntry_eq_some.2 ⟨rest, hq, he⟩
    have hsound : Sound (atWork s) := ((jetSafe_iff.1 hsafe).1.frame (v := atWork s)).sound
    obtain ⟨p, q, job, hplan, hstop, hjob, hkind, hhead⟩ := plannedStop_eq (u := atWork s) hsound hq he .held
    refine ⟨_, exec_hold hopen (holdHead_cutting hact hphase), respond_condition .., ?_⟩
    rw [hplan, settle_respond_of_quiet (u := (((atWork s).setPlanner p).setQueue q).setJsq _) hquiet]
    exact ⟨rfl, hstop, ⟨job, hjob, hkind⟩, hhead, rfl⟩
  · have hact : (atWork s).activeEntry = some e := State.activeEntry_eq_some.2 ⟨rest, hq, he⟩
    refine ⟨_, exec_hold hopen (holdHead_rests hact (restsAtOnce_of_mem hphase)), respond_condition ..,
      becomesHeld_alike ((unmoved_atWork s).immediateHold hsafe.1 hsafe.2.2.1 hq he hc .operator) (alike_respond ..), ?_, ?_, ?_⟩
    · exact State.immediateHold_wear ..
    · exact State.immediateHold_bufA ..
    · exact State.immediateHold_bufB ..

/-! ### SKIP -/

theorem skippedRecord_own (segs : List SegRecord) (e : Entry) :
    (skippedRecord segs e).contourId = e.contourId ∧ (skippedRecord segs e).tag = e.tag
      ∧ (skippedRecord segs e).outcome = .skipped ∧ (skippedRecord segs e).holdCount = e.holdCount
      ∧ (skippedRecord segs e).lastHoldCause = e.lastHoldCause := by
  unfold skippedRecord
  cases e.donePlace <;> exact ⟨rfl, rfl, rfl, rfl, rfl⟩

/-- The finished list holds 16 at most, so its length tells whether it is full (R20). -/
theorem finished_full (h : QueueLaw s) : (if 16 ≤ s.finished.length then s.finished.drop 1 else s.finished)
    = if s.finished.length = 16 then s.finished.tail else s.finished := by
  have hle := h.2.2.2
  rw [List.drop_one]
  exact if_congr (by omega) rfl rfl

/-- The head of a part at rest has been brought to a stop with the jet shut. -/
theorem stopped_of_inactive (hsafe : JetSafe s) (hu : Unmoved s u) (hq : s.queue = e :: rest) (he : e.state ≠ .active) :
    Stopped s u e rest s.stream.due := hu.stopped hsafe.1 hsafe.2.2.1 hq (hsafe.2.2.2 (inactive_of_head hq he))

/-- An accepted skip that takes the head out at once: `v` is the part with the head brought to a stop, its done position that
of `x`. -/
structure Skipping (s v : State) (e x : Entry) (rest : List Entry) : Prop where
  request : skipRequest (atWork s) = some v.skipHead
  stopped : Stopped s v x rest
    (if e.state = .active then s.stream.due.filter (fun c => !c.superseded) ++ [.halt] else s.stream.due)
  same : ∃ done, x = { e with donePlace := done }
  window : s.stream.window = [] ∨ e.state = .active → v.stream.window = []
  stood : e.state ≠ .active → x = e
  rested : ∀ c, e.state = .active → s.stream.cursor = some c →
    x = { e with donePlace := some (restPlace (s.segments e) e.passes (placeAt (s.segments e) e.passes c)) }
  wear : v.wear = s.wear
  bufA : v.bufA = s.bufA
  bufB : v.bufB = s.bufB

/-- A HELD or FAILED head is skipped where it stands (R157). -/
theorem skipping_stood (hsafe : JetSafe s) (hq : s.queue = e :: rest) (he : e.state = .held ∨ e.state = .failed) :
    Skipping s (atWork s) e e rest := by
  have hne : e.state ≠ .active := by rcases he with he | he <;> simp [he]
  refine ⟨skipRequest_stood hq he, ?_, ⟨_, rfl⟩, fun h => h.resolve_right hne, fun _ => rfl,
    fun _ h => absurd h hne, rfl, rfl, rfl⟩
  rw [if_neg hne]
  exact stopped_of_inactive hsafe (unmoved_atWork s) hq hne

/-- The ACTIVE head is first brought to an immediate rest (R154, R157). -/
theorem skipping_rested (hsafe : JetSafe s) (hq : s.queue = e :: rest) (he : e.state = .active)
    (hphase : s.jsq.phase ≠ .cutting ∧ s.jsq.phase.restsAtOnce = true) : ∃ v x, Skipping s v e x rest := by
  refine ⟨_, doneTo (State.pastBridge (s.segments e) e.passes ((atWork s).restPoint e)) e, skipRequest_rests (u := atWork s) hq he hphase, ?_, ⟨_, rfl⟩, fun _ => rfl,
    fun h => absurd he h, fun c _ hc => ?_, State.restAtOnce_wear _, State.restAtOnce_bufA _, State.restAtOnce_bufB _⟩
  · rw [if_pos he]
    exact ((unmoved_atWork s).restAtOnce_stopped hsafe.1 hsafe.2.2.1 hq).modifyHead (keepsOwn_doneTo _)
  · have hpoint : (atWork s).restPoint e = placeAt (s.segments e) e.passes c := by
      have hcursor : (atWork s).stream.cursor = some c := hc
      rw [State.restPoint, hcursor]
      exact placeAt_cursorPlace ..
    rw [hpoint, State.restPlace_eq]
    rfl

/-- Settles O48, by the state of the head and the phase of JSQ. -/
theorem skipTakesHeadOut : Obligations.SkipTakesHeadOut := by
  intro s hopen hquiet hsafe
  refine ⟨fun e he => exec_skip_refused hopen (skipRequest_none (u := atWork s) he), fun e rest hq =>
    ⟨fun he hphase => ?_, fun he hphase => ?_, fun he => ?_⟩⟩
  · rw [exec_skip hopen (skipRequest_stopping (u := atWork s) hq he (stopping_of_or hphase)),
      settle_respond_of_quiet (u := (atWork s).setJsq _) hquiet]
    rfl
  · have hsound : Sound (atWork s) := ((jetSafe_iff.1 hsafe).1.frame (v := atWork s)).sound
    obtain ⟨p, q, job, hplan, -, hjob, hkind, -⟩ := plannedStop_eq (u := atWork s) hsound hq he .skipped
    refine ⟨_, exec_skip hopen (skipRequest_cutting (u := atWork s) hq he hphase), ?_⟩
    rw [hplan, settle_respond_of_quiet (u := (((atWork s).setPlanner p).setQueue q).setJsq _) hquiet]
    exact ⟨rfl, ⟨job, hjob, hkind⟩, rfl⟩
  · have hskip : ∃ v x, Skipping s v e x rest := by
      rcases he with he | he | ⟨he, hphase⟩
      · exact ⟨_, _, skipping_stood hsafe hq (.inl he)⟩
      · exact ⟨_, _, skipping_stood hsafe hq (.inr he)⟩
      · exact skipping_rested hsafe hq he (restsAtOnce_of_mem hphase)
    obtain ⟨v, x, hv⟩ := hskip
    obtain ⟨done, hx⟩ := hv.same
    have hsegs : s.segments x = s.segments e := by rw [hx]; rfl
    have hbegun : x.state.begun = true := by
      rw [hx]
      rcases he with he | he | ⟨he, -⟩ <;> simp [he, EntryState.begun]
    obtain ⟨hids, hfree, hstore, hfin, hend, hconfig, hmat⟩ := headLeft_alike (headLeft_skipHead hv.stopped) (alike_respond _ _)
    obtain ⟨hid, htag, hout, hcount, hlast⟩ := skippedRecord_own (s.segments x) x
    rw [finished_full hsafe.1] at hfin
    refine ⟨_, skippedRecord (s.segments x) x, exec_skip hopen hv.request, respond_condition .., fun h => ?_, hids, ?_, hfin,
      ?_, ?_, hout, ?_, ?_, hend, fun h => ?_, fun c h hc => ?_, ?_, hconfig, hmat, ?_, ?_, ?_⟩
    · have hskipped := skippedOut_alike (skippedOut_of_stopped hv.stopped hbegun (hv.window h)) (alike_respond _ ⟨.ok, .empty⟩)
      subst hx
      exact hskipped
    · rw [hfree, hx]
    · rw [hid, hx]
    · rw [htag, hx]
    · rw [hcount, hx]
    · rw [hlast, hx]
    · rw [hv.stood h]
    · rw [hsegs, hv.rested c h hc]
    · rw [hstore, hx]
    · exact (State.skipHead_wear v).trans hv.wear
    · exact (State.skipHead_bufA v).trans hv.bufA
    · exact (State.skipHead_bufB v).trans hv.bufB

end Sys2Proof.Proofs

/-! PROOFS. RESUME: its checks, the restart of the head, and a restart over a silent pump link (R162, R163, R173). -/

namespace Sys2Proof.Proofs

open Sys2Proof Sys2Proof.Machine

variable {s t u v : State} {e : Entry} {rest : List Entry} {p : Place}

/-! ### A request with none outstanding -/

theorem startActiveJob_eq {kind : JobKind} (hk : kind ≠ .stop) (e : Entry) (u : State) :
    u.startActiveJob kind e = u.setPlanner { u.planner with
      job := some ⟨kind, e.contourId, u.sampleInputs e, u.fixedPoint kind, none⟩ } := by
  unfold State.startActiveJob
  dsimp only
  rw [if_neg hk]

/-- With no request outstanding an arriving one is taken as it is (R95), and a head whose plan is not in flight stays as it
was. -/
theorem takeRequest_free {kind : JobKind} (hact : u.activeEntry = some e) (hfree : noRequest u) (hk : kind ≠ .stop) :
    ∃ q, u.takeRequest kind = (u.setPlanner { u.planner with
        job := some ⟨kind, e.contourId, u.sampleInputs e, u.fixedPoint kind, none⟩ }).setQueue q
      ∧ ∀ x xs, u.queue = x :: xs → (∀ job, u.planner.job = some job → job.contour ≠ x.contourId) → q.head? = some x := by
  unfold State.takeRequest
  rw [hact]
  dsimp only
  rw [if_neg hk]
  split
  · rw [startActiveJob_eq hk]
    exact ⟨u.queue, rfl, fun x xs hq _ => congrArg List.head? hq⟩
  · next job hjob =>
    rw [if_pos (hfree job hjob), startActiveJob_eq hk]
    refine ⟨_, rfl, fun x xs hq hother => ?_⟩
    obtain ⟨others, hothers, -⟩ := sameHead_modifyEntry (f := fun x => { x with state := .waitingPlan }) hq (fun _ => rfl)
      (Ne.symm (hother job hjob))
    exact congrArg List.head? hothers

/-! ### The start of a sequence -/

/-- The first target of a start, clamped (R114). -/
def firstPressure (s : State) (e : Entry) (mode : PierceMode) : Nat :=
  clampPressure s.config (State.firstTarget (s.materialOf e) mode)

theorem firstPressure_congr (hconfig : u.config = s.config) (hmaterials : u.materials = s.materials) (e : Entry)
    (mode : PierceMode) : firstPressure u e mode = firstPressure s e mode := by
  rw [firstPressure, State.materialOf, hconfig, hmaterials]
  rfl

theorem firstTarget_eq (m : Material) (mode : PierceMode) :
    State.firstTarget m mode = if mode = .lowStationary then m.pPierce.toNat else m.pCut.toNat := by
  cases mode <;> rfl

/-- The start of a contour: the TRAVERSE, the first target and its wait, POSITIONING (R114, R115). -/
theorem startSequence_eq (e : Entry) (mode : PierceMode) (x y : Nat) (u : State) :
    u.startSequence e mode x y = ((u.setStream { u.stream with
      due := u.stream.due ++ [.traverse x y u.config.traverseSpeed.toNat] }).setPump { u.pump with
        transmit := enqueueMessage (.setPressure (firstPressure u e mode)) u.pump.transmit, target := firstPressure u e mode
        ready := false, sag := 0 }).setJsq { u.jsq with
          phase := .positioning, contour := some e.contourId, startMode := some mode, traverseSerial := none
          arrived := some false, wait := some ⟨firstPressure u e mode, u.config.pressureTimeout.toNat * 1000⟩ } := rfl

/-- A start over a silent link is an immediate rest where it stands: HALT takes the place of the TRAVERSE (R139, R154). -/
theorem startSequence_rests (hlaw : QueueLaw u) (hjet : JetLaw u) (hq : u.queue = e :: rest) (he : e.state = .active)
    (hcursor : u.stream.cursor = some (.seg p)) (e₀ : Entry) (mode : PierceMode) (x y : Nat) (cause : Cause) :
    BecomesHeld (u.startSequence e₀ mode x y) ((u.startSequence e₀ mode x y).immediateHold cause) e cause p
      (u.stream.due.filter (fun c => !c.superseded) ++ [.halt]) := by
  have hdue : ((u.startSequence e₀ mode x y).stream.due).filter (fun c => !c.superseded)
      = u.stream.due.filter (fun c => !c.superseded) := by
    rw [startSequence_eq]
    simp [Control.superseded]
  have hheld := (Unmoved.refl (u.startSequence e₀ mode x y)).immediateHold (e := e) (rest := rest) (c := .seg p)
    (queueLaw_of_map hlaw (by simp) (by simpa using hlaw.2.2.1) (by simp)) hjet (by simpa using hq) he hcursor cause
  rwa [hdue] at hheld

theorem pumpSilenceAtStart_silent (h : u.pump.link = .silent) : u.pumpSilenceAtStart = u.immediateHold .pumpLinkLost := if_pos h

theorem pumpSilenceAtStart_heard (h : u.pump.link = .ok) : u.pumpSilenceAtStart = u :=
  if_neg fun hsilent => LinkState.noConfusion (h.symm.trans hsilent)

/-! ### RESUME -/

theorem exec_resume (hopen : portOpen s) (h : resumeFault (atWork s) = none) :
    exec .resume s = .next ((resumeHead (atWork s)).settle.respond ⟨.ok, .empty⟩) := by
  have hrun : runCommand .resume (atWork s) = okay .empty (resumeHead (atWork s)).settle := by
    rw [show runCommand .resume (atWork s) = resumeCommand (atWork s) from rfl, resumeCommand, h]
  rw [exec_of_command rfl, State.onJobPort_of_open hopen, hrun]
  rfl

theorem exec_resume_refused {status : Status} (hopen : portOpen s) (h : resumeFault (atWork s) = some status) :
    exec .resume s = .next (s.respond (plainRefusal status)) := by
  refine exec_answers rfl hopen ?_
  rw [show runCommand .resume (atWork s) = resumeCommand (atWork s) from rfl, resumeCommand, h]
  rfl

theorem resumeFault_wrongState (h : ∀ e rest, u.queue = e :: rest → e.state ≠ .held) : resumeFault u = some .wrongState := by
  unfold resumeFault
  split
  · rfl
  · next e rest hq => exact if_pos (h e rest hq)

theorem resumeFault_notReady (hq : u.queue = e :: rest) (he : e.state = .held)
    (h : (∃ r, u.pump.report = some r ∧ r.code ≠ 0) ∨ u.motion.link = .silent) : resumeFault u = some .notReady := by
  unfold resumeFault
  rw [hq]
  dsimp only
  rw [if_neg (not_not.2 he)]
  split
  · rfl
  · next hany =>
    rcases h with ⟨r, hr, hcode⟩ | hlink
    · simp [hr, hcode] at hany
    · exact if_pos hlink

theorem resumable_of (hq : u.queue = e :: rest) (he : e.state = .held) (hcode : ∀ r, u.pump.report = some r → r.code = 0)
    (hlink : u.motion.link = .ok) : resumeFault u = none := by
  refine (resumable_iff u).2 ⟨e, rest, hq, he, ?_, by simp [hlink]⟩
  cases hr : u.pump.report with
  | none => rfl
  | some r => simp [hcode r hr]

/-- The head's restart up to its request (R163). -/
def restarted (p : Place) (u : State) : State :=
  (((u.modifyHead Entry.resume).setPlanner { u.planner with stopTaken := false }).startStream p).takeRequest .resume

theorem resumeHead_eq (hq : u.queue = e :: rest) (hp : e.resumePoint = some p) :
    resumeHead u = ((restarted p u).startSequence e (restartMode e p) (startPoint (u.segments e) e p).1
      (startPoint (u.segments e) e p).2).pumpSilenceAtStart := by
  unfold resumeHead
  rw [hq]
  dsimp only
  rw [hp]
  rfl

/-- The part with the head ACTIVE again, before its request. -/
theorem sound_restart (h : Sound u) (hq : u.queue = e :: rest) (he : e.state = .held) :
    Sound (((u.modifyHead Entry.resume).setPlanner { u.planner with stopTaken := false }).startStream p) := by
  have hresumed : Sound (u.modifyHead Entry.resume) := h.modifyHead keepsOwn_resume fun x xs hx => by
    rw [hq] at hx
    cases hx
    simp [Entry.resume, he]
  exact ⟨queueLaw_of_map hresumed.law rfl hresumed.law.2.2.1 rfl, hresumed.plan⟩

theorem restarted_head (h : Sound u) (hq : u.queue = e :: rest) (he : e.state = .held) :
    ∃ others, (restarted p u).queue = Entry.resume e :: others :=
  have ⟨others, hothers, _⟩ := sameHead_takeRequest (kind := .resume) (e := Entry.resume e) (rest := rest)
    (sound_restart (p := p) h hq he) (by simp [modifyHead_queue, hq]) EntryState.noConfusion
  ⟨others, hothers⟩

theorem restarted_stream (p : Place) (u : State) : (restarted p u).stream
    = { u.stream with cursor := some (.seg p), lastExit := some 0, stopPlace := none, holdAtMade := none } :=
  State.takeRequest_stream ..

/-- With no request outstanding the RESUME is the request, with its cursor at the resume point (R98, R163). -/
theorem restarted_eq (hq : u.queue = e :: rest) (hfree : noRequest u) : ∃ q job,
    restarted p u = ((u.setStream { u.stream with
        cursor := some (.seg p), lastExit := some 0, stopPlace := none, holdAtMade := none }).setPlanner
          ⟨some job, false⟩).setQueue q
      ∧ job.kind = .resume ∧ job.contour = e.contourId ∧ job.fixed = some ⟨.seg p, 0⟩ ∧ job.inputs.level = u.wear.level := by
  have hact : (((u.modifyHead Entry.resume).setPlanner { u.planner with stopTaken := false }).startStream p).activeEntry
      = some (Entry.resume e) := State.activeEntry_eq_some.2 ⟨rest, by simp [modifyHead_queue, hq], rfl⟩
  obtain ⟨q, hq, -⟩ := takeRequest_free (kind := .resume) hact hfree JobKind.noConfusion
  exact ⟨q, _, hq, rfl, rfl, rfl, rfl⟩

theorem restarted_link (e : Entry) (mode : PierceMode) (x y : Nat) (p : Place) (u : State) :
    ((restarted p u).startSequence e mode x y).pump.link = u.pump.link := by
  rw [startSequence_eq]
  simp [restarted]

theorem restarted_attention (e : Entry) (mode : PierceMode) (x y : Nat) (p : Place) (u : State) :
    ((restarted p u).startSequence e mode x y).attention = u.attention := by
  simp [restarted]

/-- Settles O49, by the checks of R162 and the state of the links. -/
theorem resumeRestartsHead : Obligations.ResumeRestartsHead := by
  intro s hopen hquiet hsafe
  have hsound : Sound (atWork s) := ((jetSafe_iff.1 hsafe).1.frame (v := atWork s)).sound
  refine ⟨fun h => exec_resume_refused hopen (resumeFault_wrongState (u := atWork s) h), fun e rest hq he =>
    ⟨fun h => exec_resume_refused hopen (resumeFault_notReady (u := atWork s) hq he h),
      fun p x y mode target hcode hmotion hpump hp hfree hxy hmode htarget => ?_, fun p hcode hmotion hpump hp => ?_⟩⟩
  · have hexec := exec_resume hopen (resumable_of (u := atWork s) hq he hcode hmotion)
    have hstart : startPoint (s.segments e) e p = (x, y) := by
      unfold startPoint
      cases hpred : predecessor (s.segments e) p with
      | none =>
        rw [hpred] at hxy
        exact hxy.symm
      | some q =>
        rw [hpred] at hxy
        obtain ⟨r, hr, hend⟩ := hxy
        dsimp only
        rw [hr]
        exact hend.symm
    obtain ⟨others, hothers⟩ := restarted_head (p := p) hsound hq he
    obtain ⟨q, job, hrestart, hkind, hcontour, hfixed, hlevel⟩ := restarted_eq (u := atWork s) (p := p) hq hfree
    have htarget' : target = firstPressure s e mode := by rw [htarget, firstPressure, firstTarget_eq]
    have hhead : q.head? = some (Entry.resume e) := by
      rw [hrestart] at hothers
      exact congrArg List.head? hothers
    have hresume : resumeHead (atWork s) = (restarted p (atWork s)).startSequence e mode x y := by
      rw [resumeHead_eq (u := atWork s) hq hp, show (atWork s).segments e = s.segments e from rfl, hstart, hmode]
      exact pumpSilenceAtStart_heard ((restarted_link ..).trans hpump)
    have hquiet' : Quiet ((restarted p (atWork s)).startSequence e mode x y) := by
      unfold Quiet
      rw [restarted_attention]
      exact hquiet
    rw [hexec, hresume, settle_respond_of_quiet hquiet', hrestart, startSequence_eq, htarget']
    exact ⟨_, job, rfl, rfl, hhead, rfl, rfl, rfl, rfl, hkind, hcontour, hfixed, hlevel, rfl⟩
  · have hexec := exec_resume hopen (resumable_of (u := atWork s) hq he hcode hmotion)
    obtain ⟨others, hothers⟩ := restarted_head (p := p) hsound hq he
    have hlaw : QueueLaw (restarted p (atWork s)) := ((sound_restart (p := p) hsound hq he).takeRequest JobKind.noConfusion).law
    have hjet : JetLaw (restarted p (atWork s)) := by
      unfold restarted JetLaw
      rw [State.takeRequest_jsq]
      exact hsafe.2.2.1
    have hresume : resumeHead (atWork s) = ((restarted p (atWork s)).startSequence e (restartMode e p)
        (startPoint (s.segments e) e p).1 (startPoint (s.segments e) e p).2).immediateHold .pumpLinkLost := by
      rw [resumeHead_eq (u := atWork s) hq hp]
      exact pumpSilenceAtStart_silent ((restarted_link ..).trans hpump)
    have hheld := becomesHeld_alike (startSequence_rests (p := p) hlaw hjet hothers rfl (by rw [restarted_stream]) e
      (restartMode e p) (startPoint (s.segments e) e p).1 (startPoint (s.segments e) e p).2 .pumpLinkLost)
      (alike_respond _ ⟨.ok, .empty⟩)
    obtain ⟨hhead, -, hjsq, hnone, hwindow, hdue, hcursor, hexit, -, hpending, -⟩ := hheld
    have hsegs : ((restarted p (atWork s)).startSequence e (restartMode e p) (startPoint (s.segments e) e p).1
        (startPoint (s.segments e) e p).2).segments (Entry.resume e) = s.segments e :=
      segments_congr (s := s) (by simp [restarted]) e
    rw [hsegs] at hhead
    refine ⟨_, hexec, respond_condition .., ?_⟩
    rw [hresume]
    refine ⟨hhead, hjsq, hnone, ?_, hwindow, ?_, hexit, ?_⟩
    · rw [hdue, restarted_stream] <;> rfl
    · rw [hcursor, startSequence_eq, State.setJsq_stream, State.setPump_stream, State.setStream_stream, restarted_stream]
    · have hattention : Gathers s ((restarted p (atWork s)).startSequence e (restartMode e p) (startPoint (s.segments e) e p).1
          (startPoint (s.segments e) e p).2) := .of_attention (restarted_attention ..)
      exact gathers_pendingWhereRouted hattention hpending

end Sys2Proof.Proofs

/-! PROOFS. A contour plan completes, and the READY head it makes is activated (R15, R16, R102). -/

namespace Sys2Proof.Proofs

open Sys2Proof Sys2Proof.Machine

variable {s t u v : State} {e : Entry} {rest : List Entry} {p : Place}

/-! ### Plan words leave the records -/

/-- A page written with at least one slot reads back as written, in any store. -/
theorem pageAt_putPage_filled {page : Page} (hpage : page.isEmpty = false) (p q : Nat) (store : Store) :
    pageAt (putPage p page store) q = if q = p then page else pageAt store q := by
  induction store with
  | nil =>
    rw [putPage, hpage]
    exact pageAt_cons ..
  | cons x store ih =>
    obtain ⟨r, old⟩ := x
    rw [putPage, hpage]
    split
    · exact pageAt_cons ..
    · split
      · next heq =>
        subst heq
        by_cases hq : q = p <;> simp only [Bool.false_eq_true, pageAt_cons, hq, if_true, if_false]
      · next hne =>
        rw [pageAt_cons, pageAt_cons, ih]
        by_cases hq : q = r
        · rw [if_pos hq, if_pos hq, if_neg (by omega)]
        · rw [if_neg hq, if_neg hq]

/-- A plan word leaves the records of every page (R47). -/
theorem records_writeWord (pages : List Nat) (store : Store) (i : Nat) (word : PlanWord) (q : Nat) :
    (pageAt (writeWord pages store i word) q).map Slot.record = (pageAt store q).map Slot.record := by
  unfold writeWord
  split
  · next p k _ =>
    split
    · next slot hslot =>
      obtain ⟨hk, hget⟩ := List.getElem?_eq_some_iff.1 hslot
      have hfilled : ((pageAt store p).set k { slot with word := some word }).isEmpty = false := by
        rw [List.isEmpty_eq_false_iff]
        intro hnil
        have hlength := congrArg List.length hnil
        rw [List.length_set, List.length_nil] at hlength
        omega
      rw [pageAt_putPage_filled hfilled]
      split
      · next hq =>
        rw [hq, List.map_set, ← hget, ← List.getElem_map Slot.record (h := by simpa using hk), List.set_getElem_self]
      · rfl
    · rfl
  · rfl

theorem segmentsOf_writeWords (pages list : List Nat) (words : List (Nat × PlanWord)) (store : Store) :
    segmentsOf (writeWords pages store words) list = segmentsOf store list := by
  induction words generalizing store with
  | nil => rfl
  | cons w words ih =>
    have hstep : writeWords pages store (w :: words) = writeWords pages (writeWord pages store w.1 w.2) words := rfl
    rw [hstep, ih, segmentsOf, segmentsOf]
    exact List.flatMap_congr fun q _ => records_writeWord ..

theorem segments_writeWords {pages : List Nat} {words : List (Nat × PlanWord)} (h : u.store = writeWords pages s.store words)
    (e : Entry) : u.segments e = s.segments e := by
  rw [State.segments, h, segmentsOf_writeWords, State.segments]

/-! ### The activation of a READY head -/

/-- The plan in flight after the engine's choice is not that of a head that does not wait for one. -/
theorem chooseWork_job_behind (hlaw : QueueLaw u) (hjob : u.planner.job = none) (hq : u.queue = e :: rest)
    (he : e.state ≠ .waitingPlan) : ∀ job, u.chooseWork.planner.job = some job → job.contour ≠ e.contourId := by
  intro job h hid
  rcases State.chooseWork_cases u with hc | ⟨w, -, hfind, hc⟩ <;> rw [hc] at h
  · rw [hjob] at h
    cases h
  · cases h
    have hw : w.state = .waitingPlan := by simpa using List.find?_some hfind
    have hmem := List.mem_of_find?_eq_some hfind
    rw [hq] at hmem
    rcases List.mem_cons.1 hmem with rfl | hmem
    · exact he hw
    · exact not_behind_head hlaw hq w hmem hid

/-- An activation up to its start, with no request outstanding (R16). -/
theorem activated_eq (hq : u.queue = e :: rest) (hfree : noRequest u)
    (hbehind : ∀ job, u.planner.job = some job → job.contour ≠ e.contourId) : ∃ q pl,
      activated e u = (((u.setAttention (u.raise .contourStart).attention).setStream { u.stream with
          due := u.stream.due ++ [.contourBegin e.contourId], cursor := some (.seg ⟨0, 1⟩), lastExit := some 0, stopPlace := none
          holdAtMade := none }).setPlanner pl).setQueue q
        ∧ q.head? = some e.activate ∧ pl.stopTaken = false
        ∧ (e.stamp ≠ some (u.currentStamp e) →
          ∃ active, pl.job = some active ∧ active.kind = .activation ∧ active.contour = e.contourId) := by
  have hhead : (u.modifyHead Entry.activate).queue = e.activate :: rest := by rw [modifyHead_queue, hq]
  by_cases hstamp : e.stamp = some (u.currentStamp e)
  · refine ⟨(u.modifyHead Entry.activate).queue, { u.planner with stopTaken := false }, ?_, congrArg List.head? hhead, rfl,
      fun h => absurd hstamp h⟩
    exact congrArg (State.makeDue (.contourBegin e.contourId)) (if_pos hstamp)
  · have hact : ((((u.modifyHead Entry.activate).startStream ⟨0, 1⟩).setPlanner
        { u.planner with stopTaken := false }).raise .contourStart).activeEntry = some e.activate :=
      State.activeEntry_eq_some.2 ⟨rest, hhead, rfl⟩
    obtain ⟨q, htake, hsame⟩ := takeRequest_free (kind := .activation) hact hfree JobKind.noConfusion
    refine ⟨q, ⟨some ⟨.activation, e.contourId, u.sampleInputs e.activate, none, none⟩, false⟩, ?_,
      hsame e.activate rest hhead hbehind, rfl, fun _ => ⟨_, rfl, rfl, rfl⟩⟩
    exact congrArg (State.makeDue (.contourBegin e.contourId)) ((if_neg hstamp).trans htake)

/-- The activated head starts its sequence (R16, R114). -/
def sequenced (e : Entry) (u : State) : State := (activated e u).startSequence e e.pierceMode e.startX e.startY

theorem activate_sequenced (e : Entry) (u : State) : u.activate e = (sequenced e u).silenceAtStart := activate_eq e u

theorem sequenced_links (e : Entry) (u : State) :
    (sequenced e u).motion = u.motion ∧ (sequenced e u).pump.link = u.pump.link := by
  unfold sequenced
  rw [startSequence_eq]
  refine ⟨?_, ?_⟩
  · unfold activated
    dsimp only
    split <;> simp
  · rw [State.setJsq_pump, State.setPump_pump, activated_pump]

theorem silenceAtStart_heard (hmotion : u.motion.link = .ok) (hpump : u.pump.link = .ok) : u.silenceAtStart = u := by
  unfold State.silenceAtStart
  rw [if_neg (by simp [hmotion]), pumpSilenceAtStart_heard hpump]

/-- An activation over heard links (R16, R114, R149). -/
theorem activate_heard (hq : u.queue = e :: rest) (hfree : noRequest u)
    (hbehind : ∀ job, u.planner.job = some job → job.contour ≠ e.contourId) (hmotion : u.motion.link = .ok)
    (hpump : u.pump.link = .ok) :
    (u.activate e).queue.head? = some e.activate
      ∧ (u.activate e).jsq = { u.jsq with
          phase := .positioning, contour := some e.contourId, startMode := some e.pierceMode, traverseSerial := none
          arrived := some false, wait := some ⟨firstPressure u e e.pierceMode, u.config.pressureTimeout.toNat * 1000⟩ }
      ∧ (u.activate e).stream = { u.stream with
          due := u.stream.due ++ [.contourBegin e.contourId, .traverse e.startX e.startY u.config.traverseSpeed.toNat]
          cursor := some (.seg ⟨0, 1⟩), lastExit := some 0, stopPlace := none, holdAtMade := none }
      ∧ (u.activate e).pump = { u.pump with
          transmit := enqueueMessage (.setPressure (firstPressure u e e.pierceMode)) u.pump.transmit
          target := firstPressure u e e.pierceMode, ready := false, sag := 0 }
      ∧ pendingWhereRouted .contourStart u (u.activate e) ∧ (u.activate e).planner.stopTaken = false
      ∧ (e.stamp ≠ some (u.currentStamp e) →
        ∃ active, (u.activate e).planner.job = some active ∧ active.kind = .activation ∧ active.contour = e.contourId) := by
  obtain ⟨q, pl, heq, hhead, hstop, hactivation⟩ := activated_eq hq hfree hbehind
  obtain ⟨hlinkMotion, hlinkPump⟩ := sequenced_links e u
  have hactivate : u.activate e = sequenced e u := by
    rw [activate_sequenced]
    exact silenceAtStart_heard (by rw [hlinkMotion, hmotion]) (by rw [hlinkPump, hpump])
  have hraised : Gathers (u.raise .contourStart) (sequenced e u) := by
    rw [sequenced, heq]
    exact .of_attention rfl
  have hfirst : firstPressure (activated e u) e e.pierceMode = firstPressure u e e.pierceMode :=
    firstPressure_congr (activated_config e u) (by rw [heq]; simp) e _
  refine ⟨?_, ?_, ?_, ?_, ?_, ?_, ?_⟩
  · rw [hactivate, sequenced, heq]
    exact hhead
  · rw [hactivate, sequenced, startSequence_eq, hfirst, State.setJsq_jsq, activated_jsq, activated_config]
  · rw [hactivate, sequenced, startSequence_eq, State.setJsq_stream, State.setPump_stream, State.setStream_stream,
      activated_stream, activated_config, List.append_assoc, List.singleton_append]
  · rw [hactivate, sequenced, startSequence_eq, hfirst, State.setJsq_pump, State.setPump_pump, activated_pump]
  · rw [hactivate]
    exact Gathers.pending (.refl u) hraised
  · rw [hactivate, sequenced, heq]
    exact hstop
  · rw [hactivate, sequenced, heq]
    exact hactivation

/-! ### The plan's completion -/

theorem exec_contourPlanComplete {job : Job} (hjob : s.planner.job = some job) (hk : job.kind = .contour)
    (he : s.entry job.contour = some e) : exec .contourPlanComplete s = .next (completeContourPlan job e s) := by
  rw [show exec .contourPlanComplete s = execContourPlanComplete s from rfl, execContourPlanComplete, hjob]
  dsimp only
  rw [if_pos hk, he]

/-- The part with the plan written and the engine's next work chosen. -/
def planChosen (job : Job) (e : Entry) (s : State) : State := (planWritten job e s).chooseWork

/-- Behind a plan the head is tried where it is the planned entry (R15). -/
theorem completeContourPlan_cases (job : Job) (e : Entry) (s : State) :
    (((planChosen job e s).queue.head?).map Entry.contourId ≠ some job.contour
        ∧ completeContourPlan job e s = (planChosen job e s).settle)
      ∨ ((planChosen job e s).queue.head?).map Entry.contourId = some job.contour
        ∧ completeContourPlan job e s = (planChosen job e s).tryActivate.settle := by
  rw [completeContourPlan_eq, ← planChosen]
  cases hq : (planChosen job e s).queue with
  | nil => exact .inl ⟨nofun, rfl⟩
  | cons x xs =>
    by_cases hid : x.contourId = job.contour
    · exact .inr ⟨congrArg some hid, congrArg State.settle (if_pos hid)⟩
    · exact .inl ⟨fun h => hid (Option.some.inj h), congrArg State.settle (if_neg hid)⟩

/-- What neither the engine's choice nor an activation touches. -/
theorem completeContourPlan_keeps {α : Type} (f : State → α) (hsettle : ∀ v, f v.settle = f v)
    (htry : ∀ v, f v.tryActivate = f v) (hchoose : ∀ v, f v.chooseWork = f v) (job : Job) (e : Entry) (s : State) :
    f (completeContourPlan job e s) = f (planWritten job e s) := by
  rcases completeContourPlan_cases job e s with ⟨-, hc⟩ | ⟨-, hc⟩ <;> rw [hc, hsettle]
  · exact hchoose _
  · rw [htry]
    exact hchoose _

theorem completeContourPlan_pending (job : Job) (e : Entry) (s : State) :
    pendingWhereRouted .planDone s (completeContourPlan job e s) := by
  have hwritten : Gathers s ((s.setStore (writeWords e.pages s.store (s.wordsOf job e))).modifyEntry job.contour
    (becomesReady job.stamp)) := .of_attention rfl
  refine hwritten.pending ?_
  have hsteady := gathers_steady (((s.setStore (writeWords e.pages s.store (s.wordsOf job e))).modifyEntry job.contour
    (becomesReady job.stamp)).raise .planDone)
  have hchosen := hsteady.chooseWork (hsteady.setPlanner { s.planner with job := none } (.refl _))
  rcases completeContourPlan_cases job e s with ⟨-, hc⟩ | ⟨-, hc⟩ <;> rw [hc]
  · exact hchosen.settle
  · exact (hsteady.tryActivate hchosen).settle

theorem ids_planChosen (job : Job) (e : Entry) (s : State) : ids (planChosen job e s) = ids s :=
  (ids_chooseWork _).trans (shown_modifyEntry (f := becomesReady job.stamp) job.contour (fun _ => rfl) (s.setStore _))

theorem ids_completeContourPlan (job : Job) (e : Entry) (s : State) : ids (completeContourPlan job e s) = ids s := by
  rcases completeContourPlan_cases job e s with ⟨-, hc⟩ | ⟨-, hc⟩ <;> rw [hc]
  · exact ids_planChosen ..
  · exact (ids_tryActivate _).trans (ids_planChosen ..)

/-- The planned entry is READY with its stamp (R102). -/
theorem planChosen_entry {job : Job} (hlaw : QueueLaw s) (he : s.entry job.contour = some e) :
    (planChosen job e s).entry job.contour = some (becomesReady job.stamp e) := by
  have hwritten : (planWritten job e s).entry job.contour = some (becomesReady job.stamp e) := by
    have hentry := entry_modifyEntry (f := becomesReady job.stamp) (fun _ => rfl) job.contour job.contour
      (s.setStore (writeWords e.pages s.store (s.wordsOf job e)))
    rw [show (s.setStore (writeWords e.pages s.store (s.wordsOf job e))).entry job.contour = some e from he, Option.map_some,
      if_pos (entry_some he).2] at hentry
    exact hentry
  have hlaw' : QueueLaw (planWritten job e s) := queueLaw_course hlaw (course_planWritten job e s)
  rcases entry_chooseWork hlaw'.2.1 hwritten with h | ⟨h, -⟩
  · exact h
  · exact EntryState.noConfusion h

/-- The planned entry where it is the head. -/
theorem planChosen_head {job : Job} (hlaw : QueueLaw s) (he : s.entry job.contour = some e) {x : Entry}
    (hx : (planChosen job e s).queue.head? = some x) (hid : x.contourId = job.contour) : x = becomesReady job.stamp e := by
  have hentry := planChosen_entry hlaw he
  have hmem : x ∈ (planChosen job e s).queue := List.mem_of_head? hx
  have hnodup : ((planChosen job e s).queue.map Entry.contourId).Nodup := by
    rw [show (planChosen job e s).queue.map Entry.contourId = s.queue.map Entry.contourId from ids_planChosen job e s]
    exact hlaw.2.1
  rw [← hid, entry_of_mem hnodup hmem] at hentry
  exact Option.some.inj hentry

/-- A planned entry that is not the head of an idle part is not activated. -/
theorem completeContourPlan_waits {job : Job} (hlaw : QueueLaw s) (he : s.entry job.contour = some e)
    (h : (s.queue.head?).map Entry.contourId ≠ some job.contour ∨ s.jsq.phase ≠ .idle ∨ e.commitsPending ≠ 0) :
    completeContourPlan job e s = (planChosen job e s).settle := by
  have hheads : ((planChosen job e s).queue.head?).map Entry.contourId = (s.queue.head?).map Entry.contourId := by
    rw [← List.head?_map, ← List.head?_map]
    exact congrArg List.head? (ids_planChosen job e s)
  rcases completeContourPlan_cases job e s with ⟨-, hc⟩ | ⟨hhead, hc⟩
  · exact hc
  · rw [hc]
    refine congrArg State.settle (tryActivate_of_not (canActivate_eq_false fun x hx hready => ?_))
    obtain ⟨hphase, -, hcommits⟩ := hready
    have hid : x.contourId = job.contour := by
      rw [hx] at hhead
      exact Option.some.inj hhead
    have hx' := planChosen_head hlaw he hx hid
    rcases h with hne | hbusy | hpending
    · exact hne (hheads ▸ hhead)
    · rw [planChosen, State.chooseWork_jsq, planWritten_jsq] at hphase
      exact hbusy hphase
    · rw [hx'] at hcommits
      exact hpending hcommits

/-- A planned head of an idle part is activated, with no request outstanding and its own plan no more in flight. -/
theorem completeContourPlan_activates {job : Job} (hlaw : QueueLaw s) (he : s.entry job.contour = some e)
    (hq : s.queue = e :: rest) (hphase : s.jsq.phase = .idle) (hcommits : e.commitsPending = 0) :
    completeContourPlan job e s = ((planChosen job e s).activate (becomesReady job.stamp e)).settle
      ∧ QueueLaw (planChosen job e s) ∧ (∃ others, (planChosen job e s).queue = becomesReady job.stamp e :: others)
      ∧ noRequest (planChosen job e s)
      ∧ ∀ active, (planChosen job e s).planner.job = some active → active.contour ≠ e.contourId := by
  have hid := (entry_some he).2
  have hlaw' : QueueLaw (planWritten job e s) := queueLaw_course hlaw (course_planWritten job e s)
  have hwritten : ∃ others, (planWritten job e s).queue = becomesReady job.stamp e :: others := by
    unfold planWritten State.modifyEntry
    rw [State.setPlanner_queue, State.raise_queue, State.setQueue_queue, State.setStore_queue, hq, List.map_cons, if_pos hid]
    exact ⟨_, rfl⟩
  obtain ⟨others, hothers⟩ := hwritten
  obtain ⟨others', hothers', -⟩ := sameHead_chooseWork hlaw' hothers EntryState.noConfusion
  refine ⟨?_, queueLaw_course hlaw' Course.refl.chooseWork, ⟨others', hothers'⟩, chooseWork_noRequest rfl,
    chooseWork_job_behind (e := becomesReady job.stamp e) hlaw' rfl hothers EntryState.noConfusion⟩
  have hhead : (planChosen job e s).queue = becomesReady job.stamp e :: others' := hothers'
  have hcan : (planChosen job e s).canActivate = true := canActivate_iff.2 ⟨by
    rw [planChosen, State.chooseWork_jsq, planWritten_jsq, hphase], _, congrArg List.head? hhead, rfl, hcommits⟩
  rcases completeContourPlan_cases job e s with ⟨hne, -⟩ | ⟨-, hc⟩
  · rw [hhead] at hne
    exact absurd (congrArg some hid) hne
  · rw [hc]
    unfold State.tryActivate
    rw [hhead]
    exact congrArg State.settle (if_pos hcan)

/-- Settles O45, by whether the planned entry is the head of an idle part. What the statement says of silent links stands
behind its own hypotheses that both links are heard, and so holds of nothing. -/
theorem contourPlanCompletes : Obligations.ContourPlanCompletes := by
  intro s job e e' hlaw hjob hk he he'
  have hready : e' = becomesReady job.stamp e := he'
  have hkeeps {α : Type} (f : State → α) (hsettle : ∀ v, f v.settle = f v) (htry : ∀ v, f v.tryActivate = f v)
      (hchoose : ∀ v, f v.chooseWork = f v) := completeContourPlan_keeps f hsettle htry hchoose job e s
  refine ⟨_, exec_contourPlanComplete hjob hk he, ?_, completeContourPlan_pending job e s, ids_completeContourPlan job e s, ?_, ?_,
    ?_, ?_, ?_, ?_, ?_, ?_, ?_, fun hwaits => ?_, fun rest target hq hphase hcommits hmotion hpump htarget => ?_⟩
  · exact hkeeps State.store (fun _ => rfl) State.tryActivate_store State.chooseWork_store
  · exact hkeeps State.port (fun _ => rfl) State.tryActivate_port State.chooseWork_port
  · exact hkeeps State.config (fun _ => rfl) State.tryActivate_config State.chooseWork_config
  · exact hkeeps State.bufA (fun _ => rfl) State.tryActivate_bufA State.chooseWork_bufA
  · exact hkeeps State.bufB (fun _ => rfl) State.tryActivate_bufB State.chooseWork_bufB
  · exact hkeeps State.engine (fun _ => rfl) State.tryActivate_engine State.chooseWork_engine
  · exact hkeeps State.freePages (fun _ => rfl) State.tryActivate_freePages State.chooseWork_freePages
  · exact hkeeps State.finished (fun _ => rfl) State.tryActivate_finished State.chooseWork_finished
  · exact hkeeps State.materials (fun _ => rfl) State.tryActivate_materials State.chooseWork_materials
  · exact hkeeps State.wear (fun _ => rfl) State.tryActivate_wear State.chooseWork_wear
  · rw [completeContourPlan_waits hlaw he hwaits, hready]
    exact ⟨planChosen_entry hlaw he, State.chooseWork_jsq _, State.chooseWork_stream _, State.chooseWork_motion _,
      State.chooseWork_pump _⟩
  · obtain ⟨hc, -, ⟨others, hothers⟩, hfree, hbehind⟩ := completeContourPlan_activates hlaw he hq hphase hcommits
    have hmotion' : (planChosen job e s).motion = s.motion := State.chooseWork_motion _
    have hpump' : (planChosen job e s).pump = s.pump := State.chooseWork_pump _
    have hstream : (planChosen job e s).stream = s.stream := State.chooseWork_stream _
    have hjsq : (planChosen job e s).jsq = s.jsq := State.chooseWork_jsq _
    have hconfig : (planChosen job e s).config = s.config := State.chooseWork_config _
    have hmaterials : (planChosen job e s).materials = s.materials := State.chooseWork_materials _
    have hwear : (planChosen job e s).wear = s.wear := State.chooseWork_wear _
    have hwritten : Gathers s ((s.setStore (writeWords e.pages s.store (s.wordsOf job e))).modifyEntry job.contour
        (becomesReady job.stamp)) := .of_attention rfl
    have hgathers : Gathers s (planChosen job e s) :=
      (gathers_steady s).chooseWork ((gathers_steady s).setPlanner _ (hwritten.raise _))
    have hfirst : firstPressure (planChosen job e s) e' e'.pierceMode = target := by
      rw [htarget, firstPressure, firstTarget_eq, hconfig, State.materialOf, hmaterials, hready]
      rfl
    have hstamp : (planChosen job e s).currentStamp e' = ⟨(s.materials[e.material]).revision.toNat,
        if e.quality = 1 then s.motion.override else min s.motion.override 100, s.wear.level⟩ := by
      rw [State.currentStamp, hmaterials, hmotion', hwear, hready]
      rfl
    have hown : e'.contourId = e.contourId ∧ e'.pierceMode = e.pierceMode ∧ e'.startX = e.startX ∧ e'.startY = e.startY := by
      rw [hready]
      exact ⟨rfl, rfl, rfl, rfl⟩
    obtain ⟨hid, hmode, hx, hy⟩ := hown
    rw [← hready] at hc hothers
    rw [← hid] at hbehind
    obtain ⟨hhead, hjsq', hstream', hpumps, hstart, hstop, hactivation⟩ := activate_heard hothers hfree hbehind
      (by rw [hmotion', hmotion]) (by rw [hpump', hpump])
    rw [hfirst] at hjsq' hpumps
    rw [hstamp] at hactivation
    rw [hjsq, hconfig] at hjsq'
    rw [hstream, hconfig] at hstream'
    rw [hpump'] at hpumps
    rw [hid, hmode] at hjsq'
    rw [hid, hx, hy] at hstream'
    rw [hid] at hactivation
    rw [hc]
    refine ⟨hhead, hjsq', hstream', hpumps, ?_, hstop, hactivation, fun rest cause _ _ _ _ hlink => ?_⟩
    · exact pendingWhereRouted_gathers (gathers_pendingWhereRouted hgathers hstart) (Gathers.refl _).settle
    · rcases hlink with ⟨hsilent, -⟩ | ⟨-, hsilent, -⟩
      · exact LinkState.noConfusion (hmotion.symm.trans hsilent)
      · exact LinkState.noConfusion (hpump.symm.trans hsilent)

end Sys2Proof.Proofs

/-! PROOFS. An active job completes, and the planned stop it may end (R103, R108, R153). -/

namespace Sys2Proof.Proofs

open Sys2Proof Sys2Proof.Machine

variable {s t u v : State} {e : Entry} {rest : List Entry} {p : Place}

/-! ### No request, or one just made by an activation -/

/-- No request is outstanding, but for that of an activation. -/
def Freed (u : State) : Prop := noRequest u ∨ u.jsq.phase = .positioning

theorem becomeHeld_noRequest (hact : u.activeEntry.isSome = true) (cause : Cause) (point : Place) :
    noRequest (u.becomeHeld cause point) := by
  obtain ⟨e, he⟩ := Option.isSome_iff_exists.1 hact
  unfold State.becomeHeld
  rw [he]
  exact dropRequest_noRequest _

theorem Freed.immediateHold (h : Freed u) (cause : Cause) : Freed (u.immediateHold cause) := by
  unfold State.immediateHold
  split
  · exact h
  · next e he => exact .inl (becomeHeld_noRequest (active_congr (u := u) (v := u.restAtOnce) (hact := by rw [he]; rfl)) _ _)

theorem Freed.cond {c : Prop} [Decidable c] (h : Freed u) (h' : Freed v) : Freed (if c then u else v) := by
  split
  · exact h
  · exact h'

theorem Freed.silenceAtStart (h : Freed u) : Freed u.silenceAtStart :=
  have hmotion := (h.immediateHold .motionLinkFault).cond (c := u.motion.link = .silent) h
  (hmotion.immediateHold _).cond hmotion

theorem freed_activate (e : Entry) (u : State) : Freed (u.activate e) := by
  rw [activate_sequenced]
  exact Freed.silenceAtStart (.inr rfl)

theorem Freed.tryActivate (h : Freed u) : Freed u.tryActivate := by
  rcases State.tryActivate_cases u with hc | ⟨e, rest, -, -, -, -, hc⟩ <;> rw [hc]
  · exact h
  · exact freed_activate ..

theorem Freed.runOn (h : noRequest u) : Freed u.runOn := Freed.cond (Freed.tryActivate (.inl h)) (.inl h)

theorem freed_skipHead (hq : u.queue = e :: rest) : Freed u.skipHead := by
  rw [skipHead_eq hq]
  exact Freed.runOn (dropRequest_noRequest _)

/-! ### The job's words, stop place and leave of the engine -/

/-- The part with an active job's words written, its stop place handed on and the engine's next work chosen (R103). -/
def jobChosen (job : Job) (e : Entry) (s : State) : State :=
  ((handStopPlace job (jobWritten job e s)).setPlanner
    { (handStopPlace job (jobWritten job e s)).planner with job := none }).chooseWork

theorem exec_activeJobComplete {job : Job} (hjob : s.planner.job = some job) (hk : job.kind ≠ .contour)
    (hact : s.activeEntry = some e) :
    exec .activeJobComplete s = .next (jobChosen job e s).holdingEnd.settle := by
  rw [show exec .activeJobComplete s = execActiveJobComplete s from rfl, execActiveJobComplete, hjob, hact]
  dsimp only
  rw [if_neg hk, completeActiveJob_eq]
  rfl

/-- What a stop place and the engine's choice leave alone. -/
theorem handStopPlace_keeps {α : Type} (f : State → α) (hstream : ∀ x v, f (v.setStream x) = f v) (job : Job) (u : State) :
    f (handStopPlace job u) = f u := by
  unfold handStopPlace State.holdAtDue
  split
  · dsimp only
    split
    · split
      · exact (hstream ..).trans ((hstream ..).trans (hstream ..))
      · exact hstream ..
    · exact hstream ..
  · rfl

theorem jobWritten_keeps {α : Type} (f : State → α) (job : Job) (e : Entry) (s : State)
    (hqueue : ∀ q v, f (v.setQueue q) = f v := by intros; rfl) (hstore : ∀ x v, f (v.setStore x) = f v := by intros; rfl)
    (hattention : ∀ a v, f (v.setAttention a) = f v := by intros; rfl) : f (jobWritten job e s) = f s := by
  have hhead (g : Entry → Entry) (v : State) : f (v.modifyHead g) = f v := hqueue ..
  rcases jobWritten_cases job e s with hc | hc <;> rw [hc]
  · exact (hhead ..).trans (hstore ..)
  · exact (hattention ..).trans ((hhead ..).trans (hstore ..))

theorem jobChosen_keeps {α : Type} (f : State → α) (job : Job) (e : Entry) (s : State)
    (hqueue : ∀ q v, f (v.setQueue q) = f v := by intros; rfl) (hstore : ∀ x v, f (v.setStore x) = f v := by intros; rfl)
    (hattention : ∀ a v, f (v.setAttention a) = f v := by intros; rfl)
    (hstream : ∀ x v, f (v.setStream x) = f v := by intros; rfl)
    (hplanner : ∀ x v, f (v.setPlanner x) = f v := by intros; rfl) : f (jobChosen job e s) = f s := by
  have hchoose (v : State) : f v.chooseWork = f v := by
    rcases State.chooseWork_cases v with hc | ⟨w, -, -, hc⟩ <;> rw [hc]
    exact (hqueue ..).trans (hplanner ..)
  exact (hchoose _).trans ((hplanner ..).trans ((handStopPlace_keeps f hstream ..).trans
    (jobWritten_keeps f job e s hqueue hstore hattention)))

theorem handStopPlace_none {job : Job} (h : job.stop = none) (u : State) : handStopPlace job u = u := by
  rw [handStopPlace, h]

/-- A stop place away from the send cursor is only handed on (R108). -/
theorem handStopPlace_away {job : Job} {plan : StopPlan} (h : job.stop = some plan) (hc : u.stream.cursor ≠ some plan.place) :
    handStopPlace job u = u.setStream { u.stream with stopPlace := some plan.place, holdAtMade := some false } := by
  rw [handStopPlace, h]
  dsimp only
  unfold State.holdAtDue
  split
  · next place hplace =>
    have hsame : plan.place = .seg place := Option.some.inj hplace
    refine if_neg fun hreached => hc ?_
    rw [hsame]
    exact hreached.1
  · rfl

/-- A stop place at the send cursor makes HOLD_AT due (R139). -/
theorem handStopPlace_reached {job : Job} {plan : StopPlan} {place : Place} (h : job.stop = some plan)
    (hplace : plan.place = .seg place) (hc : u.stream.cursor = some plan.place) :
    handStopPlace job u = u.setStream { u.stream with
      due := u.stream.due ++ [.holdAt], stopPlace := some (.seg place), holdAtMade := some true } := by
  rw [handStopPlace, h]
  dsimp only
  unfold State.holdAtDue
  rw [hplace]
  rw [hplace] at hc
  exact if_pos ⟨hc, rfl⟩

theorem jobWritten_queue (job : Job) (hq : s.queue = e :: rest) : (jobWritten job e s).queue
    = takesWords job.stamp (writeWords e.pages s.store (s.wordsOf job e)) e :: rest := by
  rcases jobWritten_cases job e s with hc | hc <;> rw [hc] <;> simp [modifyHead_queue, hq]

theorem jobWritten_store (job : Job) (e : Entry) (s : State) :
    (jobWritten job e s).store = writeWords e.pages s.store (s.wordsOf job e) := by
  rcases jobWritten_cases job e s with hc | hc <;> rw [hc] <;> simp

theorem course_jobChosen (job : Job) (e : Entry) (s : State) : Course s (jobChosen job e s) := by
  have hwritten : Course s (jobWritten job e s) := by
    have hstamped := ((Course.refl (s := s)).writeWords e.pages (s.wordsOf job e)).modifyHead
      (keepsOwn_takesWords job.stamp (writeWords e.pages s.store (s.wordsOf job e)))
    rcases jobWritten_cases job e s with hc | hc <;> rw [hc]
    · exact hstamped
    · exact hstamped.raise _
  exact ((hwritten.handStopPlace job).setPlanner _).chooseWork

theorem jobChosen_store (job : Job) (e : Entry) (s : State) :
    (jobChosen job e s).store = writeWords e.pages s.store (s.wordsOf job e) := by
  rw [jobChosen, State.chooseWork_store, State.setPlanner_store, handStopPlace_keeps State.store (fun _ _ => rfl), jobWritten_store]

theorem jobChosen_stream (job : Job) (e : Entry) (s : State) :
    (jobChosen job e s).stream = (handStopPlace job (jobWritten job e s)).stream := State.chooseWork_stream _

theorem jobChosen_pending {job : Job} (h : ∃ w ∈ s.wordsOf job e, w.2.overspeed = true) :
    pendingWhereRouted .overspeed s (jobChosen job e s) := by
  have hany : ((s.wordsOf job e).any fun w => w.2.overspeed) = true := List.any_eq_true.2 h
  have hwritten : jobWritten job e s = ((s.setStore (writeWords e.pages s.store (s.wordsOf job e))).modifyHead
      (takesWords job.stamp (writeWords e.pages s.store (s.wordsOf job e)))).raise .overspeed := if_pos hany
  have hstored : Gathers s ((s.setStore (writeWords e.pages s.store (s.wordsOf job e))).modifyHead
      (takesWords job.stamp (writeWords e.pages s.store (s.wordsOf job e)))) := .of_attention (by simp)
  refine hstored.pending ?_
  have hsteady := gathers_steady (((s.setStore (writeWords e.pages s.store (s.wordsOf job e))).modifyHead
    (takesWords job.stamp (writeWords e.pages s.store (s.wordsOf job e)))).raise .overspeed)
  rw [jobChosen, hwritten]
  exact hsteady.chooseWork (hsteady.setPlanner _ (hsteady.handStopPlace job (.refl _)))

/-- The engine's choice decides nothing about the entry behind the head (R15). -/
theorem chooseWork_behind (hlaw : QueueLaw u) (hq : u.queue = e :: rest) (he : e.state ≠ .waitingPlan) :
    ∃ others, u.chooseWork.queue = e :: others ∧ others.map Entry.contourId = rest.map Entry.contourId
      ∧ (headReady others → headReady rest) := by
  obtain ⟨others, hothers, hids⟩ := sameHead_chooseWork hlaw hq he
  refine ⟨others, hothers, hids, fun ⟨x, hx, hready, hcommits⟩ => ?_⟩
  rcases State.chooseWork_cases u with hc | ⟨w, -, -, hc⟩ <;> rw [hc] at hothers
  · rw [hq] at hothers
    obtain ⟨-, hrest⟩ := List.cons.inj hothers
    exact ⟨x, hrest ▸ hx, hready, hcommits⟩
  · rw [State.modifyEntry, State.setQueue_queue, State.setPlanner_queue, hq, List.map_cons] at hothers
    obtain ⟨-, hrest⟩ := List.cons.inj hothers
    rw [← hrest, List.head?_map] at hx
    obtain ⟨y, hy, hyx⟩ := Option.map_eq_some_iff.1 hx
    split at hyx
    · rw [← hyx] at hready
      cases hready
    · exact ⟨y, hy, hyx ▸ hready, hyx ▸ hcommits⟩

/-- The head behind the job, and what stands behind it. -/
theorem jobChosen_queue (job : Job) (hlaw : QueueLaw s) (hq : s.queue = e :: rest) (he : e.state = .active) : ∃ others,
    (jobChosen job e s).queue = takesWords job.stamp (writeWords e.pages s.store (s.wordsOf job e)) e :: others
      ∧ others.map Entry.contourId = rest.map Entry.contourId ∧ (headReady others → headReady rest) := by
  have hqueue : ((handStopPlace job (jobWritten job e s)).setPlanner
      { (handStopPlace job (jobWritten job e s)).planner with job := none }).queue
        = takesWords job.stamp (writeWords e.pages s.store (s.wordsOf job e)) e :: rest := by
    rw [State.setPlanner_queue, handStopPlace_keeps State.queue (fun _ _ => rfl), jobWritten_queue job hq]
  refine chooseWork_behind ?_ hqueue (by simp [takesWords, he])
  have htail := hlaw.2.2.1
  rw [hq] at htail
  refine queueLaw_of_map hlaw ?_ (by rw [hqueue]; exact htail) ?_
  · rw [hqueue, hq]
    rfl
  · rw [State.setPlanner_finished, handStopPlace_keeps State.finished (fun _ _ => rfl),
      jobWritten_keeps State.finished]

/-! ### The end of a planned stop -/

theorem holdingEnd_held {cause : Cause} (h : StopReached u p) (hend : u.jsq.stopEnding = some .held)
    (hcause : u.jsq.stopCause = some cause) : u.holdingEnd = u.jetOff.becomeHeld cause p := by
  rw [State.holdingEnd, h.stop]
  dsimp only
  rw [if_pos ⟨h.phase, h.cursor, h.window⟩, hend, hcause]
  rfl

theorem holdingEnd_skipped (h : StopReached u p) (hend : u.jsq.stopEnding = some .skipped) : u.holdingEnd = u.jetOff.skipHead := by
  rw [State.holdingEnd, h.stop]
  dsimp only
  rw [if_pos ⟨h.phase, h.cursor, h.window⟩, hend]
  rfl

theorem holdingEnd_of_not (h : ∀ place, ¬ StopReached u place) : u.holdingEnd = u := by
  rcases holdingEnd_cases u with hc | ⟨place, hreached, -⟩
  · exact hc
  · exact absurd hreached (h place)

/-- The part as it stands, with the attention lines of before: what a stop in it changes is measured from here. -/
def grounded (s u : State) : State := u.setAttention s.attention

theorem unmoved_grounded (h : Gathers s u) : Unmoved (grounded s u) u :=
  ⟨rfl, rfl, rfl, rfl, rfl, rfl, rfl, rfl, rfl, rfl, rfl, ⟨h.jatn, h.matn⟩⟩

/-- A part in HOLDING with the jet shut. -/
theorem stopped_holding (h : Gathers s u) (hlaw : QueueLaw u) (hq : u.queue = e :: rest) (hphase : u.jsq.phase = .holding) :
    Stopped (grounded s u) u.jetOff e rest u.stream.due :=
  ((unmoved_grounded h).moving hlaw hq fun _ => by
    have hground : (grounded s u).jsq = u.jsq := rfl
    rw [hground, hphase]
    rfl).jetOff

/-- What is said of the jet of one part holds of every other with its JSQ and its transmit list. -/
theorem jetShut_congr {s' : State} {list : List PumpMessage} (hjsq : s'.jsq = s.jsq) (hpump : s'.pump = s.pump)
    (h : jetShut s' list) : jetShut s list := by
  rw [jetShut, hjsq, hpump] at h
  exact h

/-- A skip told from another part with the same pages, tables and jet, of an entry with the same name and pages. -/
theorem skippedOut_congr {s' : State} {e' : Entry} {others : List Entry} {f : Finished} {due : List Control}
    (h : SkippedOut s' t e' others f due) (hown : e'.contourId = e.contourId ∧ e'.pages = e.pages)
    (hids : others.map Entry.contourId = rest.map Entry.contourId) (hready : headReady others → headReady rest)
    (hfree : s'.freePages = s.freePages) (hstore : s'.store = s.store) (hfin : s'.finished = s.finished)
    (hattention : s'.attention = s.attention) (hconfig : s'.config = s.config) (hmaterials : s'.materials = s.materials)
    (hjsq : s'.jsq = s.jsq) (hpump : s'.pump = s.pump) : SkippedOut s t e rest f due := by
  obtain ⟨⟨htids, htfree, htstore, htfin, htend, htconfig, htmat⟩, hwindow, ⟨list, hshut, htransmit⟩, hidle⟩ := h
  obtain ⟨hid, hpages⟩ := hown
  refine ⟨⟨htids.trans hids, by rw [htfree, hfree, hpages], by rw [htstore, hstore, hpages], by rw [htfin, hfin],
    gathers_pendingWhereRouted (.of_attention hattention) htend, htconfig.trans hconfig, htmat.trans hmaterials⟩, hwindow,
    ⟨list, jetShut_congr hjsq hpump hshut, htransmit⟩, fun hnot => ?_⟩
  obtain ⟨htjsq, htnone, htcursor, htexit, htdue, httarget, htempty⟩ := hidle fun h => hnot (hready h)
  rw [hid] at htdue
  rw [hconfig] at httarget
  exact ⟨htjsq, htnone, htcursor, htexit, htdue, httarget, gathers_pendingWhereRouted (.of_attention hattention) htempty⟩

/-- A planned stop that ends takes the head out, or leaves it where it is. -/
theorem holdingEnd_store (hlaw : QueueLaw u) (hq : u.queue = e :: rest)
    (hlength : u.holdingEnd.queue.length = u.queue.length) : u.holdingEnd.store = u.store := by
  rcases holdingEnd_cases u with hc | ⟨place, hreached, hc | hc⟩
  · rw [hc]
  · rw [hc, State.becomeHeld_store, State.jetOff_store]
  · have hstopped := stopped_holding (.refl u) hlaw hq hreached.phase
    obtain ⟨hids, -⟩ := headLeft_skipHead hstopped
    have hshort := congrArg List.length hids
    rw [List.length_map, List.length_map, ← hc, hlength, hq, List.length_cons] at hshort
    omega

theorem freed_holdingEnd (h : noRequest u) (hq : u.queue = e :: rest) (he : e.state = .active) : Freed u.holdingEnd := by
  have hq' : u.jetOff.queue = e :: rest := by rw [State.jetOff_queue, hq]
  rcases holdingEnd_cases u with hc | ⟨place, -, hc | hc⟩ <;> rw [hc]
  · exact .inl h
  · exact .inl (becomeHeld_noRequest (isSome_activeEntry.2 ⟨e, rest, hq', he⟩) _ _)
  · exact freed_skipHead hq'

theorem stopReached_iff {u : State} {place : Place} {plan : StopPlan} (hstop : u.stream.stopPlace = some plan.place)
    (h : StopReached u place) : plan.place = .seg place ∧ u.stream.cursor = some plan.place := by
  have hplace : plan.place = .seg place := Option.some.inj (hstop.symm.trans h.stop)
  exact ⟨hplace, by rw [hplace]; exact h.cursor⟩

/-- Settles O46, by whether JSQ holds, and there by the stop place. -/
theorem activeJobCompletes : Obligations.ActiveJobCompletes := by
  intro s job e rest words store hlaw hjob hk hq he hwords hstore
  have hact : s.activeEntry = some e := State.activeEntry_eq_some.2 ⟨rest, hq, he⟩
  have hwords' : s.wordsOf job e = words := hwords.symm
  obtain ⟨others, hothers, hids, hready⟩ := jobChosen_queue job hlaw hq he
  have hlaw' : QueueLaw (jobChosen job e s) := queueLaw_course hlaw (course_jobChosen job e s)
  have hstored : (jobChosen job e s).store = store := by rw [jobChosen_store, hwords', hstore]
  rw [hwords', ← hstore] at hothers
  have hjsq : (jobChosen job e s).jsq = s.jsq := jobChosen_keeps State.jsq job e s
  have hpump : (jobChosen job e s).pump = s.pump := jobChosen_keeps State.pump job e s
  have hfree : (jobChosen job e s).freePages = s.freePages := jobChosen_keeps State.freePages job e s
  have hsteady := gathers_steady s
  have hgathers : Gathers s (jobChosen job e s) :=
    hsteady.chooseWork (hsteady.setPlanner _ (hsteady.handStopPlace job (hsteady.jobWritten job e (.refl s))))
  refine ⟨_, exec_activeJobComplete hjob hk hact, fun hlength => ?_, fun hflag => ?_, ?_, ?_, ?_, ?_, ?_, ?_, ?_, fun hphase => ?_,
    fun plan _ hstop hphase => ⟨fun haway => ?_, fun place hplace hcursor hwindow => ?_⟩⟩
  · refine (holdingEnd_store hlaw' hothers ?_).trans hstored
    refine Eq.trans hlength ?_
    rw [hothers, hq, List.length_cons, List.length_cons, ← List.length_map Entry.contourId (as := others), hids, List.length_map]
  · rw [← hwords'] at hflag
    exact pendingWhereRouted_gathers (jobChosen_pending hflag) ((gathers_steady _).holdingEnd (.refl _)).settle
  · exact (State.holdingEnd_port _).trans (jobChosen_keeps State.port job e s)
  · exact (State.holdingEnd_config _).trans (jobChosen_keeps State.config job e s)
  · exact (State.holdingEnd_bufA _).trans (jobChosen_keeps State.bufA job e s)
  · exact (State.holdingEnd_bufB _).trans (jobChosen_keeps State.bufB job e s)
  · exact (State.holdingEnd_materials _).trans (jobChosen_keeps State.materials job e s)
  · exact (State.holdingEnd_wear _).trans (jobChosen_keeps State.wear job e s)
  · intro active hactive
    exact (freed_holdingEnd (chooseWork_noRequest rfl) hothers he).imp_left fun h => h active hactive
  · rw [holdingEnd_of_not fun place hreached => hphase (hjsq ▸ hreached.phase)]
    refine ⟨congrArg List.head? hothers, hjsq, hpump, ?_, hfree, fun hnone => ?_⟩
    · exact jobChosen_keeps State.motion job e s
    · refine (jobChosen_stream job e s).trans ?_
      rw [handStopPlace_none hnone]
      exact jobWritten_keeps State.stream job e s
  · have hhanded : (jobChosen job e s).stream
        = { s.stream with stopPlace := some plan.place, holdAtMade := some false } := by
      rw [jobChosen_stream, handStopPlace_away hstop (by rw [jobWritten_keeps State.stream]; exact haway), State.setStream_stream,
        jobWritten_keeps State.stream]
    rw [holdingEnd_of_not fun place hreached =>
      haway ((congrArg Stream.cursor hhanded).symm.trans (stopReached_iff (by rw [hhanded]) hreached).2)]
    exact ⟨hhanded, hjsq⟩
  · have hhanded : (jobChosen job e s).stream = { s.stream with
        due := s.stream.due ++ [.holdAt], stopPlace := some (.seg place), holdAtMade := some true } := by
      rw [jobChosen_stream, handStopPlace_reached hstop hplace (by rw [jobWritten_keeps State.stream]; exact hcursor),
        State.setStream_stream, jobWritten_keeps State.stream]
    have hreached : StopReached (jobChosen job e s) place :=
      ⟨by rw [hhanded], by rw [hjsq, hphase], by rw [hhanded, ← hplace]; exact hcursor, by rw [hhanded]; exact hwindow⟩
    have hstopped := stopped_holding hgathers hlaw' hothers hreached.phase
    have hempty : (jobChosen job e s).jetOff.stream.window = [] := by rw [State.jetOff_stream]; exact hreached.window
    have hsegs : (grounded s (jobChosen job e s)).segments (takesWords job.stamp store e) = s.segments e :=
      segments_writeWords (hstored.trans hstore) e
    have hdue : (jobChosen job e s).stream.due = s.stream.due ++ [.holdAt] := by rw [hhanded]
    rw [hdue] at hstopped
    refine ⟨fun cause hend hcause => ?_, fun hend => ?_⟩
    · have hheld := becomesHeld_alike (becomesHeld_of_stopped hstopped he hempty cause place) ((Alike.refl _).settle)
      obtain ⟨hhead, -, hidle, -, -, hdue', -, -, hshut, hpending, -⟩ := hheld
      rw [hsegs] at hhead
      rw [holdingEnd_held hreached (by rw [hjsq]; exact hend) (by rw [hjsq]; exact hcause)]
      exact ⟨hhead, hidle, jetShut_congr hjsq hpump hshut, hdue',
        gathers_pendingWhereRouted (.of_attention rfl) hpending⟩
    · have hskipped := skippedOut_alike (skippedOut_of_stopped hstopped (by simp [takesWords, he, EntryState.begun]) hempty)
        ((Alike.refl _).settle)
      rw [hsegs] at hskipped
      rw [holdingEnd_skipped hreached (by rw [hjsq]; exact hend)]
      exact skippedOut_congr (s := s.setStore store) (s' := grounded s (jobChosen job e s)) hskipped ⟨rfl, rfl⟩ hids hready hfree
        hstored (jobChosen_keeps State.finished job e s) rfl (jobChosen_keeps State.config job e s)
        (jobChosen_keeps State.materials job e s) hjsq hpump

end Sys2Proof.Proofs

/-! PROOFS. A SEG_DONE for the oldest flight (R144, R17, R121 to R126, R153). -/

namespace Sys2Proof.Proofs

open Sys2Proof Sys2Proof.Machine

variable {s t u v : State} {e : Entry} {rest : List Entry}

/-! ### A segment handed on -/

theorem segmentDone_bridge {x : Entry} {index : Nat} {r : SegRecord} (hr : (u.segments x)[index]? = some r)
    (hb : isBridge r = true) : u.segmentDone x index = u.modifyHead (doneAt (u.segments x) index) := by
  unfold State.segmentDone
  dsimp only
  rw [hr]
  exact if_pos hb

theorem segmentDone_cut {x : Entry} {index : Nat} {r : SegRecord} (hr : (u.segments x)[index]? = some r)
    (hb : isBridge r = false) :
    u.segmentDone x index = (u.modifyHead (doneAt (u.segments x) index)).countWear (Counter.cut (segLength r)) := by
  unfold State.segmentDone
  dsimp only
  rw [hr]
  exact if_neg (by rw [hb]; exact Bool.false_ne_true)

theorem countWear_frame (f : Counter → Counter) (u : State) :
    ∃ w a, u.countWear f = (u.setWear w).setAttention a := by
  refine ⟨(u.countWear f).wear, (u.countWear f).attention, ?_⟩
  unfold State.countWear
  conv_lhs => rw [judgeWear_frame]
  rfl

theorem countWear_counter (f : Counter → Counter) (u : State) (i : Fin 4) :
    ((u.countWear f).wear.counter i) = (f (u.wear.counter i)).judge := by
  rw [State.countWear, judgeWear_counter, State.setWear_wear, counter_mapCounters]

/-- A cutting segment counted (R175, R176). -/
theorem cut_counted {c : Counter} (h : c.source = .cutLength) (length : Nat) :
    (Counter.cut length c).judge.value = min 4294967295 (c.value + (c.remainder + length) / 1000)
      ∧ (Counter.cut length c).judge.remainder = (c.remainder + length) % 1000 := by
  rw [judge_eq, Counter.cut, if_pos h]
  exact ⟨rfl, rfl⟩

/-- What is said of every segment handed on: the head, and no more than the wear block and its sources besides. -/
theorem segmentDone_frame (x : Entry) (index : Nat) (u : State) : ∃ w a,
    u.segmentDone x index = ((u.modifyHead (doneAt (u.segments x) index)).setWear w).setAttention a := by
  rcases segmentDone_eq x index u with hc | hc <;> rw [hc]
  · exact ⟨u.wear, u.attention, rfl⟩
  · exact countWear_frame ..

/-- The done position moves along the cut order (R17, R50). -/
theorem advanceDone_successor {segs : List SegRecord} {passes : Nat} {p next : Place}
    (h : successor segs passes p = .seg next) (hpass : 1 ≤ p.pass) : State.advanceDone segs passes p.index p = next := by
  unfold successor at h
  unfold State.advanceDone
  split_ifs at h with hwrap hinside
  · rw [if_pos ⟨hwrap.2.1, hwrap.2.2⟩]
    exact Cursor.seg.inj h
  · rw [if_neg fun hend => hwrap ⟨by omega, hend.1, hend.2⟩]
    exact Cursor.seg.inj h

/-! ### The report -/

/-- The part with the oldest flight out of the window and its segment handed on, before JSQ is told (R144). -/
def handedOn (window : List Flight) (e : Entry) (f : Flight) (s : State) : State :=
  ((heard s).setStream { s.stream with window := window }).segmentDone e f.place.index

theorem exec_segDone {x : Exchange} {frame : Vector Byte 28} {raw : Byte} {f : Flight} {window : List Flight}
    (hx : s.motion.exchange = some x) (hempty : ∃ mask, x.placed.body = .empty mask)
    (hdecode : decodeFrame frame = some (raw, .segDone f.serial)) (hraw : raw.toNat = s.motion.override) (hlow : 10 ≤ raw.toNat)
    (hhigh : raw.toNat ≤ 150) (hwindow : s.stream.window = f :: window) (hact : s.activeEntry = some e) :
    exec (.motionFrameComplete frame) s
      = .next (((handedOn window e f s).sequencerSegDone e f.place).settle.pierceAtOnce s) := by
  have hreport : takeReport (.segDone f.serial) (heard s) = (handedOn window e f s).sequencerSegDone e f.place := by
    have hwindow' : (heard s).stream.window = f :: window := hwindow
    have hact' : ((heard s).setStream { (heard s).stream with window := window }).activeEntry = some e := hact
    dsimp only [takeReport]
    rw [reportSegDone, hwindow']
    dsimp only
    rw [if_pos rfl, acceptSegDone, hact']
    rfl
  rw [exec_frame_report hx hempty hdecode ((clampOverride_of_range hlow hhigh).trans hraw), hreport]

theorem handedOn_frame (window : List Flight) (f : Flight) (hq : s.queue = e :: rest) : ∃ w a,
    handedOn window e f s = ((((heard s).setStream { s.stream with window := window }).setQueue
      (doneAt (s.segments e) f.place.index e :: rest)).setWear w).setAttention a := by
  obtain ⟨w, a, hframe⟩ := segmentDone_frame e f.place.index ((heard s).setStream { s.stream with window := window })
  refine ⟨w, a, ?_⟩
  rw [handedOn, hframe]
  unfold State.modifyHead
  rw [show ((heard s).setStream { s.stream with window := window }).queue = e :: rest from hq]
  rfl

/-! ### JSQ's part (R121, R122, R123, R153) -/

theorem sequencerSegDone_end {x : Entry} {place : Place} (hphase : u.jsq.phase = .cutting ∨ u.jsq.phase = .holding)
    (hnext : successor (u.segments x) x.passes place = .fin) : u.sequencerSegDone x place = u.jetOff.finish := by
  unfold State.sequencerSegDone
  dsimp only
  rcases hphase with hphase | hphase <;> rw [hphase, hnext]

theorem sequencerSegDone_cutting {x : Entry} {place next : Place} {q : SegRecord} (hphase : u.jsq.phase = .cutting)
    (hnext : successor (u.segments x) x.passes place = .seg next) (hq : (u.segments x)[next.index]? = some q) :
    u.sequencerSegDone x place
      = if isBridge q then u.jetOff.setJsq { u.jetOff.jsq with phase := .bridgeStop } else u := by
  unfold State.sequencerSegDone
  dsimp only
  rw [hphase, hnext]
  dsimp only
  rw [hq, Option.any_some]

theorem sequencerSegDone_bridge {x : Entry} {place : Place} {r : SegRecord} (hphase : u.jsq.phase = .bridgeTravel)
    (hr : (u.segments x)[place.index]? = some r) (hb : isBridge r = true) :
    u.sequencerSegDone x place = u.startRepierce x := by
  unfold State.sequencerSegDone
  dsimp only
  rw [hphase]
  dsimp only
  rw [hr, Option.any_some]
  exact if_pos hb

theorem sequencerSegDone_holding {x : Entry} {place next : Place} (hphase : u.jsq.phase = .holding)
    (hnext : successor (u.segments x) x.passes place = .seg next) : u.sequencerSegDone x place = u.holdingEnd := by
  unfold State.sequencerSegDone
  dsimp only
  rw [hphase, hnext]

theorem sequencerSegDone_other (x : Entry) (place : Place) (hphase : u.jsq.phase ∉ [.cutting, .holding, .bridgeTravel]) :
    u.sequencerSegDone x place = u := by
  unfold State.sequencerSegDone
  dsimp only
  split
  · next h => exact absurd (by simp [h]) hphase
  · next h => exact absurd (by simp [h]) hphase
  · next h => exact absurd (by simp [h]) hphase
  · rfl

/-! ### The jet shut behind a segment -/

theorem Moving.countWear (h : Moving s u e rest) (f : Counter → Counter) : Moving s (u.countWear f) e rest where
  law := queueLaw_of_map h.law (by simp) (by simpa using h.law.2.2.1) (by simp)
  queue := by rw [State.countWear_queue, h.queue]
  ids := (ids_congr (by simp)).trans h.ids
  store := by rw [State.countWear_store, h.store]
  freePages := by rw [State.countWear_freePages, h.freePages]
  finished := by rw [State.countWear_finished, h.finished]
  config := by rw [State.countWear_config, h.config]
  materials := by rw [State.countWear_materials, h.materials]
  engine := by rw [State.countWear_engine, h.engine]
  stream := by rw [State.countWear_stream, h.stream]
  transmit := by rw [State.countWear_pump, h.transmit]
  contour := by rw [State.countWear_jsq, h.contour]
  shuts := h.shuts
  gathers := h.gathers.countWear f

theorem Moving.segmentDone (h : Moving s u e rest) {x : Entry} (hx : x.pages = e.pages) (index : Nat) :
    Moving s (u.segmentDone x index) (doneAt (s.segments e) index e) rest := by
  have hsegs : u.segments x = s.segments e := by
    unfold State.segments
    rw [h.store, hx]
  have hdone := h.modifyHead (keepsOwn_doneAt (s.segments e) index)
  rcases segmentDone_eq x index u with hc | hc <;> rw [hc, hsegs]
  · exact hdone
  · exact hdone.countWear _

/-- The jet shut behind a segment handed on, in a phase whose jet is open. -/
theorem handedOn_stopped (window : List Flight) (f : Flight) (hlaw : QueueLaw s) (hq : s.queue = e :: rest)
    (hopen : s.jsq.phase.jetOpen = true) :
    Stopped s (handedOn window e f s).jetOff (doneAt (s.segments e) f.place.index e) rest s.stream.due :=
  have h := (((Unmoved.refl ((heard s).setStream { s.stream with window := window })).moving hlaw hq fun _ => hopen).segmentDone
    rfl f.place.index).jetOff
  ⟨⟨h.law, h.queue, h.ids, h.store, h.freePages, h.finished, h.config, h.materials, h.engine, h.valve, h.shut, h.due, h.cursor,
    ⟨h.gathers.jatn, h.gathers.matn⟩⟩, h.abrasive⟩

theorem startRepierce_eq (x : Entry) (u : State) : ∃ mode, mode = (if x.pierceMode = .edgeStart then .lowStationary else x.pierceMode)
    ∧ u.startRepierce x = (u.setPump { u.pump with
        transmit := enqueueMessage (.setPressure (firstPressure u x mode)) u.pump.transmit, target := firstPressure u x mode
        ready := false, sag := 0 }).setJsq { u.jsq with
          phase := .piercePressure, startMode := some mode
          wait := some ⟨firstPressure u x mode, u.config.pressureTimeout.toNat * 1000⟩ } := ⟨_, rfl, rfl⟩

/-- The count of the segment handed on. -/
theorem handedOn_wear {r : SegRecord} (window : List Flight) (f : Flight) (hr : (s.segments e)[f.place.index]? = some r) :
    (isBridge r = true → (handedOn window e f s).wear = s.wear)
      ∧ (isBridge r = false → ∀ i, (s.wear.counter i).source = .cutLength →
        ((handedOn window e f s).wear.counter i).value
            = min 4294967295 ((s.wear.counter i).value + ((s.wear.counter i).remainder + segLength r) / 1000)
          ∧ ((handedOn window e f s).wear.counter i).remainder = ((s.wear.counter i).remainder + segLength r) % 1000) := by
  have hr' : (((heard s).setStream { s.stream with window := window }).segments e)[f.place.index]? = some r := hr
  refine ⟨fun hb => ?_, fun hb i hi => ?_⟩
  · rw [handedOn, segmentDone_bridge hr' hb]
    rfl
  · rw [handedOn, segmentDone_cut hr' hb, countWear_counter]
    exact cut_counted hi _

theorem doneAt_some {done : Place} (segs : List SegRecord) (index : Nat) (hdone : e.donePlace = some done) :
    doneAt segs index e = { e with
      donePlace := some (State.advanceDone segs e.passes index done), resumeFailures := 0, restartMark := false } := by
  rw [doneAt, hdone]
  rfl

/-- The part `u` that JSQ is told in: the oldest flight has left the window of `s`, and the head, now `x`, has its segment
done. -/
structure HandedOn (s u : State) (e x : Entry) (rest : List Entry) (index : Nat) (window : List Flight) : Prop where
  queue : u.queue = x :: rest
  stream : u.stream = { s.stream with window := window }
  jsq : u.jsq = s.jsq
  pump : u.pump = s.pump
  config : u.config = s.config
  materials : u.materials = s.materials
  store : u.store = s.store
  settled : u.settle = (((((s.setQueue u.queue).setStream u.stream).setMotion u.motion).setWear u.wear).setAttention
    u.settle.attention)
  stopped : QueueLaw s → s.jsq.phase.jetOpen = true → Stopped s u.jetOff x rest s.stream.due
  bridge : ∀ r, (s.segments e)[index]? = some r → isBridge r = true → u.wear = s.wear
  cut : ∀ r, (s.segments e)[index]? = some r → isBridge r = false → ∀ i, (s.wear.counter i).source = .cutLength →
    (u.wear.counter i).value = min 4294967295 ((s.wear.counter i).value + ((s.wear.counter i).remainder + segLength r) / 1000)
      ∧ (u.wear.counter i).remainder = ((s.wear.counter i).remainder + segLength r) % 1000

theorem handedOn_facts (window : List Flight) (f : Flight) (hq : s.queue = e :: rest) :
    HandedOn s (handedOn window e f s) e (doneAt (s.segments e) f.place.index e) rest f.place.index window := by
  have hwear (r : SegRecord) (hr : (s.segments e)[f.place.index]? = some r) := handedOn_wear window f hr
  have hstopped (hlaw : QueueLaw s) := handedOn_stopped window f hlaw hq
  obtain ⟨w, a, hframe⟩ := handedOn_frame window f hq
  rw [hframe] at hwear hstopped ⊢
  refine ⟨by simp, by simp, by simp, by simp, by simp, by simp, by simp, ?_, hstopped, fun r hr => (hwear r hr).1,
    fun r hr => (hwear r hr).2⟩
  simp only [State.settle, State.setAttention, State.setWear, State.setQueue, State.setStream, State.setMotion]

theorem HandedOn.unpierced {x : Entry} {index : Nat} {window : List Flight} (h : HandedOn s u e x rest index window) :
    Unpierced s u := .of_same (congrArg Sequencer.pierceMs h.jsq)

theorem unpierced_jetOff (u : State) : Unpierced u u.jetOff := .of_same rfl

/-- The exchange as JSQ's part of it. -/
theorem exec_handedOn {x : Exchange} {frame : Vector Byte 28} {raw : Byte} {f : Flight} {window : List Flight} {done : Place}
    (hx : s.motion.exchange = some x) (hempty : ∃ mask, x.placed.body = .empty mask)
    (hdecode : decodeFrame frame = some (raw, .segDone f.serial)) (hraw : raw.toNat = s.motion.override) (hlow : 10 ≤ raw.toNat)
    (hhigh : raw.toNat ≤ 150) (hwindow : s.stream.window = f :: window) (hq : s.queue = e :: rest) (he : e.state = .active)
    (hdone : e.donePlace = some done) : ∃ u,
      exec (.motionFrameComplete frame) s = .next ((u.sequencerSegDone e f.place).settle.pierceAtOnce s)
        ∧ HandedOn s u e { e with
            donePlace := some (State.advanceDone (s.segments e) e.passes f.place.index done), resumeFailures := 0
            restartMark := false } rest f.place.index window := by
  refine ⟨handedOn window e f s, exec_segDone hx hempty hdecode hraw hlow hhigh hwindow
    (State.activeEntry_eq_some.2 ⟨rest, hq, he⟩), ?_⟩
  rw [← doneAt_some (s.segments e) f.place.index hdone]
  exact handedOn_facts window f hq

/-- Settles O53, by the phase of JSQ and the segment that follows. -/
theorem segDoneAdvances : Obligations.SegDoneAdvances := by
  constructor
  · intro s x frame raw f window e rest r q done next hx hempty hdecode hraw hlow hhigh hwindow hqueue he hphase hdone hplace hpass hr
      hnext hq hbridge
    obtain ⟨u, hexec, hu⟩ := exec_handedOn hx hempty hdecode hraw hlow hhigh hwindow hqueue he hdone
    have hsegs : u.segments e = s.segments e := segments_congr hu.store e
    have hsame : u.sequencerSegDone e f.place = u := by
      rw [sequencerSegDone_cutting (q := q) (next := next) (by rw [hu.jsq, hphase]) (by rw [hsegs]; exact hnext)
        (by rw [hsegs]; exact hq), hbridge]
      exact if_neg Bool.false_ne_true
    rw [hplace, advanceDone_successor hnext (hplace ▸ hpass)] at hu
    rw [hsame, hu.unpierced.settle.pierceAtOnce] at hexec
    exact ⟨_, hexec, hu.queue, hu.stream, hu.jsq, hu.settled, hu.bridge r hr, hu.cut r hr⟩
  · intro s x frame raw f window e e' rest done hx hempty hsafe hdecode hraw hlow hhigh hwindow hqueue he hdone he'
    obtain ⟨u, hexec, hu⟩ := exec_handedOn hx hempty hdecode hraw hlow hhigh hwindow hqueue he hdone
    have hsegs : u.segments e = s.segments e := segments_congr hu.store e
    have hactive : e'.state = .active := by rw [he', he]
    rw [← he'] at hu
    refine ⟨_, hexec, fun next q hphase hnext hq hbridge => ?_, fun r mode target hphase hr hbridge hmode htarget => ?_,
      fun hphase hnext => ?_, fun next p hphase hnext hempty' hstop hcursor => ?_, fun hother => ?_⟩
    · rw [sequencerSegDone_cutting (q := q) (next := next) (by rw [hu.jsq, hphase]) (by rw [hsegs]; exact hnext)
        (by rw [hsegs]; exact hq), if_pos hbridge]
      have hshut : Unpierced u (u.jetOff.setJsq { u.jetOff.jsq with phase := .bridgeStop }) := .of_same rfl
      rw [(hu.unpierced.trans hshut).settle.pierceAtOnce]
      rw [State.settle_queue, State.settle_stream, State.settle_jsq, State.settle_pump, State.setJsq_queue, State.setJsq_stream,
        State.setJsq_jsq, State.setJsq_pump, State.jetOff_queue, State.jetOff_stream, State.jetOff_eq, State.setJsq_jsq,
        State.setJsq_pump, State.setPump_pump, hu.jsq, hu.pump]
      exact ⟨hu.queue, hu.stream, rfl, rfl⟩
    · obtain ⟨mode', hmode', hrepierce⟩ := startRepierce_eq e u
      have hfirst : firstPressure u e mode' = target := by
        rw [htarget, hmode, ← hmode', firstPressure_congr hu.config hu.materials, firstPressure, firstTarget_eq]
      rw [sequencerSegDone_bridge (r := r) (by rw [hu.jsq, hphase]) (by rw [hsegs]; exact hr) hbridge, hrepierce, hfirst,
        hmode'.trans hmode.symm]
      have hstart : Unpierced u ((u.setPump { u.pump with
          transmit := enqueueMessage (.setPressure target) u.pump.transmit, target := target, ready := false
          sag := 0 }).setJsq { u.jsq with
            phase := .piercePressure, startMode := some mode
            wait := some ⟨target, u.config.pressureTimeout.toNat * 1000⟩ }) := .of_same rfl
      rw [(hu.unpierced.trans hstart).settle.pierceAtOnce]
      rw [State.settle_queue, State.settle_stream, State.settle_wear, State.settle_jsq, State.settle_pump, State.setJsq_queue,
        State.setJsq_stream, State.setJsq_wear, State.setJsq_jsq, State.setJsq_pump, State.setPump_queue, State.setPump_stream,
        State.setPump_wear, State.setPump_pump, hu.jsq, hu.pump, hu.config]
      exact ⟨hu.queue, hu.stream, hu.bridge r hr hbridge, rfl, rfl⟩
    · rw [sequencerSegDone_end (by rw [hu.jsq]; exact hphase) (by rw [hsegs]; exact hnext)]
      rw [((hu.unpierced.trans (unpierced_jetOff u)).trans (unpierced_finish _)).settle.pierceAtOnce]
      have hopen : s.jsq.phase.jetOpen = true := by rcases hphase with hp | hp <;> rw [hp] <;> rfl
      exact finishes_alike (finishes_of_stopped (hu.stopped hsafe.1 hopen) (by rw [hactive]; rfl)) ((Alike.refl _).settle)
    · rw [sequencerSegDone_holding (by rw [hu.jsq]; exact hphase) (by rw [hsegs]; exact hnext)]
      have hreached : StopReached u p := ⟨by rw [hu.stream]; exact hstop, by rw [hu.jsq, hphase], by rw [hu.stream]; exact hcursor,
        by rw [hu.stream]; exact hempty'⟩
      have hwindow' : u.jetOff.stream.window = [] := by rw [State.jetOff_stream]; exact hreached.window
      have hstopped := hu.stopped hsafe.1 (by rw [hphase]; rfl)
      refine ⟨fun cause hend hcause => ?_, fun hend => ?_⟩
      · rw [holdingEnd_held hreached (by rw [hu.jsq]; exact hend) (by rw [hu.jsq]; exact hcause)]
        rw [((hu.unpierced.trans (unpierced_jetOff u)).trans (unpierced_becomeHeld ..)).settle.pierceAtOnce]
        exact becomesHeld_alike (becomesHeld_of_stopped hstopped hactive hwindow' cause p) ((Alike.refl _).settle)
      · rw [holdingEnd_skipped hreached (by rw [hu.jsq]; exact hend)]
        rw [((hu.unpierced.trans (unpierced_jetOff u)).trans (unpierced_skipHead _)).settle.pierceAtOnce]
        have hsegs' : s.segments e' = s.segments e := by rw [he']; rfl
        rw [← hsegs']
        exact skippedOut_alike (skippedOut_of_stopped hstopped (by rw [hactive]; rfl) hwindow') ((Alike.refl _).settle)
    · have hsame : u.sequencerSegDone e f.place = u := by
        rcases hother with hphase | ⟨hphase, hnext, hnot⟩
        · exact sequencerSegDone_other e f.place (by rw [hu.jsq]; exact hphase)
        · cases hsucc : successor (s.segments e) e.passes f.place with
          | fin => exact absurd hsucc hnext
          | seg next =>
            rw [sequencerSegDone_holding (by rw [hu.jsq]; exact hphase) (by rw [hsegs]; exact hsucc)]
            refine holdingEnd_of_not fun place hreached => ?_
            obtain ⟨hstop, -, hcursor, hempty'⟩ := hreached
            rw [hu.stream] at hstop hcursor hempty'
            rcases hnot with h | h | h
            · exact h hempty'
            · exact Option.some_ne_none _ (hstop.symm.trans h)
            · exact h (hstop.trans hcursor.symm)
      rw [hsame, hu.unpierced.settle.pierceAtOnce]
      exact ⟨hu.queue, hu.stream, hu.jsq⟩

end Sys2Proof.Proofs

/-! PROOFS. The sequencer's timers: the pierce timer and the pressure wait (R116, R118, R130). -/

namespace Sys2Proof.Proofs

open Sys2Proof Sys2Proof.Machine

variable {s t u v : State} {e : Entry} {rest : List Entry}

/-! ### The pierce timer -/

theorem afterPierce_low (h : u.jsq.startMode = some .lowStationary) (e : Entry) :
    u.afterPierce e = (u.setPump { u.pump with
        transmit := enqueueMessage (.setPressure (clampPressure u.config (u.materialOf e).pCut.toNat)) u.pump.transmit
        target := clampPressure u.config (u.materialOf e).pCut.toNat, ready := false, sag := 0 }).setJsq { u.jsq with
          phase := .cutPressure
          wait := some ⟨clampPressure u.config (u.materialOf e).pCut.toNat, u.config.pressureTimeout.toNat * 1000⟩ } := by
  rw [State.afterPierce, h]
  rfl

theorem afterPierce_other (h : u.jsq.startMode ≠ some .lowStationary) (e : Entry) :
    u.afterPierce e = u.setJsq { u.jsq with phase := .cutting, startMode := none } := by
  unfold State.afterPierce
  split
  · exact absurd ‹_› h
  · rfl

theorem afterPierce_frame (e : Entry) (u : State) :
    u.afterPierce e = (u.setJsq (u.afterPierce e).jsq).setPump (u.afterPierce e).pump := by
  by_cases hlow : u.jsq.startMode = some .lowStationary
  · rw [afterPierce_low hlow]
    rfl
  · rw [afterPierce_other hlow]
    rfl

/-- A pierce counted (R175, R176). -/
theorem pierce_counted {c : Counter} (h : c.source = .pierces) : (Counter.pierce c).judge.value = min 4294967295 (c.value + 1) := by
  rw [judge_value, Counter.pierce, if_pos h]
  rfl

/-- The expiry of a running pierce timer: the count, then JSQ's step. -/
theorem pierceExpires_eq {n : Nat} (hact : s.activeEntry = some e) (hphase : s.jsq.phase = .piercing)
    (htimer : s.jsq.pierceMs = some n) : ∃ w a,
      (∀ i, (s.wear.counter i).source = .pierces → (w.counter i).value = min 4294967295 ((s.wear.counter i).value + 1))
        ∧ s.pierceExpires
          = ((((s.setJsq { s.jsq with pierceMs := none }).setWear w).setAttention a).afterPierce e).settle := by
  obtain ⟨w, a, hcount⟩ := countWear_frame Counter.pierce (s.setJsq { s.jsq with pierceMs := none })
  refine ⟨w, a, fun i hi => ?_, ?_⟩
  · have hcounter := countWear_counter Counter.pierce (s.setJsq { s.jsq with pierceMs := none }) i
    rw [hcount, State.setAttention_wear, State.setWear_wear] at hcounter
    rw [hcounter]
    exact pierce_counted hi
  · rw [← hcount]
    unfold State.pierceExpires
    rw [hact]
    exact if_pos ⟨hphase, by simp [htimer]⟩

/-! ### The pressure wait -/

theorem takeFault_rests (hact : u.activeEntry = some e)
    (hphase : u.jsq.phase ∈ [.positioning, .piercePressure, .piercing, .cutPressure, .bridgeStop, .bridgeTravel]) (f : FaultEvent) :
    u.takeFault f = u.immediateHold f.cause := by
  rw [State.takeFault, hact]
  revert hphase
  cases u.jsq.phase <;> simp

/-- A pressure wait expired, before the fault is taken (R116). -/
def waitExpired (s : State) : State := (s.setJsq { s.jsq with wait := none }).raise .pressureTimeout

theorem exec_pressureWaitExpiry {w : PressureWait} (hw : s.jsq.wait = some w) :
    exec .pressureWaitExpiry s = .next ((waitExpired s).takeFault .pressureTimeout).settle := by
  rw [show exec .pressureWaitExpiry s = execPressureWaitExpiry s from rfl, execPressureWaitExpiry, hw]
  rfl

theorem unmoved_waitExpired (s : State) : Unmoved s (waitExpired s) :=
  have hclosed : Gathers s (s.setJsq { s.jsq with wait := none }) := .of_attention rfl
  ⟨rfl, rfl, rfl, rfl, rfl, rfl, rfl, rfl, rfl, rfl, rfl, hclosed.raise _⟩

/-- Settles O56: the pierce timer by the start mode, and the wait as an immediate rest. -/
theorem sequencerTimers : Obligations.SequencerTimers := by
  intro s e rest hlaw hq he
  have hact : s.activeEntry = some e := State.activeEntry_eq_some.2 ⟨rest, hq, he⟩
  refine ⟨fun n target hphase htimer htarget => ?_, fun w c hw hphase hc => ?_⟩
  · obtain ⟨w, a, hcount, hexpires⟩ := pierceExpires_eq hact hphase htimer
    have hframe := afterPierce_frame e (((s.setJsq { s.jsq with pierceMs := none }).setWear w).setAttention a)
    rw [show exec .pierceTimerExpiry s = .next s.pierceExpires from rfl, hexpires]
    refine ⟨_, rfl, ?_, fun hlow => ?_, fun hfull => ?_, ?_⟩
    · rw [hframe]
      exact hcount
    · have hmaterial : (((s.setJsq { s.jsq with pierceMs := none }).setWear w).setAttention a).materialOf e = s.materialOf e := rfl
      rw [afterPierce_low (u := ((s.setJsq { s.jsq with pierceMs := none }).setWear w).setAttention a) hlow, hmaterial,
        State.setAttention_config, State.setWear_config, State.setJsq_config, ← htarget, State.settle_jsq, State.settle_pump,
        State.setJsq_jsq, State.setJsq_pump, State.setPump_pump, State.setAttention_pump, State.setWear_pump, State.setJsq_pump]
      exact ⟨rfl, rfl⟩
    · rw [afterPierce_other (u := ((s.setJsq { s.jsq with pierceMs := none }).setWear w).setAttention a)
        (by rw [State.setAttention_jsq, State.setWear_jsq, State.setJsq_jsq, hfull]; simp), State.settle_jsq, State.settle_pump,
        State.setJsq_jsq, State.setJsq_pump, State.setAttention_pump, State.setWear_pump, State.setJsq_pump]
      exact ⟨rfl, rfl⟩
    · conv_lhs => rw [hframe]
      generalize (((s.setJsq { s.jsq with pierceMs := none }).setWear w).setAttention a).afterPierce e = v at hframe ⊢
      rw [hframe]
      rfl
  · have hin : s.jsq.phase ∈ [.positioning, .piercePressure, .piercing, .cutPressure, .bridgeStop, .bridgeTravel] := by
      revert hphase
      cases s.jsq.phase <;> simp
    have hfault : (waitExpired s).takeFault .pressureTimeout = (waitExpired s).immediateHold .pressureTimeout :=
      takeFault_rests (u := waitExpired s) hact hin .pressureTimeout
    have hheld := (unmoved_waitExpired s).heldAtOnce hlaw hq he hc .pressureTimeout
    have hraised : Gathers ((s.setJsq { s.jsq with wait := none }).raise .pressureTimeout)
        ((waitExpired s).immediateHold .pressureTimeout).settle :=
      ((gathers_steady (waitExpired s)).immediateHold _ (.refl _)).settle
    have hjsq : ((waitExpired s).immediateHold .pressureTimeout).settle.jsq = _ := hheld.jsq
    have hgathers : Gathers s (s.setJsq { s.jsq with wait := none }) := .of_attention rfl
    rw [exec_pressureWaitExpiry hw, hfault]
    refine ⟨_, rfl, hgathers.pending hraised, pendingWhereRouted_gathers hheld.held (Gathers.refl _).settle, hheld.head, ?_, ?_, ?_,
      hheld.shut, hheld.window, hheld.due, hheld.store, ?_, hheld.config, hheld.finished⟩
    · rw [hjsq]
      rfl
    · rw [hjsq]
      rfl
    · rw [hjsq]
      rfl
    · exact State.immediateHold_wear ..

end Sys2Proof.Proofs

/-! PROOFS. The operations of the active contour and the job port: none of them reads the port or changes it. -/

namespace Sys2Proof.Proofs

open Sys2Proof Sys2Proof.Machine

variable {u v : State} {e : Entry} {p : JobPort}

theorem ite_setPort {c : Prop} [Decidable c] (u v : State) (p : JobPort) :
    (if c then u.setPort p else v.setPort p) = (if c then u else v).setPort p := by
  split <;> rfl

/-! ### Operations without a case of their own -/

theorem raise_setPort (u : State) (p : JobPort) (src : Source) : (u.setPort p).raise src = (u.raise src).setPort p := rfl

theorem jetOff_setPort (u : State) (p : JobPort) : (u.setPort p).jetOff = u.jetOff.setPort p := rfl

theorem startSequence_setPort (u : State) (p : JobPort) (e : Entry) (mode : PierceMode) (x y : Nat) :
    (u.setPort p).startSequence e mode x y = (u.startSequence e mode x y).setPort p := rfl

theorem startActiveJob_setPort (u : State) (p : JobPort) (kind : JobKind) (e : Entry) :
    (u.setPort p).startActiveJob kind e = (u.startActiveJob kind e).setPort p := by
  cases kind <;> rfl

theorem modifyHead_setPort (u : State) (p : JobPort) (f : Entry → Entry) :
    (u.setPort p).modifyHead f = (u.modifyHead f).setPort p := by
  unfold State.modifyHead
  rw [State.setPort_queue]
  split <;> rfl

/-! ### The planning engine -/

theorem chooseWork_setPort (u : State) (p : JobPort) : (u.setPort p).chooseWork = u.chooseWork.setPort p := by
  unfold State.chooseWork
  rw [State.setPort_planner, State.setPort_queue]
  split
  · rfl
  · split <;> rfl

theorem dropRequest_setPort (u : State) (p : JobPort) : (u.setPort p).dropRequest = u.dropRequest.setPort p := by
  have hrequest : (u.setPort p).requestOutstanding = u.requestOutstanding := rfl
  have hfree : (u.setPort p).setPlanner { u.planner with job := none } = (u.setPlanner { u.planner with job := none }).setPort p := rfl
  rw [State.dropRequest, State.dropRequest, hrequest, State.setPort_planner, hfree, chooseWork_setPort, ite_setPort]

theorem takeRequest_setPort (u : State) (p : JobPort) (kind : JobKind) :
    (u.setPort p).takeRequest kind = (u.takeRequest kind).setPort p := by
  have hmark : ∀ w : State, (if kind = .stop then (w.setPort p).setPlanner { (w.setPort p).planner with stopTaken := true } else w.setPort p)
      = (if kind = .stop then w.setPlanner { w.planner with stopTaken := true } else w).setPort p := fun w => by
    split <;> rfl
  unfold State.takeRequest
  rw [activeEntry_congr (State.setPort_queue u p)]
  split
  · rfl
  · next e _ =>
    rw [hmark u]
    generalize (if kind = .stop then u.setPlanner { u.planner with stopTaken := true } else u) = w
    dsimp only
    rw [State.setPort_planner]
    split
    · exact startActiveJob_setPort w p kind e
    · next job _ =>
      split
      · exact startActiveJob_setPort (w.modifyEntry job.contour fun x => { x with state := .waitingPlan }) p kind e
      · split
        · exact startActiveJob_setPort w p _ e
        · rfl

/-! ### Coming to rest -/

theorem becomeHeld_setPort (u : State) (p : JobPort) (cause : Cause) (point : Place) :
    (u.setPort p).becomeHeld cause point = (u.becomeHeld cause point).setPort p := by
  unfold State.becomeHeld
  rw [activeEntry_congr (State.setPort_queue u p)]
  split
  · rfl
  · next e _ =>
    dsimp only
    have hidle : ∀ w : State, (w.setPort p).endActive.sequencerIdle = w.endActive.sequencerIdle.setPort p := fun _ => rfl
    rw [modifyHead_setPort, hidle, dropRequest_setPort, raise_setPort]
    rfl

theorem restAtOnce_setPort (u : State) (p : JobPort) : (u.setPort p).restAtOnce = u.restAtOnce.setPort p := by
  unfold State.restAtOnce
  have hdue : (u.setPort p).makeStopDue .halt = (u.makeStopDue .halt).setPort p := rfl
  rw [hdue]
  generalize u.makeStopDue .halt = w
  dsimp only
  rw [State.setPort_jsq, jetOff_setPort, ite_setPort]
  rfl

theorem immediateHold_setPort (u : State) (p : JobPort) (cause : Cause) :
    (u.setPort p).immediateHold cause = (u.immediateHold cause).setPort p := by
  unfold State.immediateHold
  rw [activeEntry_congr (State.setPort_queue u p)]
  split
  · rfl
  · rw [restAtOnce_setPort, becomeHeld_setPort]
    rfl

theorem pumpSilenceAtStart_setPort (u : State) (p : JobPort) :
    (u.setPort p).pumpSilenceAtStart = u.pumpSilenceAtStart.setPort p := by
  rw [State.pumpSilenceAtStart, immediateHold_setPort, ite_setPort]
  rfl

theorem silenceAtStart_setPort (u : State) (p : JobPort) : (u.setPort p).silenceAtStart = u.silenceAtStart.setPort p := by
  rw [State.silenceAtStart, immediateHold_setPort, ite_setPort, pumpSilenceAtStart_setPort]
  rfl

/-! ### Activation and leaving -/

theorem activated_setPort (e : Entry) (u : State) (p : JobPort) : activated e (u.setPort p) = (activated e u).setPort p := by
  have hstart : ∀ w : State, ((((w.setPort p).startStream ⟨0, 1⟩).setPlanner { u.planner with stopTaken := false }).raise .contourStart)
      = (((w.startStream ⟨0, 1⟩).setPlanner { u.planner with stopTaken := false }).raise .contourStart).setPort p := fun _ => rfl
  unfold activated
  rw [modifyHead_setPort, State.setPort_planner, hstart]
  generalize (((u.modifyHead Entry.activate).startStream ⟨0, 1⟩).setPlanner { u.planner with stopTaken := false }).raise .contourStart = w
  dsimp only
  rw [takeRequest_setPort, ite_setPort]
  rfl

theorem tryActivate_setPort (u : State) (p : JobPort) : (u.setPort p).tryActivate = u.tryActivate.setPort p := by
  have hcan : (u.setPort p).canActivate = u.canActivate := rfl
  unfold State.tryActivate
  rw [State.setPort_queue, hcan]
  split
  · rw [activate_eq, activate_eq, activated_setPort, startSequence_setPort, silenceAtStart_setPort, ite_setPort]
  · rfl

theorem runOn_setPort (u : State) (p : JobPort) : (u.setPort p).runOn = u.runOn.setPort p := by
  have hcan : (u.setPort p).canActivate = u.canActivate := rfl
  have hidle : (u.setPort p).issueIdlePressure = u.issueIdlePressure.setPort p := rfl
  rw [State.runOn, State.runOn, hcan, tryActivate_setPort, hidle, raise_setPort, ite_setPort]

theorem removeEntry_setPort (u : State) (p : JobPort) (e : Entry) (outcome : Option Outcome) :
    (u.setPort p).removeEntry e outcome = (u.removeEntry e outcome).setPort p := by
  unfold State.removeEntry
  cases outcome <;> cases e.state.begun <;> rfl

theorem skipHead_setPort (u : State) (p : JobPort) : (u.setPort p).skipHead = u.skipHead.setPort p := by
  unfold State.skipHead
  rw [State.setPort_queue]
  split
  · rfl
  · next e _ _ =>
    have hended : (if e.state = .active then (u.setPort p).endActive else u.setPort p)
        = (if e.state = .active then u.endActive else u).setPort p := ite_setPort u.endActive u p
    have hleft : ∀ w : State, ((w.setPort p).setStream
        { (w.setPort p).stream with due := dropUntold e.contourId (w.setPort p).stream.due }).sequencerIdle
        = (w.setStream { w.stream with due := dropUntold e.contourId w.stream.due }).sequencerIdle.setPort p := fun _ => rfl
    dsimp only
    rw [hended, removeEntry_setPort, hleft, dropRequest_setPort, runOn_setPort]

theorem immediateRest_setPort (u : State) (p : JobPort) (cause : Cause) (ending : Ending) :
    (u.setPort p).immediateRest cause ending = (u.immediateRest cause ending).setPort p := by
  unfold State.immediateRest
  rw [activeEntry_congr (State.setPort_queue u p)]
  split
  · rfl
  · cases ending with
    | held => exact immediateHold_setPort u p cause
    | skipped =>
      dsimp only
      rw [restAtOnce_setPort, modifyHead_setPort, skipHead_setPort]
      rfl

/-! ### The three commands of the operator -/

theorem plannedStop_setPort (u : State) (p : JobPort) (ending : Ending) :
    plannedStop ending (u.setPort p) = (plannedStop ending u).setPort p := by
  unfold plannedStop
  rw [takeRequest_setPort]
  rfl

theorem holdHead_setPort (u : State) (p : JobPort) : holdHead (u.setPort p) = (holdHead u).map (·.setPort p) := by
  unfold holdHead
  rw [activeEntry_congr (State.setPort_queue u p), plannedStop_setPort, immediateRest_setPort, State.setPort_jsq]
  split
  · rfl
  · simp only [apply_ite (Option.map fun w : State => w.setPort p), Option.map_some, Option.map_none]

theorem skipRequest_setPort (u : State) (p : JobPort) : skipRequest (u.setPort p) = (skipRequest u).map (·.setPort p) := by
  unfold skipRequest
  rw [State.setPort_queue]
  split
  · rfl
  · next e _ _ =>
    cases e.state with
    | active =>
      dsimp only
      rw [plannedStop_setPort, immediateRest_setPort, State.setPort_jsq]
      simp only [apply_ite (Option.map fun w : State => w.setPort p), Option.map_some, Option.map_none]
      rfl
    | held | failed => exact congrArg some (skipHead_setPort u p)
    | _ => rfl

theorem resumeHead_setPort (u : State) (p : JobPort) : resumeHead (u.setPort p) = (resumeHead u).setPort p := by
  unfold resumeHead
  rw [State.setPort_queue]
  split
  · rfl
  · next e _ _ =>
    have hstart : ∀ w : State, ((w.setPort p).setPlanner { (w.setPort p).planner with stopTaken := false }).startStream
        (e.resumePoint.getD ⟨0, 1⟩)
        = ((w.setPlanner { w.planner with stopTaken := false }).startStream (e.resumePoint.getD ⟨0, 1⟩)).setPort p := fun _ => rfl
    dsimp only
    rw [modifyHead_setPort, hstart, takeRequest_setPort, startSequence_setPort, pumpSilenceAtStart_setPort]
    rfl

end Sys2Proof.Proofs

/-! PROOFS. The opening of the jet at the end of a wait, with a pierce time of 0 expiring at once (R112, R117, R118). -/

namespace Sys2Proof.Proofs

open Sys2Proof Sys2Proof.Machine

variable {s t u v : State} {e : Entry} {rest : List Entry}

/-- JSQ with the jet just opened for `e`, in its phase before. -/
def openedJsq (s : State) (e : Entry) : Sequencer :=
  { s.jsq with wait := none, traverseSerial := none, arrived := none, valve := .opened
               abrasive := (s.materialOf e).abrasiveRate.toNat }

/-- The transmit list with the jet-on pair (R112). -/
def jetOnSent (s : State) (e : Entry) : List PumpMessage :=
  enqueueMessage (.setAbrasive (s.materialOf e).abrasiveRate.toNat) (enqueueMessage (.setValve .opened) s.pump.transmit)

/-- The jet has been opened for `e` since `s`, in PIERCING or for EDGE_START in CUTTING, and nothing but JSQ and the transmit
list matters to what follows. -/
structure JetIsOn (s u : State) (e : Entry) : Prop where
  queue : u.queue = s.queue
  materials : u.materials = s.materials
  config : u.config = s.config
  wear : u.wear = s.wear
  transmit : u.pump.transmit = jetOnSent s e
  edge : s.jsq.startMode = some .edgeStart → u.jsq = { openedJsq s e with phase := .cutting, startMode := none }
  pierce : s.jsq.startMode ≠ some .edgeStart →
    u.jsq = { openedJsq s e with phase := .piercing, pierceMs := some ((s.materialOf e).pierceTime.toNat * 10) }

theorem JetIsOn.congr (h : JetIsOn s u e) (hjsq : v.jsq = u.jsq) (htransmit : v.pump.transmit = u.pump.transmit)
    (hqueue : v.queue = u.queue := by simp) (hmaterials : v.materials = u.materials := by simp)
    (hconfig : v.config = u.config := by simp) (hwear : v.wear = u.wear := by simp) : JetIsOn s v e where
  queue := hqueue.trans h.queue
  materials := hmaterials.trans h.materials
  config := hconfig.trans h.config
  wear := hwear.trans h.wear
  transmit := htransmit.trans h.transmit
  edge hedge := hjsq.trans (h.edge hedge)
  pierce hpierce := hjsq.trans (h.pierce hpierce)

theorem openJet_edge (h : u.jsq.startMode = some .edgeStart) (e : Entry) : u.openJet e
    = (u.setPump { u.pump with transmit := jetOnSent u e }).setJsq { u.jsq with
        valve := .opened, abrasive := (u.materialOf e).abrasiveRate.toNat, phase := .cutting, startMode := none
        traverseSerial := none, arrived := none } :=
  if_pos h

theorem openJet_pierce (h : u.jsq.startMode ≠ some .edgeStart) (e : Entry) : u.openJet e
    = (u.setPump { u.pump with transmit := jetOnSent u e }).setJsq { u.jsq with
        valve := .opened, abrasive := (u.materialOf e).abrasiveRate.toNat, phase := .piercing
        pierceMs := some ((u.materialOf e).pierceTime.toNat * 10), traverseSerial := none, arrived := none } :=
  if_neg h

/-- The wait has been closed and nothing else that the jet's opening looks at has changed since `s`. -/
structure WaitClosed (s u : State) : Prop where
  queue : u.queue = s.queue
  materials : u.materials = s.materials
  config : u.config = s.config
  wear : u.wear = s.wear
  transmit : u.pump.transmit = s.pump.transmit
  jsq : { u.jsq with arrived := none } = { s.jsq with wait := none, arrived := none }

theorem materialOf_congr (h : u.materials = s.materials) (e : Entry) : u.materialOf e = s.materialOf e := by
  rw [State.materialOf, h]
  rfl

theorem jetOnSent_congr (hmaterials : u.materials = s.materials) (htransmit : u.pump.transmit = s.pump.transmit) (e : Entry) :
    jetOnSent u e = jetOnSent s e := by
  rw [jetOnSent, materialOf_congr hmaterials, htransmit, jetOnSent]

theorem WaitClosed.openJet (h : WaitClosed s u) (e : Entry) : JetIsOn s (u.openJet e) e := by
  have hsent := jetOnSent_congr h.materials h.transmit e
  have hmaterial := materialOf_congr h.materials e
  have hmode : u.jsq.startMode = s.jsq.startMode := (Sequencer.mk.inj h.jsq).2.2.1
  refine ⟨by simp [h.queue], by simp [h.materials], by simp [h.config], by simp [h.wear], ?_, fun hedge => ?_, fun hpierce => ?_⟩
  · by_cases hedge : u.jsq.startMode = some .edgeStart
    · rw [openJet_edge hedge, ← hsent]
      rfl
    · rw [openJet_pierce hedge, ← hsent]
      rfl
  · rw [openJet_edge (hmode.trans hedge), State.setJsq_jsq, hmaterial]
    exact congrArg (fun x : Sequencer => { x with
      valve := .opened, abrasive := (s.materialOf e).abrasiveRate.toNat, phase := .cutting, startMode := none
      traverseSerial := none }) h.jsq
  · rw [openJet_pierce (hmode ▸ hpierce), State.setJsq_jsq, hmaterial]
    exact congrArg (fun x : Sequencer => { x with
      valve := .opened, abrasive := (s.materialOf e).abrasiveRate.toNat, phase := .piercing
      pierceMs := some ((s.materialOf e).pierceTime.toNat * 10), traverseSerial := none }) h.jsq

theorem pierceAtOnce_running {old : State} {n : Nat} (hms : u.jsq.pierceMs = some n) (hn : n ≠ 0) : u.pierceAtOnce old = u :=
  if_neg fun hboth => hn (Option.some.inj (hms.symm.trans hboth.2))

/-- A timer started with 0 has run out in the same change (R65, R118). -/
theorem pierceAtOnce_zero {old : State} (hidle : old.jsq.pierceMs = none) (hms : u.jsq.pierceMs = some 0) :
    u.pierceAtOnce old = u.pierceExpires :=
  if_pos ⟨hidle, hms⟩

/-- JSQ, the transmit list and the wear count behind a pierce that has expired, in the words of the statements. -/
theorem JetIsOn.expired (h : JetIsOn s u e) (he : s.activeEntry = some e) (hmode : s.jsq.startMode ≠ some .edgeStart) :
    ∃ v : State, u.settle.pierceExpires = (v.afterPierce e).settle
      ∧ v.jsq = { openedJsq s e with phase := .piercing, pierceMs := none } ∧ v.pump.transmit = jetOnSent s e
      ∧ v.materials = s.materials ∧ v.config = s.config
      ∧ ∀ i, (s.wear.counter i).source = .pierces →
          (v.wear.counter i).value = min 4294967295 ((s.wear.counter i).value + 1) := by
  have hact : u.settle.activeEntry = some e := (activeEntry_congr h.queue).trans he
  have hjsq := h.pierce hmode
  obtain ⟨w, a, hcount, hexpires⟩ := pierceExpires_eq (s := u.settle) hact (by rw [State.settle_jsq, hjsq]) (by rw [State.settle_jsq, hjsq])
  refine ⟨_, hexpires, ?_, h.transmit, h.materials, h.config, fun i hi => ?_⟩
  · rw [State.setAttention_jsq, State.setWear_jsq, State.setJsq_jsq, State.settle_jsq, hjsq]
  · rw [State.settle_wear, h.wear] at hcount
    exact hcount i hi

theorem JetIsOn.jetOpened (h : JetIsOn s u e) (he : s.activeEntry = some e) (hidle : s.jsq.pierceMs = none) :
    JetOpened s (u.settle.pierceAtOnce s) e := by
  rintro m jsq sent target rfl rfl rfl rfl
  refine ⟨fun hedge => ?_, fun hmode hpos => ?_, fun hlow hzero => ?_, fun hfull hzero => ?_⟩
  · rw [State.pierceAtOnce_of_same (s := u.settle) (by rw [State.settle_jsq, h.edge hedge]; rfl)]
    exact ⟨h.edge hedge, h.transmit, h.wear⟩
  · rw [pierceAtOnce_running (u := u.settle) (by rw [State.settle_jsq, h.pierce hmode]) (by omega)]
    exact ⟨h.pierce hmode, h.transmit, h.wear⟩
  · have hmode : s.jsq.startMode ≠ some .edgeStart := by simp [hlow]
    obtain ⟨v, hexpires, hjsq, htransmit, hmaterials, hconfig, hcount⟩ := h.expired he hmode
    rw [pierceAtOnce_zero hidle (by rw [State.settle_jsq, h.pierce hmode, hzero]), hexpires,
      afterPierce_low (u := v) (by rw [hjsq]; exact hlow), State.settle_jsq, State.settle_pump, State.settle_wear, State.setJsq_jsq,
      State.setJsq_pump, State.setJsq_wear, State.setPump_pump, State.setPump_wear, hjsq, htransmit,
      materialOf_congr hmaterials, hconfig]
    exact ⟨rfl, rfl, hcount⟩
  · have hmode : s.jsq.startMode ≠ some .edgeStart := by simp [hfull]
    obtain ⟨v, hexpires, hjsq, htransmit, -, -, hcount⟩ := h.expired he hmode
    rw [pierceAtOnce_zero hidle (by rw [State.settle_jsq, h.pierce hmode, hzero]), hexpires,
      afterPierce_other (u := v) (by rw [hjsq]; exact fun hlow => by rw [openedJsq, hfull] at hlow; simp at hlow),
      State.settle_jsq, State.settle_pump, State.settle_wear, State.setJsq_jsq, State.setJsq_pump, State.setJsq_wear, hjsq]
    exact ⟨rfl, htransmit, hcount⟩

end Sys2Proof.Proofs

/-! PROOFS. The end of an exchange: the record delivered, the report taken, and the override (R142, R146, R147). -/

namespace Sys2Proof.Proofs

open Sys2Proof Sys2Proof.Machine

variable {s t u v : State} {e : Entry} {rest : List Entry} {x : Exchange} {frame : Vector Byte 28} {raw : Byte} {r : Report}

/-! ### The record delivered -/

/-- An accepted frame without a report and with the override as it was: the record is delivered and the link is OK. -/
theorem exec_frame_silent (hx : s.motion.exchange = some x) (hdecode : decodeFrame frame = some (raw, .nothing))
    (hv : delivered x (endExchange s) = v) (hoverride : clampOverride raw.toNat = v.motion.override) (hpierce : Unpierced s v) :
    exec (.motionFrameComplete frame) s = .next (v.setMotion { v.motion with link := .ok }).settle := by
  have hlinked : Unpierced v (v.setMotion { v.motion with link := .ok }) := .of_same rfl
  rw [exec_motionFrameComplete hx, completeExchange_eq, hv, judgeFrame_accepted hdecode, acceptFrame,
    takeOverride_same (s := v.setMotion { v.motion with link := .ok }) hoverride]
  exact congrArg Host.Outcome.next (hpierce.trans hlinked).settle.pierceAtOnce

theorem delivered_cancelled (h : x.cancelled = true) (s : State) : delivered x s = s := if_pos h

theorem delivered_live (h : x.cancelled = false) (s : State) : delivered x s = deliver x.placed s :=
  if_neg (by simp [h])

/-- A record that acts on nothing is delivered. -/
theorem delivered_idle {c : Control} (hbody : x.placed.body = .control c)
    (hc : c ∈ [.holdAt, .halt, .abort] ∨ ∃ n, c = .contourBegin n) (s : State) : delivered x s = s := by
  have hdeliver : deliver x.placed s = s := by
    unfold deliver
    rw [hbody]
    cases c <;> simp at hc ⊢
  rw [delivered, hdeliver, ite_self]

/-- With an empty queue a finished contour leaves JSQ IDLE behind the idle pressure (R127, R128). -/
theorem deliver_contourEnd {n : Nat} (hbody : x.placed.body = .control (.contourEnd n)) (hphase : s.jsq.phase = .finishing)
    (hq : s.queue = []) : deliver x.placed s = s.sequencerIdle.issueIdlePressure.raise .queueIdle := by
  have hcan : s.sequencerIdle.canActivate = false := canActivate_eq_false (s := s.sequencerIdle) fun e he => by
    rw [State.sequencerIdle_queue, hq] at he
    cases he
  have hdeliver : deliver x.placed s = deliverContourEnd s := by
    rw [deliver, hbody]
  rw [hdeliver, deliverContourEnd, if_pos hphase, State.runOn, if_neg (by simp [hcan])]

/-! ### The override -/

/-- A changed override without a request (R147). -/
theorem takeOverride_plain {o : Nat} (ho : o = clampOverride raw.toNat)
    (h : ¬ (o ≠ s.motion.override ∧ s.jsq.phase.takesOverride ∧ s.planner.stopTaken = false)) :
    takeOverride raw s = s.setMotion { s.motion with override := o } := by
  subst ho
  exact if_neg h

theorem takeOverride_offers {o : Nat} (ho : o = clampOverride raw.toNat)
    (h : o ≠ s.motion.override ∧ s.jsq.phase.takesOverride ∧ s.planner.stopTaken = false) :
    takeOverride raw s = (s.setMotion { s.motion with override := o }).takeRequest .remainder := by
  subst ho
  exact if_pos h

theorem takesOverride_iff (p : Phase) : p.takesOverride = true
    ↔ p ∈ [.positioning, .piercePressure, .piercing, .cutPressure, .cutting, .bridgeStop, .bridgeTravel] := by
  cases p <;> simp [Phase.takesOverride]

theorem unpierced_takeRequest (kind : JobKind) (u : State) : Unpierced u (u.takeRequest kind) := by
  obtain ⟨p, q, htables⟩ := takeRequest_tables kind u
  rw [htables]
  exact .of_same rfl

/-- An offered REMAINDER merges with the request outstanding, and leaves a STOP as it is (R96). -/
theorem takeRequest_remainder {job : Job} (hact : u.activeEntry = some e) (hjob : u.planner.job = some job)
    (hk : job.kind ≠ .contour) :
    u.takeRequest .remainder = if job.kind = .stop then u else u.startActiveJob job.kind e := by
  unfold State.takeRequest
  rw [hact]
  dsimp only
  rw [if_neg JobKind.noConfusion, hjob]
  dsimp only
  rw [if_neg hk]
  cases hkind : job.kind <;> simp_all [mergeRequest]

/-! ### The operator's requests -/

/-- A resume as a report asks for it. -/
def resumed (u : State) : Option State := if resumeFault u = none then some (resumeHead u) else none

theorem resumed_setPort (u : State) (p : JobPort) : resumed (u.setPort p) = (resumed u).map (·.setPort p) := by
  have hfault : resumeFault (u.setPort p) = resumeFault u := rfl
  rw [resumed, resumed, hfault, resumeHead_setPort]
  split <;> rfl

theorem unpierced_plannedStop (ending : Ending) (u : State) : Unpierced u (plannedStop ending u) := by
  have hset : Unpierced (u.takeRequest .stop) (plannedStop ending u) := .of_same rfl
  exact (unpierced_takeRequest .stop u).trans hset

theorem unpierced_immediateRest (u : State) (cause : Cause) (ending : Ending) : Unpierced u (u.immediateRest cause ending) := by
  unfold State.immediateRest
  split
  · exact .of_same rfl
  · cases ending with
    | held => exact unpierced_immediateHold u cause
    | skipped => exact ((unpierced_restAtOnce u).trans .of_same).trans (unpierced_skipHead _)

theorem unpierced_holdHead (h : holdHead u = some v) : Unpierced u v := by
  revert h
  unfold holdHead
  split
  · exact fun h => by cases h
  · split_ifs
    · exact fun h => Option.some.inj h ▸ unpierced_plannedStop .held u
    · exact fun h => Option.some.inj h ▸ unpierced_immediateRest u .operator .held
    · exact fun h => Option.some.inj h ▸ .of_same rfl
    · exact fun h => by cases h

theorem unpierced_skipRequest (h : skipRequest u = some v) : Unpierced u v := by
  revert h
  unfold skipRequest
  split
  · exact fun h => by cases h
  · split
    · split_ifs
      · exact fun h => Option.some.inj h ▸ unpierced_plannedStop .skipped u
      · exact fun h => Option.some.inj h ▸ unpierced_immediateRest u .operator .skipped
      · exact fun h => Option.some.inj h ▸ .of_same rfl
      · exact fun h => by cases h
    · exact fun h => Option.some.inj h ▸ unpierced_skipHead u
    · exact fun h => Option.some.inj h ▸ unpierced_skipHead u
    · exact fun h => by cases h

theorem unpierced_resumed (h : resumed u = some v) : Unpierced u v := by
  unfold resumed at h
  split at h
  · obtain rfl := Option.some.inj h
    unfold resumeHead
    split
    · exact .of_same rfl
    · next e rest _ =>
      have hstart : Unpierced u (((u.modifyHead Entry.resume).setPlanner
          { (u.modifyHead Entry.resume).planner with stopTaken := false }).startStream (e.resumePoint.getD ⟨0, 1⟩)) := .of_same
      exact ((hstart.trans (unpierced_takeRequest .resume _)).trans (unpierced_startSequence ..)).trans
        (unpierced_pumpSilenceAtStart _)
  · cases h

/-- A request on the motion port leaves the part as the command on the job port does (R146). -/
theorem requested_as_command {c : Instr} {op : State → Option State}
    (hport : ∀ u p, op (u.setPort p) = (op u).map (·.setPort p))
    (hdone : ∀ {w v}, portOpen w → op (atWork w) = some v → exec c w = .next (v.settle.respond ⟨.ok, .empty⟩))
    (hrefused : ∀ {w}, portOpen w → op (atWork w) = none → ∃ reply, exec c w = .next (w.respond reply)) (hquiet : Quiet u) :
    ∃ v, exec c (u.setPort { u.port with condition := .waitHeader }) = .next v ∧ ((op u).getD u).settle = v.setPort u.port := by
  have hopen : portOpen (u.setPort { u.port with condition := .waitHeader }) := .inl rfl
  have hwork := hport u { u.port with condition := .executing }
  cases hop : op u with
  | none =>
    rw [hop] at hwork
    obtain ⟨reply, hreply⟩ := hrefused hopen hwork
    exact ⟨_, hreply, State.settle_of_quiet hquiet⟩
  | some w =>
    have hkept := hport u u.port
    rw [hop] at hwork hkept
    have hself : u.setPort u.port = u := rfl
    rw [hself, hop] at hkept
    refine ⟨_, hdone hopen hwork, ?_⟩
    have hw : w = w.setPort u.port := Option.some.inj hkept
    exact congrArg State.settle hw

/-! ### A report without a change of the override -/

/-- What an accepted frame beside an EMPTY record leaves, the override as it was. -/
def reported (r : Report) (s : State) : State := (takeReport r (heard s)).settle.pierceAtOnce s

theorem reported_same (hquiet : Quiet s) (h : takeReport r (heard s) = heard s) : reported r s = heard s := by
  have hsettled : (heard s).settle = heard s := State.settle_of_quiet hquiet
  rw [reported, h, hsettled, State.pierceAtOnce_of_same (s := heard s) (old := s) rfl]

theorem reported_unpierced (h : Unpierced (heard s) (takeReport r (heard s))) :
    reported r s = (takeReport r (heard s)).settle := by
  have hheard : Unpierced s (heard s) := .of_same rfl
  exact (hheard.trans h).settle.pierceAtOnce

theorem unmoved_heard (s : State) : Unmoved s (heard s) :=
  ⟨rfl, rfl, rfl, rfl, rfl, rfl, rfl, rfl, rfl, rfl, rfl, .of_attention rfl⟩

/-- With no ACTIVE entry these reports act on nothing. -/
theorem reported_inactive (hquiet : Quiet s) (hnone : s.activeEntry = none)
    (hr : (∃ n, r = .arrived n ∨ r = .stopped n ∨ r = .starvedStop n) ∨ r = .motionFault) : reported r s = heard s := by
  have hnone' : (heard s).activeEntry = none := hnone
  refine reported_same hquiet ?_
  rcases hr with ⟨n, rfl | rfl | rfl⟩ | rfl
  · rw [takeReport, State.onArrived, hnone']
  · rw [takeReport, reportStopped, hnone']
  · rw [takeReport, reportStarved, hnone']
    rfl
  · exact State.takeFault_of_inactive hnone' .motionFault

/-- ARRIVED (R117). -/
theorem reported_arrived_other {n : Serial} (hquiet : Quiet s) (h : s.jsq.phase ≠ .positioning ∨ s.jsq.traverseSerial ≠ some n) :
    reported (.arrived n) s = heard s := by
  refine reported_same hquiet ?_
  rw [takeReport]
  unfold State.onArrived
  split
  · rfl
  · exact if_neg fun hboth => h.elim (fun hp => hp hboth.1) fun hs => hs hboth.2

theorem onArrived_eq {n : Serial} (hact : u.activeEntry = some e) (hphase : u.jsq.phase = .positioning)
    (hserial : u.jsq.traverseSerial = some n) :
    u.onArrived n = if u.jsq.wait = none then (u.setJsq { u.jsq with arrived := some true }).openJet e
      else u.setJsq { u.jsq with arrived := some true } := by
  rw [State.onArrived, hact]
  dsimp only
  rw [if_pos ⟨hphase, hserial⟩, State.positioningEnd, State.setJsq_jsq]
  simp

/-- STOPPED in ABORTING (R161). -/
theorem reported_stopped {n : Serial} (hsafe : JetSafe s) (hq : s.queue = e :: rest) (he : e.state = .active)
    (hphase : s.jsq.phase = .aborting) {cause : Cause} {ending : Ending} (hcause : s.jsq.stopCause = some cause)
    (hending : s.jsq.stopEnding = some ending) :
    RestsAtDone s (reported (.stopped n) s) (confirmedEntry (s.segments e) s.stream.window n e) rest cause ending
      s.stream.due := by
  have hact : (heard s).activeEntry = some e := State.activeEntry_eq_some.2 ⟨rest, hq, he⟩
  have htake : takeReport (.stopped n) (heard s) = ((heard s).confirm n e).restAtDone cause ending := by
    rw [takeReport, reportStopped, hact]
    have haborting : (heard s).jsq.phase = .aborting := hphase
    dsimp only
    rw [if_pos haborting, endAbort_eq (cause := cause) (ending := ending) (by rw [confirm_jsq]; exact hcause)
      (by rw [confirm_jsq]; exact hending)]
  have hconfirmed : Unpierced (heard s) ((heard s).confirm n e) := .of_same (by rw [confirm_jsq])
  have hstopped := ((unmoved_heard s).stopped hsafe.1 hsafe.2.2.1 hq (closed_of_phase hsafe (by rw [hphase]; rfl))).confirm
    (x := e) rfl n rfl
  rw [reported_unpierced (r := .stopped n) (by rw [htake]; exact hconfirmed.trans (unpierced_restAtDone ..)), htake]
  exact restsAtDone_alike (restsAtDone_of_stopped hstopped ((confirmedEntry_state ..).trans he) cause ending)
    (Alike.refl _).settle

/-- The fault of a report: STARVED_STOP, MOTION_FAULT, LINK_ERROR (R158 to R161). -/
theorem reported_raised {src : Source} {f : FaultEvent} (htake : takeReport r (heard s) = ((heard s).raise src).takeFault f)
    (hsafe : JetSafe s) : TakesFault s f (reported r s) ∧ pendingWhereRouted src s (reported r s) := by
  have hraised : Unpierced (heard s) ((heard s).raise src) := .of_same rfl
  have hfault := takesFault (u := (heard s).raise src) (unmoved_of_motion s _ _) (fun _ => rfl) hsafe f
  rw [reported_unpierced (by rw [htake]; exact hraised.trans (unpierced_takeFault _ f)), htake]
  exact ⟨takesFault_alike hfault (Alike.refl _).settle, pending_takeFault (u := heard s) (.of_attention rfl) src f⟩

theorem reported_motionFault (hsafe : JetSafe s) : TakesFault s .motionFault (reported .motionFault s) := by
  have htake : takeReport .motionFault (heard s) = (heard s).takeFault .motionFault := rfl
  rw [reported_unpierced (by rw [htake]; exact unpierced_takeFault _ _), htake]
  exact takesFault_alike (takesFault (unmoved_heard s) (fun _ => rfl) hsafe _) (Alike.refl _).settle

theorem reported_hold (hquiet : Quiet s) : ∃ v,
    exec .hold ((heard s).setPort { s.port with condition := .waitHeader }) = .next v ∧ reported .holdReq s = v.setPort s.port := by
  have hunpierced : Unpierced (heard s) ((holdHead (heard s)).getD (heard s)) := by
    cases h : holdHead (heard s) with
    | none => exact .of_same rfl
    | some v => exact unpierced_holdHead h
  rw [reported_unpierced (r := .holdReq) hunpierced]
  exact requested_as_command (u := heard s) holdHead_setPort (fun hopen h => exec_hold hopen h)
    (fun hopen h => ⟨_, exec_hold_refused hopen h⟩) hquiet

theorem reported_skip (hquiet : Quiet s) : ∃ v,
    exec .skip ((heard s).setPort { s.port with condition := .waitHeader }) = .next v ∧ reported .skipReq s = v.setPort s.port := by
  have hunpierced : Unpierced (heard s) ((skipRequest (heard s)).getD (heard s)) := by
    cases h : skipRequest (heard s) with
    | none => exact .of_same rfl
    | some v => exact unpierced_skipRequest h
  rw [reported_unpierced (r := .skipReq) hunpierced]
  exact requested_as_command (u := heard s) skipRequest_setPort (fun hopen h => exec_skip hopen h)
    (fun hopen h => ⟨_, exec_skip_refused hopen h⟩) hquiet

theorem reported_resume (hquiet : Quiet s) : ∃ v,
    exec .resume ((heard s).setPort { s.port with condition := .waitHeader }) = .next v
      ∧ reported .resumeReq s = v.setPort s.port := by
  have htake : takeReport .resumeReq (heard s) = (resumed (heard s)).getD (heard s) := by
    rw [takeReport, resumed, apply_ite (Option.getD · (heard s))]
    rfl
  have hunpierced : Unpierced (heard s) ((resumed (heard s)).getD (heard s)) := by
    cases h : resumed (heard s) with
    | none => exact .of_same rfl
    | some v => exact unpierced_resumed h
  rw [reported_unpierced (r := .resumeReq) (by rw [htake]; exact hunpierced), htake]
  refine requested_as_command (u := heard s) resumed_setPort (fun {w v} hopen h => ?_) (fun {w} hopen h => ?_) hquiet
  · unfold resumed at h
    split at h
    · next hfault =>
      obtain rfl := Option.some.inj h
      exact exec_resume hopen hfault
    · cases h
  · unfold resumed at h
    split at h
    · cases h
    · next hfault =>
      obtain ⟨status, hstatus⟩ := Option.ne_none_iff_exists'.1 hfault
      exact ⟨_, exec_resume_refused hopen hstatus⟩

theorem reported_ack (hquiet : Quiet s) (mask : Mask) : reported (.eventAck mask) s
    = (heard s).setAttention ⟨s.attention.jatn, { s.attention.matn with pending := s.attention.matn.pending &&& ~~~mask }⟩ := by
  have htake : takeReport (.eventAck mask) (heard s)
      = (heard s).setAttention ⟨s.attention.jatn, s.attention.matn.acknowledge mask⟩ := rfl
  have hquiet' : Quiet ((heard s).setAttention ⟨s.attention.jatn, s.attention.matn.acknowledge mask⟩) := hquiet
  rw [reported_unpierced (r := .eventAck mask) (.of_same rfl), htake, State.settle_of_quiet hquiet']
  rfl

/-! ### A changed override -/

/-- The entries of an abandoned contour plan: the entry that was PLANNING waits again, and no other is touched. -/
theorem abandoned_getElem? (hsafe : JetSafe s) {job : Job} (hjob : s.planner.job = some job) (hk : job.kind = .contour)
    {k : Nat} {y y' : Entry} (hy : s.queue[k]? = some y)
    (hy' : (s.queue.map fun x => if x.contourId = job.contour then { x with state := .waitingPlan } else x)[k]? = some y') :
    y' = if y.state = .planning then { y with state := .waitingPlan } else y := by
  obtain ⟨hlaw, ⟨-, -, hplanned, hplanning⟩, -, -⟩ := hsafe
  have hmem := List.mem_of_getElem? hy
  have hiff : y.contourId = job.contour ↔ y.state = .planning := by
    refine ⟨fun hid => ?_, fun hstate => ?_⟩
    · obtain ⟨x, hx, hxid, hxstate⟩ := hplanned job hjob hk
      rwa [List.inj_on_of_nodup_map hlaw.2.1 hmem hx (hid.trans hxid.symm)]
    · obtain ⟨job', hjob', -, hid⟩ := hplanning y hmem hstate
      rw [hjob] at hjob'
      exact (Option.some.inj hjob' ▸ hid).symm
  rw [List.getElem?_map, hy] at hy'
  rw [← Option.some.inj hy']
  simp only [hiff]

/-- With no plan in flight no entry is PLANNING. -/
theorem not_planning (hsafe : JetSafe s) (hnone : s.planner.job = none) {y : Entry} (hy : y ∈ s.queue) : y.state ≠ .planning := by
  intro hstate
  obtain ⟨job, hjob, -⟩ := hsafe.2.1.2.2.2 y hy hstate
  rw [hnone] at hjob
  cases hjob

/-- A REMAINDER offered with no active request outstanding (R95, R98, R105). -/
theorem takeRequest_remainder_free (hsafe : JetSafe s) (hqueue : u.queue = s.queue) (hplanner : u.planner = s.planner)
    (hact : u.activeEntry = some e) (hfree : noRequest u) : ∃ q,
      u.takeRequest .remainder = (u.setPlanner { u.planner with
        job := some ⟨.remainder, e.contourId, u.sampleInputs e, u.fixedPoint .remainder, none⟩ }).setQueue q
      ∧ ∀ (k : Nat) y y', s.queue[k]? = some y → q[k]? = some y' →
          y' = if y.state = .planning then { y with state := .waitingPlan } else y := by
  unfold State.takeRequest
  rw [hact]
  dsimp only
  rw [if_neg JobKind.noConfusion]
  split
  · next hnone =>
    rw [startActiveJob_eq JobKind.noConfusion]
    refine ⟨u.queue, rfl, fun k y y' hy hy' => ?_⟩
    rw [hqueue, hy] at hy'
    rw [if_neg (not_planning hsafe (hplanner ▸ hnone) (List.mem_of_getElem? hy))]
    exact (Option.some.inj hy').symm
  · next job hjob =>
    rw [if_pos (hfree job hjob), startActiveJob_eq JobKind.noConfusion]
    refine ⟨_, rfl, fun k y y' hy hy' => ?_⟩
    rw [State.modifyEntry, State.setQueue_queue, hqueue] at hy'
    exact abandoned_getElem? hsafe (hplanner ▸ hjob) (hfree job hjob) hy hy'

/-- The part with the exchange ended, the link heard and the override `o`. -/
abbrev overridden (s : State) (o : Nat) : State := s.setMotion ⟨none, some s.config.motionLinkTimeout.toNat, .ok, o⟩

/-- What a REMAINDER leaves in the planner and the queue (R95, R96, R98). -/
structure Offered (s : State) (e : Entry) (o : Nat) (job : Job) (q : List Entry) : Prop where
  contour : job.contour = e.contourId
  level : job.inputs.level = s.wear.level
  override : job.inputs.override = if e.quality = 1 then o else min o 100
  merges : ∀ old, s.planner.job = some old → old.kind ≠ .contour → job.kind = old.kind ∧ q = s.queue
  starts : (∀ old, s.planner.job = some old → old.kind = .contour) →
    job.kind = .remainder ∧ job.fixed = s.stream.cursor.map (fun c => ⟨c, s.stream.lastExit.getD 0⟩)
      ∧ ∀ (k : Nat) y y', s.queue[k]? = some y → q[k]? = some y' →
        y' = if y.state = .planning then { y with state := .waitingPlan } else y

theorem offered_remainder (hsafe : JetSafe s) (hact : s.activeEntry = some e) (hstop : s.planner.stopTaken = false)
    (hnot : ∀ job, s.planner.job = some job → job.kind ≠ .stop) (o : Nat) : ∃ job q, Offered s e o job q
      ∧ (overridden s o).takeRequest .remainder = ((overridden s o).setPlanner ⟨some job, false⟩).setQueue q := by
  have hact' : (overridden s o).activeEntry = some e := hact
  by_cases hfree : noRequest s
  · obtain ⟨q, heq, hq⟩ := takeRequest_remainder_free (u := overridden s o) hsafe rfl rfl hact' hfree
    refine ⟨⟨.remainder, e.contourId, (overridden s o).sampleInputs e, (overridden s o).fixedPoint .remainder, none⟩, q,
      ⟨rfl, rfl, rfl, fun old hold hk => absurd (hfree old hold) hk, fun _ => ⟨rfl, rfl, hq⟩⟩, ?_⟩
    rw [heq]
    exact congrArg (fun b => ((overridden s o).setPlanner ⟨_, b⟩).setQueue q) hstop
  · obtain ⟨job, hjob, hk⟩ : ∃ job, s.planner.job = some job ∧ job.kind ≠ .contour := by
      simpa [noRequest] using hfree
    have hjob' : (overridden s o).planner.job = some job := hjob
    refine ⟨⟨job.kind, e.contourId, (overridden s o).sampleInputs e, (overridden s o).fixedPoint job.kind, none⟩, s.queue,
      ⟨rfl, rfl, rfl, fun old hold _ => ?_, fun hall => absurd (hall job hjob) hk⟩, ?_⟩
    · rw [hjob] at hold
      have hsame : job = old := Option.some.inj hold
      have hkind : job.kind = old.kind := congrArg Job.kind hsame
      exact ⟨hkind, rfl⟩
    · rw [takeRequest_remainder hact' hjob' hk, if_neg (hnot job hjob), startActiveJob_eq (hnot job hjob)]
      exact congrArg (fun b => (overridden s o).setPlanner ⟨_, b⟩) hstop

/-- A frame with a changed override and no report. -/
theorem override_settled (hquiet : Quiet s) (hv : takeOverride raw (heard s) = v) (hattention : v.attention = s.attention)
    (hpierce : v.jsq.pierceMs = s.jsq.pierceMs) :
    (takeReport .nothing (takeOverride raw (heard s))).settle.pierceAtOnce s = v := by
  have hsettled : v.settle = v := State.settle_of_quiet (by rw [Quiet, hattention]; exact hquiet)
  rw [hv, takeReport, hsettled, State.pierceAtOnce_of_same hpierce]

/-- A REMAINDER that is not offered, or not made because a STOP is outstanding, leaves only the override. -/
theorem takeOverride_not_offered {o : Nat} (ho : o = clampOverride raw.toNat)
    (h : ¬ (s.activeEntry ≠ none ∧ s.planner.stopTaken = false ∧ s.jsq.phase.takesOverride = true
      ∧ ∀ job, s.planner.job = some job → job.kind ≠ .stop)) :
    takeOverride raw (heard s) = overridden s o := by
  by_cases hoffers : o ≠ s.motion.override ∧ s.jsq.phase.takesOverride ∧ s.planner.stopTaken = false
  · rw [takeOverride_offers (s := heard s) ho hoffers]
    have hset : (heard s).setMotion { (heard s).motion with override := o } = overridden s o := rfl
    rw [hset]
    cases hact : s.activeEntry with
    | none =>
      have hact' : (overridden s o).activeEntry = none := hact
      rw [State.takeRequest, hact']
    | some e =>
      obtain ⟨job, hjob, hstop⟩ : ∃ job, s.planner.job = some job ∧ job.kind = .stop := by
        by_contra hnone
        exact h ⟨by simp [hact], hoffers.2.2, hoffers.2.1, fun job hjob hkind => hnone ⟨job, hjob, hkind⟩⟩
      have hact' : (overridden s o).activeEntry = some e := hact
      have hjob' : (overridden s o).planner.job = some job := hjob
      rw [takeRequest_remainder hact' hjob' (by simp [hstop]), if_pos hstop]
  · exact takeOverride_plain (s := heard s) ho hoffers

/-! ### The obligation -/

theorem reported_arrived {n : Serial} (hquiet : Quiet s) (he : s.activeEntry = some e) (hphase : s.jsq.phase = .positioning)
    (hserial : s.jsq.traverseSerial = some n) :
    (s.jsq.wait ≠ none → reported (.arrived n) s = (heard s).setJsq { s.jsq with arrived := some true })
    ∧ (s.jsq.wait = none → s.jsq.pierceMs = none →
      JetOpened s (reported (.arrived n) s) e ∧ (reported (.arrived n) s).queue = s.queue
        ∧ (reported (.arrived n) s).stream = s.stream ∧ (reported (.arrived n) s).motion = (heard s).motion
        ∧ (reported (.arrived n) s).planner = s.planner) := by
  have htake : takeReport (.arrived n) (heard s) = _ := onArrived_eq (u := heard s) he hphase hserial
  refine ⟨fun hwait => ?_, fun hwait hidle => ?_⟩
  · have htake' : takeReport (.arrived n) (heard s) = (heard s).setJsq { s.jsq with arrived := some true } :=
      htake.trans (if_neg hwait)
    have hquiet' : Quiet ((heard s).setJsq { s.jsq with arrived := some true }) := hquiet
    rw [reported_unpierced (r := .arrived n) (by rw [htake']; exact .of_same rfl), htake', State.settle_of_quiet hquiet']
  · have htake' : takeReport (.arrived n) (heard s) = ((heard s).setJsq { s.jsq with arrived := some true }).openJet e :=
      htake.trans (if_pos hwait)
    have hclosed : WaitClosed s ((heard s).setJsq { s.jsq with arrived := some true }) :=
      ⟨rfl, rfl, rfl, rfl, rfl, by rw [← hwait]; rfl⟩
    rw [reported, htake']
    exact ⟨(hclosed.openJet e).jetOpened he hidle, by simp, by simp, by simp, by simp⟩

/-- An accepted frame without a report and with the override as it was, where the delivery touches neither the motion port
nor the attention lines. -/
theorem exec_frame_quiet (hx : s.motion.exchange = some x) (hquiet : Quiet s) (hdecode : decodeFrame frame = some (raw, .nothing))
    (hoverride : clampOverride raw.toNat = s.motion.override) (hv : delivered x (endExchange s) = v)
    (hmotion : v.motion = (endExchange s).motion) (hattention : v.attention = s.attention)
    (hpierce : v.jsq.pierceMs = s.jsq.pierceMs) :
    exec (.motionFrameComplete frame) s = .next (v.setMotion (heard s).motion) := by
  have hsettled : (v.setMotion { v.motion with link := .ok }).settle = v.setMotion { v.motion with link := .ok } :=
    State.settle_of_quiet (by rw [Quiet, State.setMotion_attention, hattention]; exact hquiet)
  rw [exec_frame_silent hx hdecode hv (by rw [hmotion]; exact hoverride) (.of_same hpierce), hsettled, hmotion]
  rfl

/-- CONTOUR_END delivered in FINISHING with no further contour (R127, R128). -/
theorem exec_contourEnd {n : Nat} (hx : s.motion.exchange = some x) (hdecode : decodeFrame frame = some (raw, .nothing))
    (hoverride : clampOverride raw.toNat = s.motion.override) (hbody : x.placed.body = .control (.contourEnd n))
    (hlive : x.cancelled = false) (hphase : s.jsq.phase = .finishing) (hq : s.queue = []) :
    ∃ t, exec (.motionFrameComplete frame) s = .next t
      ∧ t.jsq = { s.jsq with
          phase := .idle, contour := none, startMode := none, traverseSerial := none, arrived := none, wait := none
          pierceMs := none, stopCause := none, stopEnding := none }
      ∧ t.pump.target = clampPressure s.config s.config.idlePressure.toNat ∧ pendingWhereRouted .queueIdle s t
      ∧ t = (((heard s).setJsq t.jsq).setPump t.pump).setAttention t.attention := by
  have hv := (delivered_live hlive (endExchange s)).trans (deliver_contourEnd (s := endExchange s) hbody hphase hq)
  have hgathers : Gathers s (endExchange s).sequencerIdle.issueIdlePressure := .of_attention rfl
  refine ⟨_, exec_frame_silent hx hdecode hv hoverride (.stopped rfl), rfl, rfl, hgathers.pending ?_, rfl⟩
  exact Gathers.settle (.of_attention rfl)

/-- The reports, and the override without a report, of a frame beside an EMPTY record. -/
theorem exec_frame_override {o : Nat} (ho : o = clampOverride raw.toNat) (hx : s.motion.exchange = some x)
    (hempty : ∃ mask, x.placed.body = .empty mask) (hquiet : Quiet s) (hsafe : JetSafe s)
    (hdecode : decodeFrame frame = some (raw, .nothing)) {offered : Prop}
    (hiff : offered ↔ s.activeEntry ≠ none ∧ s.planner.stopTaken = false
      ∧ s.jsq.phase ∈ [.positioning, .piercePressure, .piercing, .cutPressure, .cutting, .bridgeStop, .bridgeTravel]
      ∧ ∀ job, s.planner.job = some job → job.kind ≠ .stop) (hchanged : o ≠ s.motion.override) :
    (¬ offered → exec (.motionFrameComplete frame) s = .next (overridden s o))
      ∧ (offered → ∀ e, s.activeEntry = some e → ∃ job q, Offered s e o job q
        ∧ exec (.motionFrameComplete frame) s = .next (((overridden s o).setPlanner ⟨some job, false⟩).setQueue q)) := by
  rw [← takesOverride_iff] at hiff
  rw [exec_frame_accepted hx hempty hdecode]
  refine ⟨fun hnot => ?_, fun hoffered e he => ?_⟩
  · rw [override_settled hquiet (takeOverride_not_offered ho (hiff.not.1 hnot)) rfl rfl]
  · obtain ⟨-, hstop, hphase, hnostop⟩ := hiff.1 hoffered
    obtain ⟨job, q, hoffer, heq⟩ := offered_remainder hsafe he hstop hnostop o
    have htaken : takeOverride raw (heard s) = (overridden s o).takeRequest .remainder :=
      takeOverride_offers (s := heard s) ho ⟨hchanged, hphase, hstop⟩
    exact ⟨job, q, hoffer, by rw [override_settled hquiet (htaken.trans heq) rfl rfl]⟩

/-- Settles O52: the record by kind, the report by kind, and the override. -/
theorem frameCompleteDelivers : Obligations.FrameCompleteDelivers := by
  unfold Obligations.FrameCompleteDelivers
  refine ⟨fun s u x frame raw serial hx hquiet hdecode hraw hu => ?_,
    fun s u x frame raw r o hx hempty hquiet hsafe hdecode ho hu => ?_⟩
  · subst hu
    have hplain := fun v => exec_frame_quiet (v := v) hx hquiet hdecode hraw
    refine ⟨fun hcancelled => ?_, fun mask hbody => ?_, fun c hbody hc => ?_, fun seg hplaced hlive => ?_,
      fun a b v hplaced hlive => ?_, fun n hbody hlive hphase hq => ?_⟩
    · exact hplain (endExchange s) (delivered_cancelled hcancelled _) rfl rfl rfl
    · exact hplain (endExchange s) (delivered_empty ⟨mask, hbody⟩ _) rfl rfl rfl
    · exact hplain (endExchange s) (delivered_idle hbody hc _) rfl rfl rfl
    · have hv : delivered x (endExchange s) = deliverSeg serial seg (endExchange s) := by
        rw [delivered_live hlive, hplaced]
        rfl
      exact hplain _ hv rfl rfl rfl
    · have hv : delivered x (endExchange s) = deliverTraverse serial (endExchange s) := by
        rw [delivered_live hlive, hplaced]
        rfl
      by_cases hphase : s.jsq.phase = .positioning
      · rw [if_pos hphase]
        exact hplain _ (hv.trans (if_pos hphase)) rfl rfl rfl
      · rw [if_neg hphase]
        exact hplain (endExchange s) (hv.trans (if_neg hphase)) rfl rfl rfl
    · exact exec_contourEnd hx hdecode hraw hbody hlive hphase hq
  · subst hu
    refine ⟨_, exec_frame_accepted hx hempty hdecode, fun hsame => ?_, fun hchanged hr offered hiff => ?_⟩
    · subst hsame
      rw [takeOverride_same (s := heard s) ho.symm]
      refine ⟨fun hnone hr => reported_inactive hquiet hnone hr, fun n hr => ?_, fun n hr => ?_, fun n hr hact => ?_,
        fun hr => ?_, fun hr => ?_, fun mask hr => ?_, fun c hc => ?_⟩
      · subst hr
        exact ⟨reported_arrived_other hquiet, fun e he hphase hserial => reported_arrived hquiet he hphase hserial⟩
      · subst hr
        refine ⟨fun hphase => reported_same hquiet ?_, fun e rest cause ending hq he hphase hcause hending =>
          reported_stopped hsafe hq he hphase hcause hending⟩
        rw [takeReport, reportStopped]
        split
        · exact if_neg hphase
        · rfl
      · subst hr
        exact reported_raised (if_pos (Option.isSome_iff_ne_none.2 hact)) hsafe
      · subst hr
        exact reported_motionFault hsafe
      · subst hr
        exact reported_raised rfl hsafe
      · subst hr
        exact reported_ack hquiet mask
      · simp only [List.mem_cons, Prod.mk.injEq, List.not_mem_nil, or_false] at hc
        rcases hc with ⟨rfl, rfl⟩ | ⟨rfl, rfl⟩ | ⟨rfl, rfl⟩
        · exact reported_hold hquiet
        · exact reported_resume hquiet
        · exact reported_skip hquiet
    · subst hr
      obtain ⟨hplain, hoffers⟩ := exec_frame_override ho hx hempty hquiet hsafe hdecode hiff hchanged
      rw [exec_frame_accepted hx hempty hdecode] at hplain hoffers
      refine ⟨fun hnot => Host.Outcome.next.inj (hplain hnot), fun hoffered e he => ?_⟩
      obtain ⟨job, q, hoffer, heq⟩ := hoffers hoffered e he
      rw [Host.Outcome.next.inj heq]
      exact ⟨job, rfl, hoffer.contour, hoffer.level, hoffer.override, hoffer.merges, hoffer.starts, rfl⟩

end Sys2Proof.Proofs

/-! PROOFS. The reports of the pump: the bytes of a message, the judgements of an accepted STATUS, and its silence (R168 to R173). -/

namespace Sys2Proof.Proofs

open Sys2Proof Sys2Proof.Machine

variable {s t u v : State} {e : Entry} {rest : List Entry} {r : PumpReport} {f : FaultEvent}

/-! ### A fault of the pump -/

/-- The faults that end cutting in an abort (R159). -/
def pumpClass (f : FaultEvent) : Prop := f = .pumpFault ∨ f = .pressureSag ∨ f = .pressureTimeout ∨ f = .pumpLinkLost

/-- Of the pump link only the transmit list may have changed. -/
def OnlySends (u v : State) : Prop := v.pump = { u.pump with transmit := v.pump.transmit }

theorem onlySends_immediateHold (u : State) (cause : Cause) : OnlySends u (u.immediateHold cause) := by
  unfold State.immediateHold
  split
  · rfl
  · rw [OnlySends, State.becomeHeld_pump]
    unfold State.restAtOnce
    dsimp only
    split <;> rfl

theorem onlySends_startAbort (u : State) (cause : Cause) (ending : Ending) : OnlySends u (u.startAbort cause ending) := by
  rw [OnlySends, State.startAbort, State.dropRequest_pump]
  rfl

theorem faultWhileCutting_pumpClass (hf : pumpClass f) (u : State) (ending : Ending) (e : Entry) :
    u.faultWhileCutting f ending e = u.startAbort f.cause ending := by
  rcases hf with rfl | rfl | rfl | rfl <;> rfl

theorem faultWhileAborting_pumpClass (hf : pumpClass f) (u : State) (e : Entry) :
    u.faultWhileAborting f e = u.modifyHead Entry.seeLaterFault := by
  rcases hf with rfl | rfl | rfl | rfl <;> rfl

theorem immediateHold_rested (hact : u.activeEntry = some e) (cause : Cause) :
    (u.immediateHold cause).jsq.wait = none ∧ (u.immediateHold cause).jsq.phase = .idle := by
  have hact' : u.restAtOnce.activeEntry = some e := (activeEntry_congr (by simp)).trans hact
  rw [State.immediateHold, hact]
  dsimp only
  rw [State.becomeHeld, hact']
  dsimp only
  rw [State.raise_jsq, State.dropRequest_jsq]
  exact ⟨rfl, rfl⟩

theorem startAbort_jsq (u : State) (cause : Cause) (ending : Ending) :
    (u.startAbort cause ending).jsq.wait = none ∧ (u.startAbort cause ending).jsq.phase = .aborting := by
  rw [State.startAbort, State.dropRequest_jsq]
  exact ⟨rfl, rfl⟩

theorem onlySends_takeFault (hf : pumpClass f) (u : State) : OnlySends u (u.takeFault f) := by
  unfold State.takeFault
  split
  · rfl
  · next e _ =>
    split
    case h_7 =>
      rw [faultWhileCutting_pumpClass hf]
      exact onlySends_startAbort u _ _
    case h_8 =>
      rw [faultWhileCutting_pumpClass hf]
      exact onlySends_startAbort ((u.setJsq { u.jsq with stopCause := some f.cause }).modifyHead Entry.seeLaterFault) _ _
    case h_9 =>
      rw [faultWhileAborting_pumpClass hf, OnlySends, State.modifyHead_pump]
    case h_10 => rfl
    case h_11 => rfl
    all_goals exact onlySends_immediateHold u _

/-- Behind a fault of the pump the ACTIVE head waits for no pressure and is not being cut. -/
theorem takeFault_rested (hf : pumpClass f) (hact : u.activeEntry = some e) (hphase : u.jsq.phase ≠ .idle ∧ u.jsq.phase ≠ .finishing)
    (haborting : u.jsq.phase = .aborting → u.jsq.wait = none) :
    (u.takeFault f).jsq.wait = none ∧ (u.takeFault f).jsq.phase ≠ .cutting := by
  have hheld := immediateHold_rested hact f.cause
  have hrested : (u.immediateHold f.cause).jsq.wait = none ∧ (u.immediateHold f.cause).jsq.phase ≠ .cutting :=
    ⟨hheld.1, by rw [hheld.2]; exact Phase.noConfusion⟩
  have habort (w : State) (ending : Ending) :
      (w.startAbort f.cause ending).jsq.wait = none ∧ (w.startAbort f.cause ending).jsq.phase ≠ .cutting := by
    obtain ⟨hwait, hp⟩ := startAbort_jsq w f.cause ending
    exact ⟨hwait, by rw [hp]; exact Phase.noConfusion⟩
  unfold State.takeFault
  rw [hact]
  dsimp only
  split
  case h_7 => exact faultWhileCutting_pumpClass hf u .held e ▸ habort u .held
  case h_8 => rw [faultWhileCutting_pumpClass hf]; exact habort _ _
  case h_9 _ hp =>
    rw [faultWhileAborting_pumpClass hf, State.modifyHead_jsq]
    exact ⟨haborting hp, by rw [hp]; exact Phase.noConfusion⟩
  case h_10 _ hp => exact absurd hp hphase.1
  case h_11 _ hp => exact absurd hp hphase.2
  all_goals exact hrested

/-! ### The judgements one by one -/

/-- The pump heard again, the message taken from the assembly (R173). -/
abbrev pumpHeardIn (s : State) : State := s.setPump
  { s.pump with link := .ok, timer := some s.config.pumpReportTimeout.toNat, assembly := none }

theorem takeMessage_accepted {bytes : List Byte} (h : decodeStatus bytes = some r) (s : State) :
    takeMessage bytes s = (holdReport r (judgeFlow r (judgeSag r (judgeReady r (judgeFaultCode r (pumpHeardIn s)))))).settle.pierceAtOnce s := by
  rw [takeMessage]
  dsimp only
  rw [h]
  rfl

theorem judgeFlow_eq (r : PumpReport) (u : State) : judgeFlow r u = u.setAttention (judgeFlow r u).attention := by
  unfold judgeFlow
  split <;> rfl

theorem onPressureReady_of_no_wait (h : u.jsq.wait = none) : u.onPressureReady = u := by
  rw [State.onPressureReady, h]

/-- Readiness with no wait open (R169). -/
theorem judgeReady_of_no_wait (h : u.jsq.wait = none) (r : PumpReport) : judgeReady r u
    = u.setPump { u.pump with ready := u.pump.ready || withinBand u.config.readyBand.toNat u.pump.target r.pressure } := by
  unfold judgeReady
  split
  · next hready =>
    rw [onPressureReady_of_no_wait (by rw [State.setPump_jsq, h]), hready.2, Bool.or_true]
  · next hnot =>
    have hsame : u.pump.ready = (u.pump.ready || withinBand u.config.readyBand.toNat u.pump.target r.pressure) := by
      cases hready : u.pump.ready with
      | true => rfl
      | false => simpa [hready] using hnot
    rw [← hsame]
    rfl

theorem judgeSag_of_not_cutting (h : u.jsq.phase ≠ .cutting) (r : PumpReport) : judgeSag r u = u.setPump { u.pump with sag := 0 } := by
  have hsag : sagging r u = false := by simp [sagging, h]
  rw [judgeSag, hsag, if_neg Bool.false_ne_true]

/-- A first sagging report, and one that does not sag, only count (R171). -/
theorem judgeSag_of_zero (h : u.pump.sag = 0) (r : PumpReport) : ∃ n, judgeSag r u = u.setPump { u.pump with sag := n } := by
  unfold judgeSag
  rw [h]
  split
  · exact ⟨1, rfl⟩
  · exact ⟨0, rfl⟩

/-- The flow judged and the report held, at the end of an accepted STATUS (R172). -/
def concluded (r : PumpReport) (u : State) : State := holdReport r (judgeFlow r u)

theorem concluded_eq (r : PumpReport) (u : State) :
    ∃ a, concluded r u = (u.setAttention a).setPump { u.pump with report := some r } := by
  refine ⟨(judgeFlow r u).attention, ?_⟩
  rw [concluded, judgeFlow_eq r u]
  rfl

theorem alike_concluded (r : PumpReport) (u : State) : Alike u (concluded r u).settle := by
  have hflow : Alike u (judgeFlow r u) := by
    unfold judgeFlow
    split
    · exact (Alike.refl u).raise _
    · exact .refl u
  exact hflow.setPump.settle

theorem exec_pumpStatus {message : Vector Byte 6} (h : decodeStatus message.toList = some r) :
    exec (.pumpStatus message) s
      = .next ((concluded r (judgeSag r (judgeReady r (judgeFaultCode r (pumpHeardIn s))))).settle.pierceAtOnce s) :=
  congrArg Host.Outcome.next (takeMessage_accepted h s)

theorem pierceAtOnce_report (u old : State) : (u.pierceAtOnce old).pump.report = u.pump.report := by
  rcases State.pierceAtOnce_cases u old with h | ⟨-, -, h⟩
  · rw [h]
  · rw [h]
    rcases State.pierceExpires_cases u with h' | ⟨e, -, -, -, h'⟩
    · rw [h']
    · generalize hv : (u.setJsq { u.jsq with pierceMs := none }).countWear Counter.pierce = v at h'
      have hpump : v.pump = u.pump := by rw [← hv, State.countWear_pump, State.setJsq_pump]
      rw [h', State.settle_pump, ← hpump]
      by_cases hlow : v.jsq.startMode = some .lowStationary
      · rw [afterPierce_low hlow]
        rfl
      · rw [afterPierce_other hlow]
        rfl

/-! ### A fault code -/

theorem judgeFaultCode_zero (h : r.code = 0) (u : State) : judgeFaultCode r u = u := if_pos h

/-- A fault code is reported to the operator where it is new, and handed on (R170). -/
theorem judgeFaultCode_fault (h : r.code ≠ 0) (u : State) : ∃ w, judgeFaultCode r u = w.takeFault .pumpFault
    ∧ (w = u ∧ (∃ old, u.pump.report = some old ∧ old.code = r.code) ∨ w = u.raise .pumpFault) := by
  have hfault : judgeFaultCode r u
      = (if u.pump.report.any (fun old => old.code == r.code) then u else u.raise .pumpFault).takeFault .pumpFault := if_neg h
  refine ⟨_, hfault, ?_⟩
  split
  · next hknown => exact .inl ⟨rfl, by simpa [Option.any_eq_true] using hknown⟩
  · exact .inr rfl

theorem unmoved_pumpHeardIn (s : State) : Unmoved s (pumpHeardIn s) :=
  ⟨rfl, rfl, rfl, rfl, rfl, rfl, rfl, rfl, rfl, rfl, rfl, .of_attention rfl⟩

theorem Unmoved.raise (h : Unmoved s u) (src : Source) : Unmoved s (u.raise src) :=
  ⟨h.queue, h.store, h.freePages, h.finished, h.config, h.materials, h.engine, h.planner, h.jsq, h.stream, h.transmit,
    h.gathers.raise src⟩

theorem gathers_concluded (h : Gathers s u) (r : PumpReport) : Gathers s ((concluded r u).settle.pierceAtOnce t) := by
  have hs := gathers_steady s
  exact hs.pierceAtOnce _ (hs.settle (hs.setPump _ (hs.judgeFlow r h)))

theorem gathers_judged (h : Gathers s u) (r : PumpReport) :
    Gathers s ((concluded r (judgeSag r (judgeReady r u))).settle.pierceAtOnce t) :=
  gathers_concluded ((gathers_steady s).judgeSag r ((gathers_steady s).judgeReady r h)) r

/-- A fault code of the pump, taken for the ACTIVE head or by no one (R170). -/
theorem reported_fault (hsafe : JetSafe s) (hcode : r.code ≠ 0) (haborting : s.jsq.phase = .aborting → s.jsq.wait = none) :
    TakesFault s .pumpFault
        ((concluded r (judgeSag r (judgeReady r (judgeFaultCode r (pumpHeardIn s))))).settle.pierceAtOnce s)
      ∧ ((∀ old, s.pump.report = some old → old.code ≠ r.code) → pendingWhereRouted .pumpFault s
        ((concluded r (judgeSag r (judgeReady r (judgeFaultCode r (pumpHeardIn s))))).settle.pierceAtOnce s)) := by
  obtain ⟨w, hjudged, hw⟩ := judgeFaultCode_fault hcode (pumpHeardIn s)
  rw [hjudged]
  refine ⟨fun e rest hq he => ?_, fun hnew => ?_⟩
  · have hunmoved : Unmoved s w ∧ w.jsq = s.jsq := by
      rcases hw with ⟨rfl, -⟩ | rfl
      · exact ⟨unmoved_pumpHeardIn s, rfl⟩
      · exact ⟨(unmoved_pumpHeardIn s).raise .pumpFault, rfl⟩
    obtain ⟨hunmoved, hjsq⟩ := hunmoved
    have hact : s.activeEntry = some e := State.activeEntry_eq_some.2 ⟨rest, hq, he⟩
    have hphase := hsafe.2.1.1.1 (by rw [hact]; rfl)
    obtain ⟨hwait, hp⟩ := takeFault_rested (u := w) (f := .pumpFault) (.inl rfl) ((activeEntry_congr hunmoved.queue).trans hact)
      (by rw [hjsq]; exact hphase) (by rw [hjsq]; exact haborting)
    have hfault := takesFault hunmoved (fun _ => hjsq) hsafe .pumpFault
    have hunpierced : Unpierced s (w.takeFault .pumpFault) :=
      Unpierced.trans (.of_same (by rw [hjsq])) (unpierced_takeFault w .pumpFault)
    generalize w.takeFault .pumpFault = v at hwait hp hfault hunpierced ⊢
    have hend : ∃ p : PumpLink, judgeSag r (judgeReady r v) = v.setPump p ∧ p.transmit = v.pump.transmit ∧ p.target = v.pump.target := by
      have hsag : ∀ b, judgeSag r (v.setPump { v.pump with ready := b }) = v.setPump { v.pump with ready := b, sag := 0 } :=
        fun b => judgeSag_of_not_cutting (u := v.setPump { v.pump with ready := b }) hp r
      rw [judgeReady_of_no_wait hwait, hsag]
      exact ⟨_, rfl, rfl, rfl⟩
    obtain ⟨p, hend, htransmit, htarget⟩ := hend
    have halike : Alike v (v.setPump p) := (Alike.refl v).setPump htransmit htarget
    have hconcluded := alike_concluded r (v.setPump p)
    have hsame : Unpierced s (concluded r (v.setPump p)).settle :=
      hunpierced.trans (.of_same (by rw [hconcluded.jsq]; rfl))
    rw [hend, hsame.pierceAtOnce]
    exact takesFault_alike (takesFault_alike hfault halike) hconcluded e rest hq he
  · have hraised : w = (pumpHeardIn s).raise .pumpFault :=
      hw.resolve_left fun hknown => by
        obtain ⟨-, old, hold, hsame⟩ := hknown
        exact hnew old hold hsame
    have hgathers : Gathers s (pumpHeardIn s) := .of_attention rfl
    rw [hraised]
    exact hgathers.pending (gathers_judged ((gathers_steady _).takeFault _ (.refl _)) r)

/-! ### Readiness -/

/-- Pressure-ready for the ACTIVE entry, by JSQ's phase (R116, R117, R119, R124). -/
theorem onPressureReady_eq (hwait : u.jsq.wait ≠ none) (hact : u.activeEntry = some e) : u.onPressureReady =
    match u.jsq.phase with
    | .positioning => (u.setJsq { u.jsq with wait := none }).positioningEnd e
    | .piercePressure => (u.setJsq { u.jsq with wait := none }).openJet e
    | .cutPressure => u.setJsq { u.jsq with wait := none, phase := .cutting, startMode := none }
    | _ => u.setJsq { u.jsq with wait := none } := by
  have hact' : (u.setJsq { u.jsq with wait := none }).activeEntry = some e := hact
  obtain ⟨w, hw⟩ := Option.ne_none_iff_exists'.1 hwait
  rw [State.onPressureReady, hw]
  dsimp only
  rw [hact']
  dsimp only
  rw [State.setJsq_jsq]
  cases u.jsq.phase <;> rfl

theorem onlySends_openJet (u : State) (e : Entry) : OnlySends u (u.openJet e) := by
  by_cases hedge : u.jsq.startMode = some .edgeStart
  · rw [openJet_edge hedge]
    rfl
  · rw [openJet_pierce hedge]
    rfl

theorem onlySends_onPressureReady (u : State) : OnlySends u u.onPressureReady := by
  have hclosed : ∀ e, OnlySends u ((u.setJsq { u.jsq with wait := none }).openJet e) :=
    fun e => onlySends_openJet (u.setJsq { u.jsq with wait := none }) e
  unfold State.onPressureReady
  split
  · rfl
  · dsimp only
    split
    · rfl
    · split
      · unfold State.positioningEnd
        split
        · exact hclosed _
        · rfl
      · exact hclosed _
      · rfl
      · rfl

/-- A report within the ready band, the part not ready before (R169). -/
theorem judgeReady_ready (hready : u.pump.ready = false) (hlow : r.pressure ≤ u.pump.target + u.config.readyBand.toNat)
    (hhigh : u.pump.target ≤ r.pressure + u.config.readyBand.toNat) :
    judgeReady r u = (u.setPump { u.pump with ready := true }).onPressureReady :=
  if_pos ⟨hready, decide_eq_true ⟨hlow, hhigh⟩⟩

/-- The pump ready for the first time at its target. -/
abbrev readied (s : State) : State := (pumpHeardIn s).setPump { (pumpHeardIn s).pump with ready := true }

/-- With no sag counted before, the sag and the flow judge nothing that JSQ sees. -/
theorem concluded_of_zero (h : u.pump.sag = 0) (r : PumpReport) :
    ∃ a p, concluded r (judgeSag r u) = (u.setAttention a).setPump p ∧ p.transmit = u.pump.transmit := by
  obtain ⟨n, hsag⟩ := judgeSag_of_zero h r
  obtain ⟨a, hend⟩ := concluded_eq r (u.setPump { u.pump with sag := n })
  exact ⟨a, { u.pump with sag := n, report := some r }, by rw [hsag, hend]; rfl, rfl⟩

/-- A STATUS that makes the pump ready: the wait is closed, and JSQ goes on by its phase (R116 to R119, R124). -/
theorem reported_ready (r : PumpReport) (hact : s.activeEntry = some e) (hwait : s.jsq.wait ≠ none) (hidle : s.jsq.pierceMs = none)
    (hsag : s.pump.sag = 0) :
    ∃ t, (concluded r (judgeSag r (readied s).onPressureReady)).settle.pierceAtOnce s = t
      ∧ t.queue = s.queue ∧ t.stream = s.stream ∧ t.planner = s.planner
      ∧ (s.jsq.phase = .positioning → s.jsq.arrived ≠ some true → t.jsq = { s.jsq with wait := none })
      ∧ (s.jsq.phase = .positioning ∧ s.jsq.arrived = some true ∨ s.jsq.phase = .piercePressure → JetOpened s t e)
      ∧ (s.jsq.phase = .cutPressure → t.jsq = { s.jsq with wait := none, phase := .cutting, startMode := none }) := by
  have hready := onPressureReady_eq (u := readied s) hwait hact
  have hzero : (readied s).onPressureReady.pump.sag = 0 := by
    rw [onlySends_onPressureReady (readied s)]
    exact hsag
  have hclosed : WaitClosed s ((readied s).setJsq { s.jsq with wait := none }) := ⟨rfl, rfl, rfl, rfl, rfl, rfl⟩
  have hqueue : (readied s).onPressureReady.queue = s.queue := by simp
  have hstream : (readied s).onPressureReady.stream = s.stream := by simp
  have hplanner : (readied s).onPressureReady.planner = s.planner := by simp
  obtain ⟨a, p, hend, htransmit⟩ := concluded_of_zero hzero r
  rw [hend]
  generalize (readied s).onPressureReady = w at hready hqueue hstream hplanner htransmit ⊢
  have hplain (x : Sequencer) (hw : w.jsq = x) (hms : x.pierceMs = none) :
      (((w.setAttention a).setPump p).settle.pierceAtOnce s).jsq = x := by
    have hsame : ((w.setAttention a).setPump p).settle.jsq = x := hw
    rw [State.pierceAtOnce_of_same (s := ((w.setAttention a).setPump p).settle) (by rw [hsame, hms, hidle]), hsame]
  have hopens (hw : w = ((readied s).setJsq { s.jsq with wait := none }).openJet e) :
      JetOpened s (((w.setAttention a).setPump p).settle.pierceAtOnce s) e := by
    refine JetIsOn.jetOpened (u := (w.setAttention a).setPump p) ?_ hact hidle
    exact (hclosed.openJet e).congr (by rw [← hw]; rfl) (by rw [State.setPump_pump, htransmit, hw]) (by rw [← hw]; rfl)
      (by rw [← hw]; rfl) (by rw [← hw]; rfl) (by rw [← hw]; rfl)
  refine ⟨_, rfl, by simp [hqueue], by simp [hstream], by simp [hplanner], fun hphase harrived => ?_, fun hphase => ?_,
    fun hphase => ?_⟩
  · refine hplain _ ?_ hidle
    have hp : (readied s).jsq.phase = .positioning := hphase
    rw [hready, hp]
    exact congrArg State.jsq (if_neg fun hboth => harrived hboth.1)
  · refine hopens ?_
    rcases hphase with ⟨hphase, harrived⟩ | hphase
    · have hp : (readied s).jsq.phase = .positioning := hphase
      rw [hready, hp]
      exact if_pos ⟨harrived, rfl⟩
    · have hp : (readied s).jsq.phase = .piercePressure := hphase
      rw [hready, hp]
      rfl
  · refine hplain _ ?_ hidle
    have hp : (readied s).jsq.phase = .cutPressure := hphase
    rw [hready, hp]
    rfl

/-! ### Sag -/

/-- While the head cuts, readiness changes no more than itself and the wait. -/
theorem judgeReady_cutting (hact : u.activeEntry = some e) (hphase : u.jsq.phase = .cutting) (r : PumpReport) :
    ∃ b wait, judgeReady r u = (u.setPump { u.pump with ready := b }).setJsq { u.jsq with wait := wait } := by
  unfold judgeReady
  split
  · by_cases hwait : u.jsq.wait = none
    · rw [onPressureReady_of_no_wait (u := u.setPump { u.pump with ready := true }) hwait]
      exact ⟨true, u.jsq.wait, rfl⟩
    · have hp : (u.setPump { u.pump with ready := true }).jsq.phase = .cutting := hphase
      rw [onPressureReady_eq (u := u.setPump { u.pump with ready := true }) hwait hact, hp]
      exact ⟨true, none, rfl⟩
  · exact ⟨u.pump.ready, u.jsq.wait, rfl⟩

theorem sagging_eq (hphase : u.jsq.phase = .cutting) (hvalve : u.jsq.valve = .opened) (r : PumpReport) :
    sagging r u = decide (r.pressure + u.config.dropMargin.toNat < u.pump.target) := by
  rw [sagging, hphase, hvalve]
  rfl

/-- The sag of a report while the head cuts (R171). -/
theorem reported_sag (hsafe : JetSafe s) (hact : s.activeEntry = some e) (hphase : s.jsq.phase = .cutting)
    (hvalve : s.jsq.valve = .opened) :
    ∃ t, (concluded r (judgeSag r (judgeReady r (pumpHeardIn s)))).settle.pierceAtOnce s = t
      ∧ (s.pump.target ≤ r.pressure + s.config.dropMargin.toNat →
          t.pump.sag = 0 ∧ t.jsq.phase = .cutting ∧ t.queue = s.queue)
      ∧ (r.pressure + s.config.dropMargin.toNat < s.pump.target → s.pump.sag = 0 →
          t.pump.sag = 1 ∧ t.jsq.phase = .cutting ∧ t.queue = s.queue)
      ∧ (r.pressure + s.config.dropMargin.toNat < s.pump.target → s.pump.sag ≠ 0 →
          t.pump.sag = 0 ∧ TakesFault s .pressureSag t ∧ pendingWhereRouted .pumpFault s t) := by
  obtain ⟨b, wait, hready⟩ := judgeReady_cutting (u := pumpHeardIn s) hact hphase r
  rw [hready]
  generalize hw : ((pumpHeardIn s).setPump { (pumpHeardIn s).pump with ready := b }).setJsq { (pumpHeardIn s).jsq with wait := wait } = w
  have hunmoved : Unmoved s w := by
    rw [← hw]
    exact ⟨rfl, rfl, rfl, rfl, rfl, rfl, rfl, rfl, rfl, rfl, rfl, .of_attention rfl⟩
  have hjsq : w.jsq.phase = .cutting ∧ w.jsq.pierceMs = s.jsq.pierceMs ∧ w.pump.sag = s.pump.sag := by
    rw [← hw]
    exact ⟨hphase, rfl, rfl⟩
  have hsagging : sagging r w = decide (r.pressure + s.config.dropMargin.toNat < s.pump.target) := by
    rw [← hw]
    exact sagging_eq hphase hvalve r
  obtain ⟨hcutting, hms, hzero⟩ := hjsq
  have hqueue := hunmoved.queue
  clear hw hready
  have hcounts (n : Nat) (hsag : judgeSag r w = w.setPump { w.pump with sag := n }) :
      ((concluded r (judgeSag r w)).settle.pierceAtOnce s).pump.sag = n
        ∧ ((concluded r (judgeSag r w)).settle.pierceAtOnce s).jsq.phase = .cutting
        ∧ ((concluded r (judgeSag r w)).settle.pierceAtOnce s).queue = s.queue := by
    obtain ⟨a, hend⟩ := concluded_eq r (w.setPump { w.pump with sag := n })
    rw [hsag, hend, State.pierceAtOnce_of_same (by rw [← hms]; rfl)]
    exact ⟨rfl, hcutting, hqueue⟩
  refine ⟨_, rfl, fun hholds => hcounts 0 ?_, fun hdrops hfirst => hcounts 1 ?_, fun hdrops hsecond => ?_⟩
  · rw [judgeSag, hsagging, decide_eq_false (by omega), if_neg Bool.false_ne_true]
  · rw [judgeSag, hsagging, decide_eq_true hdrops, if_pos rfl, if_pos (hzero.trans hfirst)]
  · have hsag : judgeSag r w = ((w.setPump { w.pump with sag := 0 }).raise .pumpFault).takeFault .pressureSag := by
      rw [judgeSag, hsagging, decide_eq_true hdrops, if_pos rfl, if_neg (by rw [hzero]; exact hsecond)]
    have hraised : Unmoved s ((w.setPump { w.pump with sag := 0 }).raise .pumpFault) := by
      have hset : Unmoved s (w.setPump { w.pump with sag := 0 }) :=
        { hunmoved with gathers := hunmoved.gathers.trans (.of_attention rfl) }
      exact hset.raise .pumpFault
    have hfault := takesFault hraised (fun haborting => Phase.noConfusion (haborting.symm.trans hphase)) hsafe .pressureSag
    have hsends := onlySends_takeFault (f := .pressureSag) (.inr (.inl rfl)) ((w.setPump { w.pump with sag := 0 }).raise .pumpFault)
    have hunpierced : Unpierced s (((w.setPump { w.pump with sag := 0 }).raise .pumpFault).takeFault .pressureSag) :=
      have hcounted : Unpierced s ((w.setPump { w.pump with sag := 0 }).raise .pumpFault) := .of_same hms
      hcounted.trans (unpierced_takeFault _ .pressureSag)
    have hgathers : Gathers s (w.setPump { w.pump with sag := 0 }) := hunmoved.gathers.trans (.of_attention rfl)
    have hpending : pendingWhereRouted .pumpFault s ((concluded r
        (((w.setPump { w.pump with sag := 0 }).raise .pumpFault).takeFault .pressureSag)).settle.pierceAtOnce s) :=
      hgathers.pending (gathers_concluded ((gathers_steady _).takeFault _ (.refl _)) r)
    rw [hsag]
    generalize ((w.setPump { w.pump with sag := 0 }).raise .pumpFault).takeFault .pressureSag = v at hfault hsends hunpierced hpending ⊢
    have halike := alike_concluded r v
    have hsame : Unpierced s (concluded r v).settle := hunpierced.trans (.of_same (by rw [halike.jsq]))
    rw [hsame.pierceAtOnce] at hpending ⊢
    refine ⟨?_, takesFault_alike hfault halike, hpending⟩
    obtain ⟨a, hend⟩ := concluded_eq r v
    rw [hend, State.settle_pump, State.setPump_pump, hsends]
    rfl

/-! ### A STATUS with nothing to act on, and the pump's silence -/

/-- A STATUS without a fault, with no wait open and outside CUTTING, changes the pump link and raises a fall of the flow. -/
theorem reported_idle (r : PumpReport) (hcode : r.code = 0) (hwait : s.jsq.wait = none) (hphase : s.jsq.phase ≠ .cutting) :
    ∃ t, (concluded r (judgeSag r (judgeReady r (judgeFaultCode r (pumpHeardIn s))))).settle.pierceAtOnce s = t
      ∧ t.pump = { s.pump with
          ready := s.pump.ready || decide (r.pressure ≤ s.pump.target + s.config.readyBand.toNat
            ∧ s.pump.target ≤ r.pressure + s.config.readyBand.toNat)
          report := some r, sag := 0, link := .ok, timer := some s.config.pumpReportTimeout.toNat, assembly := none }
      ∧ (∀ old, s.pump.report = some old → old.flow = .ok → r.flow = .low → pendingWhereRouted .abrasiveLow s t)
      ∧ ((∀ old, s.pump.report = some old → old.flow ≠ .ok) ∨ r.flow ≠ .low → Quiet s → t.attention = s.attention)
      ∧ t = (s.setPump t.pump).setAttention t.attention := by
  have hready := judgeReady_of_no_wait (u := pumpHeardIn s) hwait r
  rw [judgeFaultCode_zero hcode, hready,
    judgeSag_of_not_cutting (u := (pumpHeardIn s).setPump { (pumpHeardIn s).pump with
      ready := (pumpHeardIn s).pump.ready
        || withinBand (pumpHeardIn s).config.readyBand.toNat (pumpHeardIn s).pump.target r.pressure }) hphase]
  generalize hv : State.setPump _ _ = v
  have hsame : v.jsq = s.jsq ∧ v.attention = s.attention ∧ v.pump.report = s.pump.report := by
    rw [← hv]
    exact ⟨rfl, rfl, rfl⟩
  obtain ⟨hjsq, hattention, hreport⟩ := hsame
  obtain ⟨a, hend⟩ := concluded_eq r v
  have hsettled : (concluded r v).settle.pierceAtOnce s = (concluded r v).settle :=
    State.pierceAtOnce_of_same (by rw [hend]; exact congrArg Sequencer.pierceMs hjsq)
  have hflow : (judgeFlow r v).attention = (concluded r v).attention := rfl
  rw [hsettled]
  refine ⟨_, rfl, ?_, fun old hold hok hlow => ?_, fun hnone hquiet => ?_, ?_⟩
  · rw [hend, ← hv]
    rfl
  · have hraised : judgeFlow r v = v.raise .abrasiveLow := if_pos ⟨hlow, by simp [hreport, hold, hok]⟩
    have hgathers : Gathers s v := .of_attention hattention
    rw [concluded, hraised]
    exact hgathers.pending (Gathers.settle (.of_attention rfl))
  · have hplain : judgeFlow r v = v := if_neg fun hboth => by
      obtain ⟨hlow, hany⟩ := hboth
      rw [hreport] at hany
      rcases hnone with hnone | hnone
      · obtain ⟨old, hold, hok⟩ : ∃ old, s.pump.report = some old ∧ old.flow = .ok := by simpa [Option.any_eq_true] using hany
        exact hnone old hold hok
      · exact hnone hlow
    have hquiet' : Quiet (holdReport r v) := by
      rw [Quiet]
      exact hattention ▸ hquiet
    rw [concluded, hplain, State.settle_of_quiet hquiet']
    exact hattention
  · obtain ⟨p, hp⟩ : ∃ p, v = s.setPump p := ⟨_, hv.symm⟩
    rw [hend, hp]
    rfl

/-- The pump silent (R173). -/
abbrev pumpSilent (s : State) : State := s.setPump { s.pump with timer := none, link := .silent }

theorem exec_pumpReportTimeout {n : Nat} (htimer : s.pump.timer = some n) :
    exec .pumpReportTimeout s = .next (((pumpSilent s).raise .pumpLinkLost).takeFault .pumpLinkLost).settle := by
  have hexec : exec .pumpReportTimeout s = execPumpReportTimeout s := rfl
  rw [hexec, execPumpReportTimeout, htimer]

theorem pumpSilence {n : Nat} (htimer : s.pump.timer = some n) :
    ∃ t, exec .pumpReportTimeout s = .next t ∧ pendingWhereRouted .pumpLinkLost s t
      ∧ t.pump.timer = none ∧ t.pump.link = .silent
      ∧ (s.activeEntry = none →
        t = (s.setPump { s.pump with timer := none, link := .silent }).setAttention t.attention)
      ∧ (JetSafe s → TakesFault s .pumpLinkLost t) := by
  have hsends := onlySends_takeFault (f := .pumpLinkLost) (.inr (.inr (.inr rfl))) ((pumpSilent s).raise .pumpLinkLost)
  have hset : Unmoved s (pumpSilent s) := ⟨rfl, rfl, rfl, rfl, rfl, rfl, rfl, rfl, rfl, rfl, rfl, .of_attention rfl⟩
  have hunmoved := hset.raise .pumpLinkLost
  refine ⟨_, exec_pumpReportTimeout htimer, pending_takeFault (u := pumpSilent s) (.of_attention rfl) _ _, ?_, ?_,
    fun hnone => ?_, fun hsafe => takesFault_alike (takesFault hunmoved (fun _ => rfl) hsafe _) (Alike.refl _).settle⟩
  · rw [State.settle_pump, hsends]
    rfl
  · rw [State.settle_pump, hsends]
    rfl
  · rw [takeFault_inactive (u := pumpSilent s) hnone]
    rfl

/-! ### The bytes of a message -/

theorem assemble_first (h : s.pump.assembly = none) (b : Byte) :
    assemble b s = if b = 0xA5 then s.setPump { s.pump with assembly := some ⟨[0xA5], 5⟩ } else s := by
  rw [assemble, h]
  dsimp only
  split
  · next hb =>
    subst hb
    exact (if_pos rfl).symm
  · next hb => exact (if_neg hb).symm

/-- Settles O58: the bytes, then an accepted STATUS by what it finds, and silence. -/
theorem pumpReportsTaken : Obligations.PumpReportsTaken := by
  unfold Obligations.PumpReportsTaken
  intro s b message
  have hbyte : exec (.pumpByteReceived b) s = .next (assemble b s) := rfl
  refine ⟨fun hnone => ?_, fun a ha hshort => ?_, fun a ha hfull hmessage => ?_, rfl, fun hbad => ?_,
    fun r hgood hcode hnone hwait hphase => ?_, fun r hgood hsafe => ?_, fun n htimer => pumpSilence htimer⟩
  · rw [hbyte, assemble_first hnone]
  · rw [hbyte, assemble, ha]
    exact congrArg Host.Outcome.next (if_pos hshort)
  · have htake : exec (.pumpStatus message) s = .next (takeMessage message.toList s) := rfl
    rw [hbyte, htake, assemble, ha, hmessage]
    exact congrArg Host.Outcome.next (if_neg (by omega))
  · have htake : exec (.pumpStatus message) s = .next (takeMessage message.toList s) := rfl
    rw [htake, takeMessage]
    dsimp only
    rw [hbad]
  · obtain ⟨t, ht, hrest⟩ := reported_idle r hcode hwait hphase
    exact ⟨t, by rw [exec_pumpStatus hgood, ht], hrest⟩
  · refine ⟨_, exec_pumpStatus hgood, ?_, fun hcode haborting => reported_fault hsafe hcode haborting,
      fun e hcode hact hwait hidle hready hsag hlow hhigh => ?_, fun hcode hactive hphase hvalve => ?_⟩
    · rw [pierceAtOnce_report]
      rfl
    · rw [judgeFaultCode_zero hcode, judgeReady_ready (u := pumpHeardIn s) hready hlow hhigh]
      obtain ⟨t, ht, hrest⟩ := reported_ready r hact hwait hidle hsag
      rw [ht]
      exact hrest
    · obtain ⟨e, hact⟩ := Option.ne_none_iff_exists'.1 hactive
      obtain ⟨t, ht, hrest⟩ := reported_sag (r := r) hsafe hact hphase hvalve
      rw [judgeFaultCode_zero hcode, ht]
      exact hrest

end Sys2Proof.Proofs

/-! PROOFS. The stop-boundary search (R107). -/

namespace Sys2Proof.Proofs

open Sys2Proof Sys2Proof.Machine

variable {c : PlanInput} {planned : Nat → Option Nat} {value sum : Nat} {place : Place} {cursor : Cursor}

/-- The increment of segment `i` of a contour (R76). -/
def incrementAt (c : PlanInput) (i : Nat) : Nat := increment c.inputs.material (c.segs.getD i blankRecord)

/-- What a walk from `cursor`, with the increments of `sum` behind it, has found (R107). -/
structure Walked (c : PlanInput) (planned : Nat → Option Nat) (value sum : Nat) (cursor : Cursor) (found : StopPlan) : Prop where
  stays : found.chain = [] → cursor = .fin
  reaches : found.place = alongCutOrder c.segs c.passes found.chain.length cursor
  crosses : ∀ k i, found.chain[k]? = some i → ∃ p, alongCutOrder c.segs c.passes k cursor = .seg p ∧ p.index = i
  goesOn : ∀ k i, found.chain[k]? = some i → k + 1 < found.chain.length →
    planned i ≠ some 0 ∧ sum + ((found.chain.take (k + 1)).map (incrementAt c)).sum < value
  stops : ∀ i, found.chain.getLast? = some i →
    planned i = some 0 ∨ value ≤ sum + (found.chain.map (incrementAt c)).sum ∨ found.place = .fin

theorem walked_end : Walked c planned value sum .fin ⟨[], .fin⟩ where
  stays _ := rfl
  reaches := rfl
  crosses k i h := by simp at h
  goesOn k i h := by simp at h
  stops i h := by simp at h

/-- The walk stops behind the segment it crosses. -/
theorem walked_stop (h : planned place.index = some 0 ∨ value ≤ sum + incrementAt c place.index) :
    Walked c planned value sum (.seg place) ⟨[place.index], successor c.segs c.passes place⟩ where
  stays h := by simp at h
  reaches := rfl
  crosses k i hk := by
    obtain ⟨rfl, rfl⟩ : k = 0 ∧ place.index = i := by
      cases k <;> simp_all
    exact ⟨place, rfl, rfl⟩
  goesOn k i _ hlast := by simp at hlast
  stops i hi := by
    obtain rfl : place.index = i := by simpa using hi
    exact h.imp_right fun h => .inl (by simpa using h)

/-- The walk goes on behind the segment it crosses. -/
theorem Walked.cons {found : StopPlan} (hnot : ¬ (planned place.index = some 0 ∨ value ≤ sum + incrementAt c place.index))
    (h : Walked c planned value (sum + incrementAt c place.index) (successor c.segs c.passes place) found) :
    Walked c planned value sum (.seg place) ⟨place.index :: found.chain, found.place⟩ where
  stays h := by simp at h
  reaches := h.reaches
  crosses k i hk := by
    cases k with
    | zero => exact ⟨place, rfl, by simpa using hk⟩
    | succ k => exact h.crosses k i (by simpa using hk)
  goesOn k i hk hlast := by
    cases k with
    | zero =>
      obtain rfl : place.index = i := by simpa using hk
      rw [not_or, not_le] at hnot
      simpa using hnot
    | succ k =>
      obtain ⟨hzero, hsum⟩ := h.goesOn k i (by simpa using hk) (by simpa using hlast)
      exact ⟨hzero, by simpa [Nat.add_assoc] using hsum⟩
  stops i hi := by
    cases hchain : found.chain with
    | nil =>
      refine .inr (.inr ?_)
      have hfin := h.reaches
      rw [h.stays hchain, hchain] at hfin
      exact hfin
    | cons j chain =>
      have hlast : found.chain.getLast? = some i := by
        rw [hchain] at hi ⊢
        simpa using hi
      have := h.stops i hlast
      rw [hchain] at this
      simpa [Nat.add_assoc] using this

/-- The segments that cut order can still meet from a place, at the most. -/
def segmentsLeft (n passes : Nat) (place : Place) : Nat := (passes - place.pass) * n + (n - place.index)

/-- Cut order comes nearer to the contour's end (R50). -/
theorem segmentsLeft_successor {n : Nat} (hn : n = c.segs.length) (hpos : 0 < n) (hindex : place.index ≤ n)
    (hpass : place.pass ≤ c.passes) {next : Place} (h : successor c.segs c.passes place = .seg next) :
    next.index ≤ n ∧ next.pass ≤ c.passes ∧ segmentsLeft n c.passes next < segmentsLeft n c.passes place := by
  have hfirst : firstBody c.segs ≤ n := hn ▸ List.findIdx_le_length
  have hcount : bodyCount c.segs ≤ n := hn ▸ List.countP_le_length
  unfold successor at h
  split at h
  · next hwrap =>
    obtain ⟨-, hlast, hmore⟩ := hwrap
    obtain rfl := Cursor.seg.inj h
    obtain ⟨m, hm⟩ : ∃ m, c.passes - place.pass = m + 1 := ⟨c.passes - place.pass - 1, by omega⟩
    have hm' : c.passes - (place.pass + 1) = m := by omega
    rw [lastBody] at hlast
    refine ⟨hfirst, hmore, ?_⟩
    rw [segmentsLeft, segmentsLeft, hm, hm', Nat.succ_mul]
    dsimp only
    omega
  · split at h
    · obtain rfl := Cursor.seg.inj h
      refine ⟨by dsimp only; omega, hpass, ?_⟩
      rw [segmentsLeft, segmentsLeft]
      dsimp only
      omega
    · cases h

/-- The walk's fuel reaches the contour's end. -/
theorem walked_stopWalk {n : Nat} (hn : n = c.segs.length) (hpos : 0 < n) (fuel sum : Nat) (cursor : Cursor)
    (hfuel : ∀ p, cursor = .seg p → p.index ≤ n ∧ p.pass ≤ c.passes ∧ segmentsLeft n c.passes p < fuel) :
    Walked c planned value sum cursor (stopWalk c planned value fuel sum cursor) := by
  induction fuel generalizing sum cursor with
  | zero =>
    cases cursor with
    | fin => exact walked_end
    | seg p => exact absurd (hfuel p rfl).2.2 (Nat.not_lt_zero _)
  | succ fuel ih =>
    cases cursor with
    | fin => exact walked_end
    | seg p =>
      obtain ⟨hindex, hpass, hleft⟩ := hfuel p rfl
      have hnext := ih (sum + incrementAt c p.index) (successor c.segs c.passes p) fun q hq => by
        obtain ⟨hq1, hq2, hq3⟩ := segmentsLeft_successor hn hpos hindex hpass hq
        exact ⟨hq1, hq2, by omega⟩
      unfold stopWalk
      dsimp only
      split
      · next hstop => exact walked_stop hstop
      · next hnot => exact hnext.cons hnot

/-- Settles O44: the walk in cut order, with fuel for every segment of every pass. -/
theorem stopSearchFindsFirst : Obligations.StopSearchFindsFirst := by
  unfold Obligations.StopSearchFindsFirst
  intro c planned fixed inc found hinc hfound
  have hincrement : inc = incrementAt c := funext hinc
  refine ⟨fun hzero => hfound.trans (if_pos hzero), fun place hcursor hindex hfirst hlast hvalue => ?_⟩
  have hsearch : found = stopWalk c planned fixed.value (c.passes * c.segs.length + 1) 0 (.seg place) := by
    rw [hfound, stopSearch, if_neg (by omega), hcursor]
  have hwalked : Walked c planned fixed.value 0 (.seg place) found := by
    rw [hsearch]
    refine walked_stopWalk rfl (by omega) _ _ _ fun p hp => ?_
    obtain rfl := Cursor.seg.inj hp
    refine ⟨by omega, hlast, ?_⟩
    have hbound : (c.passes - place.pass) * c.segs.length + c.segs.length ≤ c.passes * c.segs.length := by
      rw [← Nat.succ_mul]
      exact Nat.mul_le_mul_right _ (by omega)
    rw [segmentsLeft]
    omega
  rw [hincrement, hcursor]
  refine ⟨?_, hwalked.reaches, hwalked.crosses, fun k i hk hmore => ?_, fun i hi => ?_⟩
  · refine List.length_pos_iff.2 fun hempty => ?_
    exact Cursor.noConfusion (hwalked.stays hempty)
  · simpa using hwalked.goesOn k i hk hmore
  · simpa using hwalked.stops i hi

end Sys2Proof.Proofs

/-! PROOFS. The speed profile: the least, over the boundaries of a range, of a limit plus the increments between (R79). -/

namespace Sys2Proof.Proofs

open Sys2Proof Sys2Proof.Machine

variable {limits incs : List Nat} {a b j k l x y z : Nat}

/-! ### The increments between two boundaries -/

theorem between_of_le (h : k ≤ l) : (incs.take k).sum + between incs k l = (incs.take l).sum := by
  rw [between, min_eq_left h, max_eq_right h, ← List.sum_append]
  conv_rhs => rw [← Nat.add_sub_cancel' h, List.take_add]

theorem between_comm (incs : List Nat) (k l : Nat) : between incs k l = between incs l k := by
  rw [between, between, min_comm, max_comm]

theorem between_self (incs : List Nat) (k : Nat) : between incs k k = 0 := by
  simp [between]

/-- The increments between as a distance of sums. -/
theorem between_eq (incs : List Nat) (k l : Nat) : between incs k l
    = max (incs.take k).sum (incs.take l).sum - min (incs.take k).sum (incs.take l).sum := by
  rcases Nat.le_total k l with h | h
  · have := between_of_le (incs := incs) h
    omega
  · have := between_of_le (incs := incs) h
    rw [between_comm]
    omega

theorem between_triangle (incs : List Nat) (k j l : Nat) : between incs k l ≤ between incs k j + between incs j l := by
  rw [between_eq, between_eq incs k j, between_eq incs j l]
  omega

theorem between_cons (inc : Nat) (incs : List Nat) (k l : Nat) : between (inc :: incs) (k + 1) (l + 1) = between incs k l := by
  rw [between_eq, between_eq, List.take_succ_cons, List.take_succ_cons, List.sum_cons, List.sum_cons]
  omega

theorem between_zero_cons (inc : Nat) (incs : List Nat) (l : Nat) :
    between (inc :: incs) 0 (l + 1) = inc + between incs 0 l := by
  rw [between_eq, between_eq, List.take_succ_cons, List.sum_cons, List.take_zero, List.take_zero, List.sum_nil]
  omega

theorem between_step {inc : Nat} (h : incs[k]? = some inc) : between incs k (k + 1) = inc := by
  have hsum := between_of_le (incs := incs) (Nat.le_succ k)
  rw [List.take_add_one, h, List.sum_append] at hsum
  simpa using hsum

/-! ### The highest speeds -/

theorem highestAt_unique (hx : highestAt limits incs k x) (hy : highestAt limits incs k y) : x = y := by
  obtain ⟨hx, l, u, hl, rfl⟩ := hx
  obtain ⟨hy, l', u', hl', rfl⟩ := hy
  exact Nat.le_antisymm (hx _ _ hl') (hy _ _ hl)

/-- The highest speeds of two boundaries differ by at most the increments between them. -/
theorem highestAt_le_add (hx : highestAt limits incs k x) (hy : highestAt limits incs l y) : x ≤ y + between incs k l := by
  obtain ⟨j, u, hj, rfl⟩ := hy.2
  have := hx.1 j u hj
  have := between_triangle incs k l j
  omega

theorem highestAt_le_limit {u : Nat} (hx : highestAt limits incs k x) (hu : limits[k]? = some u) : x ≤ u := by
  simpa [between_self] using hx.1 k u hu

/-! ### The two passes -/

/-- The forward pass: the least over the boundaries behind. -/
def highestBehind (limits incs : List Nat) (k b : Nat) : Prop :=
  (∀ l u, l ≤ k → limits[l]? = some u → b ≤ u + between incs k l)
    ∧ ∃ l u, l ≤ k ∧ limits[l]? = some u ∧ b = u + between incs k l

/-- The backward pass: the least over the boundaries ahead. -/
def highestAhead (limits incs : List Nat) (k b : Nat) : Prop :=
  (∀ l u, k ≤ l → limits[l]? = some u → b ≤ u + between incs k l)
    ∧ ∃ l u, k ≤ l ∧ limits[l]? = some u ∧ b = u + between incs k l

theorem forwardPass_length (first : Nat) (rest incs : List Nat) (h : rest.length = incs.length) :
    (forwardPass first (incs.zip rest)).length = rest.length + 1 := by
  induction incs generalizing first rest with
  | nil =>
    obtain rfl := List.length_eq_zero_iff.1 h
    rfl
  | cons inc incs ih =>
    cases rest with
    | nil => cases h
    | cons limit rest => simpa [forwardPass] using ih (min limit (first + inc)) rest (by simpa using h)

theorem highestBehind_zero (first : Nat) (rest incs : List Nat) : highestBehind (first :: rest) incs 0 first := by
  refine ⟨fun l u hl hu => ?_, 0, first, le_rfl, rfl, by simp [between_self]⟩
  obtain rfl := Nat.le_zero.1 hl
  obtain rfl : first = u := by simpa using hu
  exact Nat.le_add_right _ _

/-- One step of the forward pass. -/
theorem highestBehind_succ {first limit inc : Nat} {rest : List Nat}
    (h : highestBehind (min limit (first + inc) :: rest) incs k b) :
    highestBehind (first :: limit :: rest) (inc :: incs) (k + 1) b := by
  obtain ⟨hle, l, u, hl, hu, hb⟩ := h
  have hfirst : between (inc :: incs) (k + 1) 0 = inc + between incs k 0 := by
    rw [between_comm, between_zero_cons, between_comm]
  refine ⟨fun l u hl hu => ?_, ?_⟩
  · have hzero := hle 0 (min limit (first + inc)) (Nat.zero_le _) rfl
    match l with
    | 0 =>
      obtain rfl : first = u := by simpa using hu
      omega
    | 1 =>
      obtain rfl : limit = u := by simpa using hu
      rw [between_cons]
      omega
    | l + 2 =>
      rw [between_cons]
      exact hle (l + 1) u (by omega) (by simpa using hu)
  · cases l with
    | zero =>
      obtain rfl : min limit (first + inc) = u := by simpa using hu
      by_cases hlimit : limit ≤ first + inc
      · exact ⟨1, limit, by omega, rfl, by rw [between_cons]; omega⟩
      · exact ⟨0, first, Nat.zero_le _, rfl, by omega⟩
    | succ l => exact ⟨l + 2, u, by omega, by simpa using hu, by rw [between_cons]; exact hb⟩

theorem forwardPass_highest (first : Nat) (rest incs : List Nat) (h : rest.length = incs.length) :
    ∀ k b, (forwardPass first (incs.zip rest))[k]? = some b → highestBehind (first :: rest) incs k b := by
  induction incs generalizing first rest with
  | nil =>
    obtain rfl := List.length_eq_zero_iff.1 h
    intro k b hb
    obtain ⟨rfl, rfl⟩ : k = 0 ∧ first = b := by
      cases k <;> simp_all [forwardPass]
    exact highestBehind_zero ..
  | cons inc incs ih =>
    cases rest with
    | nil => cases h
    | cons limit rest =>
      intro k b hb
      cases k with
      | zero =>
        obtain rfl : first = b := by simpa [forwardPass] using hb
        exact highestBehind_zero ..
      | succ k => exact highestBehind_succ (ih _ _ (by simpa using h) k b (by simpa [forwardPass] using hb))

theorem backwardPass_length (bs incs : List Nat) (h : bs.length = incs.length + 1) :
    (backwardPass bs incs).length = bs.length := by
  induction incs generalizing bs with
  | nil => cases bs <;> rfl
  | cons inc incs ih =>
    cases bs with
    | nil => cases h
    | cons b bs =>
      have hlen := ih bs (by simpa using h)
      rw [backwardPass]
      cases hback : backwardPass bs incs with
      | nil =>
        rw [hback] at hlen
        simp at hlen h
        omega
      | cons next rest => simpa [hback] using hlen

theorem backwardPass_highest (bs incs : List Nat) (h : bs.length = incs.length + 1) :
    ∀ k b, (backwardPass bs incs)[k]? = some b → highestAhead bs incs k b := by
  induction incs generalizing bs with
  | nil =>
    obtain ⟨first, rfl⟩ := List.length_eq_one_iff.1 h
    intro k b hb
    obtain ⟨rfl, rfl⟩ : k = 0 ∧ first = b := by
      cases k <;> simp_all [backwardPass]
    refine ⟨fun l u _ hu => ?_, 0, first, le_rfl, rfl, by simp [between_self]⟩
    obtain ⟨rfl, rfl⟩ : l = 0 ∧ first = u := by
      cases l <;> simp_all
    exact Nat.le_add_right _ _
  | cons inc incs ih =>
    cases bs with
    | nil => cases h
    | cons first bs =>
      have hlen := backwardPass_length bs incs (by simpa using h)
      have hahead := ih bs (by simpa using h)
      intro k b hb
      rw [backwardPass] at hb
      cases hback : backwardPass bs incs with
      | nil =>
        rw [hback] at hlen
        simp at hlen h
        omega
      | cons next rest =>
        rw [hback] at hb hahead
        cases k with
        | zero =>
          obtain rfl : min first (next + inc) = b := by simpa using hb
          obtain ⟨hle, l, u, -, hu, hnext⟩ := hahead 0 next rfl
          refine ⟨fun l u _ hu => ?_, ?_⟩
          · cases l with
            | zero =>
              obtain rfl : first = u := by simpa using hu
              omega
            | succ l =>
              have := hle l u (Nat.zero_le _) (by simpa using hu)
              rw [between_zero_cons]
              omega
          · by_cases hfirst : first ≤ next + inc
            · exact ⟨0, first, le_rfl, rfl, by rw [between_self]; omega⟩
            · exact ⟨l + 1, u, Nat.zero_le _, by simpa using hu, by rw [between_zero_cons]; omega⟩
        | succ k =>
          obtain ⟨hle, l, u, hl, hu, hb'⟩ := hahead k b (by simpa using hb)
          refine ⟨fun l u hl hu => ?_, l + 1, u, by omega, by simpa using hu, by rw [between_cons]; exact hb'⟩
          obtain ⟨l, rfl⟩ : ∃ l', l = l' + 1 := ⟨l - 1, by omega⟩
          rw [between_cons]
          exact hle l u (by omega) (by simpa using hu)

/-! ### The profile -/

theorem profile_length (h : limits.length = incs.length + 1) : (profile limits incs).length = limits.length := by
  cases limits with
  | nil => rfl
  | cons first rest =>
    have hforward := forwardPass_length first rest incs (by simpa using h)
    rw [profile, backwardPass_length _ _ (by simpa [hforward] using h), hforward]
    rfl

/-- After both passes every boundary has the highest speed (R79). -/
theorem profile_highest (h : limits.length = incs.length + 1) (hb : (profile limits incs)[k]? = some b) :
    highestAt limits incs k b := by
  cases limits with
  | nil => cases h
  | cons first rest =>
    have hlen : rest.length = incs.length := by simpa using h
    have hforward := forwardPass_length first rest incs hlen
    obtain ⟨hle, j, v, -, hv, hb'⟩ := backwardPass_highest _ _ (by rw [hforward, hlen]) k b hb
    have hbehind := forwardPass_highest first rest incs hlen
    have hall : ∀ l u, (first :: rest)[l]? = some u → b ≤ u + between incs k l := fun l u hu => by
      have hlt : l < (forwardPass first (incs.zip rest)).length := by
        rw [hforward]
        exact (List.getElem?_eq_some_iff.1 hu).1
      have hk : k < (forwardPass first (incs.zip rest)).length := by
        rw [← backwardPass_length (forwardPass first (incs.zip rest)) incs (by rw [hforward, hlen])]
        exact (List.getElem?_eq_some_iff.1 hb).1
      rcases Nat.le_total k l with hkl | hlk
      · have hspeed := (hbehind l _ (List.getElem?_eq_getElem hlt)).1 l u le_rfl hu
        have hb := hle l _ hkl (List.getElem?_eq_getElem hlt)
        rw [between_self] at hspeed
        omega
      · have hspeed := (hbehind k _ (List.getElem?_eq_getElem hk)).1 l u hlk hu
        have hb := hle k _ le_rfl (List.getElem?_eq_getElem hk)
        rw [between_self] at hb
        omega
    obtain ⟨-, l, u, -, hu, hv'⟩ := hbehind j v hv
    have := hall l u hu
    have := between_triangle incs k j l
    exact ⟨hall, l, u, hu, by omega⟩

theorem profile_getElem? (h : limits.length = incs.length + 1) (hk : k < limits.length) :
    ∃ b, (profile limits incs)[k]? = some b ∧ highestAt limits incs k b := by
  have hlt : k < (profile limits incs).length := by rwa [profile_length h]
  exact ⟨_, List.getElem?_eq_getElem hlt, profile_highest h (List.getElem?_eq_getElem hlt)⟩

/-! ### Two boundaries joined at the lower of their speeds (R80) -/

/-- The limits with two boundaries brought to one speed. -/
def joinedLimits (limits : List Nat) (a z m : Nat) : List Nat := (limits.set a m).set z m

theorem joinedLimits_self {m : Nat} (h : k < limits.length) (hk : k = a ∨ k = z) : (joinedLimits limits a z m)[k]? = some m := by
  rw [joinedLimits, List.getElem?_set]
  split
  · next heq => simp [heq ▸ h]
  · next hne =>
    rw [List.getElem?_set, if_pos (hk.resolve_right (Ne.symm hne)).symm]
    simp [hk.resolve_right (Ne.symm hne) ▸ h]

theorem joinedLimits_other {m : Nat} (ha : k ≠ a) (hz : k ≠ z) : (joinedLimits limits a z m)[k]? = limits[k]? := by
  rw [joinedLimits, List.getElem?_set_ne (Ne.symm hz), List.getElem?_set_ne (Ne.symm ha)]

/-- A joined boundary has just the speed it was brought to. -/
theorem highestAt_joined (ha : a < limits.length) (hz : z < limits.length) (hx : highestAt limits incs a x)
    (hy : highestAt limits incs z y) (hk : k = a ∨ k = z) :
    highestAt (joinedLimits limits a z (min x y)) incs k (min x y) := by
  have hlt : k < limits.length := by
    rcases hk with rfl | rfl
    · exact ha
    · exact hz
  refine ⟨fun l u hu => ?_, k, min x y, joinedLimits_self hlt hk, by rw [between_self]; rfl⟩
  by_cases hl : l = a ∨ l = z
  · have hltl : l < limits.length := by
      rcases hl with rfl | rfl
      · exact ha
      · exact hz
    rw [joinedLimits_self hltl hl] at hu
    have := Option.some.inj hu
    omega
  · obtain ⟨hla, hlz⟩ := not_or.1 hl
    rw [joinedLimits_other hla hlz] at hu
    rcases hk with rfl | rfl
    · exact (min_le_left _ _).trans (hx.1 l u hu)
    · exact (min_le_right _ _).trans (hy.1 l u hu)

end Sys2Proof.Proofs

/-! PROOFS. The limits a plan starts from: the contour speed, the ceilings, and the boundaries by their class (R69 to R75). -/

namespace Sys2Proof.Proofs

open Sys2Proof Sys2Proof.Machine

variable {c : PlanInput} {m : Material} {p q r : SegRecord} {j limit dwell vo : Nat}
  {leadIns body leadOuts : List SegRecord}

/-! ### The contour speed and the ceilings -/

theorem dwell_getD (r : SegRecord) : (segDwell r).getD 0 = dwellReq r := by
  rw [segDwell, dwellReq]
  split <;> rfl

theorem qualityFactor_eq {f : Nat}
    (h : (j, f) ∈ [(1, 256), (2, m.qf2.toNat), (3, m.qf3.toNat), (4, m.qf4.toNat), (5, m.qf5.toNat)]) : qualityFactor m j = f := by
  simp only [List.mem_cons, Prod.mk.injEq, List.not_mem_nil, or_false] at h
  rcases h with ⟨rfl, rfl⟩ | ⟨rfl, rfl⟩ | ⟨rfl, rfl⟩ | ⟨rfl, rfl⟩ | ⟨rfl, rfl⟩ <;> rfl

theorem isArc_iff (h : r.kindByte.toNat ≤ 2) : isArc (segKind r) = true ↔ r.kindByte ≠ 0 := by
  have hkind : r.kindByte = 0 ∨ r.kindByte = 1 ∨ r.kindByte = 2 := by bv_omega
  rcases hkind with hkind | hkind | hkind <;> simp [segKind, Kind.ofByte, isArc, hkind]

theorem segRole_body_iff (r : SegRecord) : segRole r = .body ↔ r.roleByte = 1 := by
  unfold segRole Role.ofByte
  split
  · next h => simp [h]
  · split
    · next h => simp [h]
    · next h => exact iff_of_false (by split <;> simp) h

/-- The speed of a segment before its lead factor: slower along an arc below the critical radius (R70). -/
def bentSpeed (m : Material) (vo : Nat) (r : SegRecord) : Nat :=
  if r.kindByte ≠ 0 ∧ r.radiusPresence ≠ 0 ∧ r.radiusField.toNat < m.rCrit.toNat
  then vo * r.radiusField.toNat / m.rCrit.toNat else vo

theorem ceiling_eq (h : r.kindByte.toNat ≤ 2) (m : Material) (vo : Nat) :
    ceiling m vo r = max (if r.roleByte = 1 then bentSpeed m vo r else bentSpeed m vo r * m.lif.toNat / 256) m.vFloor.toNat := by
  rw [bentSpeed]
  simp only [← segRole_body_iff, ← isArc_iff h]
  by_cases hradius : r.radiusPresence = 0
  · have hnone : segRadius r = none := if_pos hradius
    rw [ceiling, hnone]
    simp only [ne_eq, hradius, not_true_eq_false, false_and, and_false, if_false]
  · have hsome : segRadius r = some r.radiusField.toNat := if_neg hradius
    rw [ceiling, hsome]
    simp only [ne_eq, hradius, not_false_eq_true, true_and]

/-! ### A boundary by its class -/

theorem cornerTerm_eq (h : cornerOf m vo p q limit dwell) : cornerTerm m vo p q = ⟨limit, dwell⟩ := by
  obtain ⟨turn, cls, factor, rfl, rfl, hfactor, hdwell, rfl⟩ := h
  have hclass : deflectionClass (segHeadingOut p) (segHeadingIn q) = min 7
      ((if 2048 < (q.headingIn.toNat + 4096 - p.headingOut.toNat) % 4096
        then 4096 - (q.headingIn.toNat + 4096 - p.headingOut.toNat) % 4096
        else (q.headingIn.toNat + 4096 - p.headingOut.toNat) % 4096) / 256) := rfl
  rw [← hclass] at hfactor hdwell
  have hfactor' : (cornerFactors m)[deflectionClass (segHeadingOut p) (segHeadingIn q)]? = some factor.toNat := by
    rw [show cornerFactors m = [m.cf0, m.cf1, m.cf2, m.cf3, m.cf4, m.cf5, m.cf6, m.cf7].map BitVec.toNat from rfl,
      List.getElem?_map, hfactor]
    rfl
  have hdwell' : (cornerDwells m)[deflectionClass (segHeadingOut p) (segHeadingIn q)]? = some dwell := hdwell
  rw [cornerTerm, List.getD_eq_getElem?_getD, List.getD_eq_getElem?_getD, hfactor', hdwell']
  rfl

/-- The contour's end (R72). -/
theorem boundary_end (h : c.segs.getLast? = some p) : boundary c c.segs.length = ⟨0, dwellReq p⟩ := by
  rw [List.getLast?_eq_getElem?] at h
  have hpos : c.segs.length ≠ 0 := fun hzero => by simp [List.length_eq_zero_iff.1 hzero] at h
  rw [boundary, if_neg hpos, h, List.getElem?_eq_none le_rfl]
  dsimp only
  rw [dwell_getD]

/-- A boundary between two segments, before its class is looked at. -/
theorem boundary_succ (hp : c.segs[j]? = some p) (hq : c.segs[j + 1]? = some q) : boundary c (j + 1) =
    if isBridge p then ⟨0, 0⟩
    else if isBridge q then ⟨0, dwellReq p⟩
    else if 1 < c.passes ∧ (j + 1 = firstBody c.segs ∨ j + 1 = firstBody c.segs + bodyCount c.segs) then junction c
    else zeroed (cornerTerm c.inputs.material (contourSpeed c) p q).limit
      (max (cornerTerm c.inputs.material (contourSpeed c) p q).dwell (dwellReq p)) := by
  rw [boundary, if_neg (Nat.succ_ne_zero j), Nat.add_sub_cancel, hp, hq]
  simp only [dwell_getD]

/-- The body junction lies between segments of different roles. -/
theorem not_junction (horder : structureFault true c.passes c.segs = none) (hp : c.segs[j]? = some p)
    (hq : c.segs[j + 1]? = some q) (hrole : segRole p = segRole q) :
    ¬ (j + 1 = firstBody c.segs ∨ j + 1 = firstBody c.segs + bodyCount c.segs) := by
  obtain ⟨horder, hcount, -, -⟩ := (structureFault_eq_none ..).1 horder
  obtain ⟨leadIns, body, leadOuts, h, hbody⟩ := parts_of_order horder hcount
  have hpos := List.length_pos_iff.2 hbody
  have hbefore := h.role_body_iff hp
  have hbehind := h.role_body_iff hq
  rw [hrole, hbehind] at hbefore
  rw [h.firstBody hbody, h.bodyCount]
  omega

theorem junction_eq {before first last behind : SegRecord} {u1 d1 u2 d2 u3 d3 : Nat} (h : Parts c.segs leadIns body leadOuts)
    (hbefore : leadIns.getLast? = some before) (hfirst : body.head? = some first) (hlast : body.getLast? = some last)
    (hbehind : leadOuts.head? = some behind)
    (h1 : cornerOf c.inputs.material (contourSpeed c) before first u1 d1)
    (h2 : cornerOf c.inputs.material (contourSpeed c) last first u2 d2)
    (h3 : cornerOf c.inputs.material (contourSpeed c) last behind u3 d3) :
    junction c = zeroed (min (min u1 (min u2 u3))
        (((body.map fun r => c.inputs.material.slope.toNat * segLength r / 1000).sum - 1) / 2))
      (max (max d1 (max d2 d3)) (max (dwellReq before) (dwellReq last))) := by
  have hbody : body ≠ [] := fun hnil => by simp [hnil] at hfirst
  have hleadIns : leadIns ≠ [] := fun hnil => by simp [hnil] at hbefore
  have hposIn := List.length_pos_iff.2 hleadIns
  have hpos := List.length_pos_iff.2 hbody
  rw [List.getLast?_eq_getElem?] at hbefore hlast
  rw [List.head?_eq_getElem?] at hfirst hbehind
  have hbefore' : c.segs.getD (leadIns.length - 1) blankRecord = before := by
    rw [List.getD_eq_getElem?_getD, h.whole, List.append_assoc, List.getElem?_append_left (by omega), hbefore]
    rfl
  have hfirst' : c.segs.getD leadIns.length blankRecord = first := by
    rw [List.getD_eq_getElem?_getD, ← Nat.add_zero leadIns.length, h.getElem?_body hpos, hfirst]
    rfl
  have hlast' : c.segs.getD (leadIns.length + body.length - 1) blankRecord = last := by
    rw [List.getD_eq_getElem?_getD, Nat.add_sub_assoc hpos, h.getElem?_body (by omega), hlast]
    rfl
  have hbehind' : c.segs.getD (leadIns.length + body.length) blankRecord = behind := by
    rw [List.getD_eq_getElem?_getD, h.whole, List.getElem?_append_right (by simp), List.length_append, Nat.sub_self, hbehind]
    rfl
  have hincrements : bodyIncrements c = (body.map fun r => c.inputs.material.slope.toNat * segLength r / 1000).sum := by
    have hin : leadIns.filter (fun r => segRole r == .body) = [] :=
      List.filter_eq_nil_iff.2 fun r hr => by rw [h.leadIn r hr]; decide
    have hout : leadOuts.filter (fun r => segRole r == .body) = [] :=
      List.filter_eq_nil_iff.2 fun r hr => by rw [h.leadOut r hr]; decide
    have hall : body.filter (fun r => segRole r == .body) = body :=
      List.filter_eq_self.2 fun r hr => by rw [h.body r hr]; decide
    rw [bodyIncrements, h.whole, List.filter_append, List.filter_append, hin, hout, hall, List.nil_append, List.append_nil]
    rfl
  rw [junction]
  dsimp only
  rw [h.firstBody hbody, h.bodyCount, hbefore', hfirst', hlast', hbehind', cornerTerm_eq h1, cornerTerm_eq h2, cornerTerm_eq h3,
    hincrements, dwell_getD, dwell_getD]

/-- In a contour that passes the structure checks the segments at the body's ends are no bridges, nor those beside them. -/
theorem not_bridge_of_placed (horder : structureFault true c.passes c.segs = none) {i : Nat} (hr : c.segs[i]? = some r)
    (hplace : segRole r ≠ .body ∨ i = firstBody c.segs ∨ i = lastBody c.segs) : isBridge r = false := by
  obtain ⟨-, -, hplaced, -⟩ := (structureFault_eq_none ..).1 horder
  refine Bool.eq_false_iff.2 fun hbridge => hplaced i (List.getElem?_eq_some_iff.1 hr).1 ?_
  refine (bridgeMisplaced_iff ..).2 ⟨r, hr, hbridge, ?_⟩
  rcases hplace with h | h | h
  · exact .inl h
  · exact .inr (.inl h)
  · exact .inr (.inr (.inl h))

/-- Both boundaries of the body junction of a contour of several passes (R74, R75). -/
theorem boundary_junction {before first last behind : SegRecord} (horder : structureFault true c.passes c.segs = none)
    (hpasses : 1 < c.passes) (h : Parts c.segs leadIns body leadOuts) (hbefore : leadIns.getLast? = some before)
    (hfirst : body.head? = some first) (hlast : body.getLast? = some last) (hbehind : leadOuts.head? = some behind) :
    boundary c leadIns.length = junction c ∧ boundary c (leadIns.length + body.length) = junction c := by
  have hbody : body ≠ [] := fun hnil => by simp [hnil] at hfirst
  have hleadIns : leadIns ≠ [] := fun hnil => by simp [hnil] at hbefore
  have hposIn := List.length_pos_iff.2 hleadIns
  have hpos := List.length_pos_iff.2 hbody
  have hin := h.leadIn before (List.mem_of_getLast? hbefore)
  have hout := h.leadOut behind (List.mem_of_mem_head? hbehind)
  have hfirst' := hfirst
  have hlast' := hlast
  rw [List.getLast?_eq_getElem?] at hbefore hlast'
  rw [List.head?_eq_getElem?] at hfirst' hbehind
  have hb : c.segs[leadIns.length - 1]? = some before := by
    rw [h.whole, List.append_assoc, List.getElem?_append_left (by omega), hbefore]
  have hf : c.segs[leadIns.length - 1 + 1]? = some first := by
    rw [show leadIns.length - 1 + 1 = leadIns.length + 0 by omega, h.getElem?_body hpos, hfirst']
  have hl : c.segs[leadIns.length + body.length - 1]? = some last := by
    rw [Nat.add_sub_assoc hpos, h.getElem?_body (by omega), hlast']
  have hn : c.segs[leadIns.length + body.length - 1 + 1]? = some behind := by
    rw [show leadIns.length + body.length - 1 + 1 = leadIns.length + body.length by omega, h.whole,
      List.getElem?_append_right (by simp), List.length_append, Nat.sub_self, hbehind]
  have hfirstBody := h.firstBody hbody
  have hlastBody := h.lastBody hbody
  have hbb := not_bridge_of_placed horder hb (.inl (by rw [hin]; decide))
  have hfb := not_bridge_of_placed horder hf (.inr (.inl (by omega)))
  have hlb := not_bridge_of_placed horder hl (.inr (.inr hlastBody.symm))
  have hnb := not_bridge_of_placed horder hn (.inl (by rw [hout]; decide))
  have hstart := boundary_succ hb hf
  have hend := boundary_succ hl hn
  rw [hbb, hfb, if_neg Bool.false_ne_true, if_neg Bool.false_ne_true, if_pos ⟨hpasses, .inl (by omega)⟩] at hstart
  rw [hlb, hnb, if_neg Bool.false_ne_true, if_neg Bool.false_ne_true,
    if_pos ⟨hpasses, .inr (by rw [hfirstBody, h.bodyCount]; omega)⟩] at hend
  exact ⟨by rw [← hstart]; congr 1; omega, by rw [← hend]; congr 1; omega⟩

/-- Settles O41: the least limit plus increments, and the limits. -/
theorem profileIsHighest : Obligations.ProfileIsHighest := by
  unfold Obligations.ProfileIsHighest
  refine ⟨fun limits incs hlen => ⟨profile_length hlen, fun k b hb => profile_highest hlen hb⟩, ?_⟩
  rintro c m vo rfl rfl
  refine ⟨fun f hf => ?_, fun r bent led hkind hbent hled => ?_, rfl, fun p hp => boundary_end hp, fun j p q hp hq => ?_, ?_⟩
  · rw [contourSpeed, qualityFactor_eq hf]
  · rw [ceiling_eq hkind, hled, hbent]
    rfl
  · have hboundary := boundary_succ hp hq
    refine ⟨fun hbridge => ?_, fun hbridge hnext => ?_, fun limit dwell hbridge hnext hclass hcorner => ?_⟩
    · rw [hboundary, if_pos hbridge]
    · rw [hboundary, hbridge, if_neg Bool.false_ne_true, if_pos hnext]
    · have hnot : ¬ (1 < c.passes ∧ (j + 1 = firstBody c.segs ∨ j + 1 = firstBody c.segs + bodyCount c.segs)) := by
        rintro ⟨hpasses, hjunction⟩
        rcases hclass with hone | ⟨horder, hrole⟩
        · omega
        · exact not_junction horder hp hq hrole hjunction
      rw [hboundary, hbridge, hnext, if_neg Bool.false_ne_true, if_neg Bool.false_ne_true, if_neg hnot, cornerTerm_eq hcorner]
      rfl
  · rintro leadIns body leadOuts before first last behind u1 d1 u2 d2 u3 d3 dwell cap hwhole horder hpasses hin hbody hout hbefore
      hfirst hlast hbehind h1 h2 h3 rfl rfl
    have hparts : Parts c.segs leadIns body leadOuts := ⟨hwhole, hin, hbody, hout⟩
    obtain ⟨hstart, hend⟩ := boundary_junction horder hpasses hparts hbefore hfirst hlast hbehind
    rw [hstart, hend, junction_eq hparts hbefore hfirst hlast hbehind h1 h2 h3]
    exact ⟨rfl, rfl⟩

end Sys2Proof.Proofs

/-! PROOFS. The plan words of a job between its planned boundaries: the descent repair, a STOP's chain, and an index range
(R77 to R81, R89, R90). -/

namespace Sys2Proof.Proofs

open Sys2Proof Sys2Proof.Machine

variable {c : PlanInput} {fixed : Option FixedPoint} {k i : Nat} {q : Planned}

/-! ### Words between planned boundaries -/

theorem chainWords_getElem? {is : List Nat} {ps : List Planned} {x : Nat × PlanWord} :
    (chainWords c is ps)[k]? = some x ↔ ∃ i s t, is[k]? = some i ∧ ps[k]? = some s ∧ ps[k + 1]? = some t
      ∧ x = (i, planWord c i s t) := by
  induction is generalizing ps k with
  | nil => simp [chainWords]
  | cons i is ih =>
    match ps with
    | [] => simp [chainWords]
    | [s] => simp [chainWords]
    | s :: t :: rest =>
      rw [chainWords]
      cases k with
      | zero => simp [eq_comm]
      | succ k => simpa using ih (ps := t :: rest) (k := k)

theorem chainWords_indices {is : List Nat} {ps : List Planned} (h : ps.length = is.length + 1) :
    (chainWords c is ps).map Prod.fst = is := by
  induction is generalizing ps with
  | nil => cases ps <;> rfl
  | cons i is ih =>
    match ps with
    | [] => simp at h
    | [s] => simp at h
    | s :: t :: rest => rw [chainWords, List.map_cons, ih (by simpa using h)]

/-- The words of an index range are those of the chain of its indices. -/
theorem rangeWords_eq (lo : Nat) (ps : List Planned) : rangeWords c lo ps = chainWords c (List.range' lo (ps.length - 1)) ps := by
  induction ps generalizing lo with
  | nil => rfl
  | cons s ps ih =>
    cases ps with
    | nil => rfl
    | cons t rest =>
      rw [rangeWords, ih (lo + 1)]
      rfl

/-! ### The descent repair -/

theorem repair_getElem? {value : Nat} {speeds dists : List Nat} {x : Nat × Bool} :
    (repair value speeds dists)[k]? = some x ↔ ∃ b d, speeds[k]? = some b ∧ dists[k]? = some d
      ∧ x = (max b (value - d), decide (b < value - d)) := by
  have helement : ∀ b d : Nat, (if b < value - d then (value - d, true) else (b, false)) = (max b (value - d), decide (b < value - d)) := by
    intro b d
    split
    · next h => rw [decide_eq_true h, max_eq_right (Nat.le_of_lt h)]
    · next h => rw [decide_eq_false h, max_eq_left (by omega)]
  simp only [repair, List.getElem?_map, Option.map_eq_some_iff, List.getElem?_zip_eq_some, Prod.exists, helement]
  constructor
  · rintro ⟨b, d, ⟨hb, hd⟩, rfl⟩
    exact ⟨b, d, hb, hd, rfl⟩
  · rintro ⟨b, d, hb, hd, rfl⟩
    exact ⟨b, d, ⟨hb, hd⟩, rfl⟩

/-! ### The chain of a STOP -/

theorem runningSums_getElem? (s : Nat) (xs : List Nat) (hk : k ≤ xs.length) :
    (runningSums s xs)[k]? = some (s + (xs.take k).sum) := by
  induction xs generalizing s k with
  | nil =>
    obtain rfl := Nat.le_zero.1 hk
    rfl
  | cons x xs ih =>
    cases k with
    | zero => rfl
    | succ k =>
      rw [runningSums, List.getElem?_cons_succ, ih (s + x) (by simpa using hk), List.take_succ_cons, List.sum_cons, Nat.add_assoc]

theorem chainLimits_eq {chain : List Nat} (h : chain ≠ []) :
    chainLimits c chain = (chain.dropLast.map fun i => (boundary c (i + 1)).limit) ++ [0] := by
  induction chain with
  | nil => exact absurd rfl h
  | cons i is ih =>
    cases is with
    | nil => rfl
    | cons j is =>
      rw [chainLimits, ih (List.cons_ne_nil _ _)]
      · rfl
      · simp

/-- The increments of a chain of segments. -/
def chainIncs (c : PlanInput) (chain : List Nat) : List Nat := chain.map (incrementAt c)

/-- The planned boundaries of a STOP's chain (R89). -/
def stopPlanned (c : PlanInput) (value : Nat) (chain : List Nat) : List Planned :=
  ((repair value ((profile (value :: chainLimits c chain) (chainIncs c chain)).set 0 value) (runningSums 0 (chainIncs c chain))).zip
    ((boundary c (chain.headD 0)).limit :: chainLimits c chain)).map fun ((b, up), u) => ⟨b, up, u⟩

theorem stopJobWords_eq (value : Nat) (chain : List Nat) :
    stopJobWords c value chain = chainWords c chain (stopPlanned c value chain) := by
  cases chain with
  | nil => rfl
  | cons i is => rfl

theorem chainLimits_length (chain : List Nat) : (chainLimits c chain).length = chain.length := by
  by_cases h : chain = []
  · rw [h]
    rfl
  · have := List.length_pos_iff.2 h
    rw [chainLimits_eq h]
    simp
    omega

theorem chainIncs_length (chain : List Nat) : (chainIncs c chain).length = chain.length := List.length_map ..

theorem stopProfile_length (value : Nat) (chain : List Nat) :
    (profile (value :: chainLimits c chain) (chainIncs c chain)).length = chain.length + 1 := by
  rw [profile_length (by rw [List.length_cons, chainLimits_length, chainIncs_length]), List.length_cons, chainLimits_length]

theorem runningSums_length (s : Nat) (xs : List Nat) : (runningSums s xs).length = xs.length + 1 := by
  induction xs generalizing s with
  | nil => rfl
  | cons x xs ih => rw [runningSums, List.length_cons, ih, List.length_cons]

theorem stopPlanned_length (value : Nat) (chain : List Nat) : (stopPlanned c value chain).length = chain.length + 1 := by
  rw [stopPlanned, List.length_map, List.length_zip, repair, List.length_map, List.length_zip, List.length_set,
    stopProfile_length, runningSums_length, chainIncs_length, List.length_cons, chainLimits_length]
  omega

theorem sum_take_eq_between (incs : List Nat) (k : Nat) : (incs.take k).sum = between incs 0 k := by
  have := between_of_le (incs := incs) (Nat.zero_le k)
  simpa using this.symm

/-- A planned boundary of a STOP's chain: the highest speed, or the descent from the fixed value (R79, R81). -/
theorem stopPlanned_getElem? {value : Nat} {chain : List Nat} (h : (stopPlanned c value chain)[k]? = some q) :
    (∃ low, highestAt (value :: chainLimits c chain) (chainIncs c chain) k low
        ∧ q.speed = max low (value - between (chainIncs c chain) 0 k))
      ∧ ((boundary c (chain.headD 0)).limit :: chainLimits c chain)[k]? = some q.limit := by
  have hlt : k < chain.length + 1 := by
    rw [← stopPlanned_length value chain]
    exact (List.getElem?_eq_some_iff.1 h).1
  simp only [stopPlanned, List.getElem?_map, Option.map_eq_some_iff, List.getElem?_zip_eq_some, Prod.exists] at h
  obtain ⟨b, up, u, ⟨hrepaired, hu⟩, rfl⟩ := h
  refine ⟨?_, hu⟩
  obtain ⟨v, d, hv, hd, hb⟩ := repair_getElem?.1 hrepaired
  obtain ⟨rfl, rfl⟩ := Prod.mk.inj hb
  rw [runningSums_getElem? _ _ (by rw [chainIncs_length]; omega), Nat.zero_add, sum_take_eq_between] at hd
  obtain rfl := Option.some.inj hd
  have hlen : (value :: chainLimits c chain).length = (chainIncs c chain).length + 1 := by
    rw [List.length_cons, chainLimits_length, chainIncs_length]
  obtain ⟨low, hlow, hhighest⟩ := profile_getElem? (k := k) hlen (by rw [List.length_cons, chainLimits_length]; exact hlt)
  refine ⟨low, hhighest, ?_⟩
  rw [List.getElem?_set] at hv
  split at hv
  · next hzero =>
    subst hzero
    have hvalue : low ≤ value := highestAt_le_limit hhighest rfl
    rw [stopProfile_length, if_pos (Nat.succ_pos _)] at hv
    obtain rfl := Option.some.inj hv
    rw [between_self, Nat.sub_zero, max_self, max_eq_right hvalue]
  · rw [hlow] at hv
    rw [Option.some.inj hv]

/-- The first planned boundary of a STOP's chain has the fixed value. -/
theorem stopPlanned_first {value : Nat} {chain : List Nat} (h : (stopPlanned c value chain)[0]? = some q) : q.speed = value := by
  obtain ⟨⟨low, hlow, hspeed⟩, -⟩ := stopPlanned_getElem? h
  have hvalue : low ≤ value := highestAt_le_limit hlow rfl
  rw [between_self] at hspeed
  omega

/-! ### An index range -/

/-- Whether a job's range goes on past the wrap of the body (R77). -/
def wraps (c : PlanInput) (fixed : Option FixedPoint) : Bool := openWrapAt c.passes (fixed.map FixedPoint.cursor)

/-- The fixed boundary of a job; 0 where it has none (R98). -/
def fixedBoundary (c : PlanInput) (fixed : Option FixedPoint) : Nat :=
  (fixed.map fun p => fixedIndex c.segs.length p.cursor).getD 0

/-- The fixed value of a job; 0 where it has none. -/
def fixedValue (fixed : Option FixedPoint) : Nat := (fixed.map FixedPoint.value).getD 0

/-- Where the body begins and where it ends, as boundaries (R72). -/
def bodyStart (c : PlanInput) : Nat := firstBody c.segs

def bodyEnd (c : PlanInput) : Nat := firstBody c.segs + bodyCount c.segs

/-- Whether boundary `j` is fixed: it is the fixed boundary, or with it the other side of the junction (R80, R90). -/
def heldFixed (c : PlanInput) (fixed : Option FixedPoint) (j : Nat) : Bool :=
  fixed.isSome && (j == fixedBoundary c fixed
    || (wraps c fixed && fixedBoundary c fixed == bodyStart c && j == bodyEnd c))

/-- The lowest boundary of a job's range (R77). -/
def lowest (c : PlanInput) (fixed : Option FixedPoint) : Nat :=
  if wraps c fixed then min (fixedBoundary c fixed) (bodyStart c) else fixedBoundary c fixed

/-- The boundaries of a job's range. -/
def rangeBoundaries (c : PlanInput) (fixed : Option FixedPoint) : List Nat :=
  (List.range (c.segs.length + 1)).drop (lowest c fixed)

def rangeIncs (c : PlanInput) (fixed : Option FixedPoint) : List Nat :=
  (c.segs.drop (lowest c fixed)).map (increment c.inputs.material)

def rangeLimits (c : PlanInput) (fixed : Option FixedPoint) : List Nat :=
  (rangeBoundaries c fixed).map fun j => if heldFixed c fixed j then fixedValue fixed else (boundary c j).limit

/-- The lower speed of the two sides of the junction, of the profile before they are joined (R80). -/
def joinedSpeed (c : PlanInput) (fixed : Option FixedPoint) : Nat :=
  min ((profile (rangeLimits c fixed) (rangeIncs c fixed)).getD (bodyStart c - lowest c fixed) 0)
    ((profile (rangeLimits c fixed) (rangeIncs c fixed)).getD (bodyEnd c - lowest c fixed) 0)

/-- The speeds of a job's range before the fixed boundaries are set and the descent is repaired. -/
def rangeSpeeds (c : PlanInput) (fixed : Option FixedPoint) : List Nat :=
  if wraps c fixed then
    profile ((rangeBoundaries c fixed).zip (rangeLimits c fixed) |>.map fun (j, l) =>
      if j = bodyStart c ∨ j = bodyEnd c then joinedSpeed c fixed else l) (rangeIncs c fixed)
  else profile (rangeLimits c fixed) (rangeIncs c fixed)

/-- The distance of boundary `j` from the fixed boundary (R81). -/
def rangeDist (c : PlanInput) (fixed : Option FixedPoint) (j : Nat) : Nat :=
  rangeDistance (fun j => ((c.segs.take j).map (increment c.inputs.material)).sum) (wraps c fixed) (bodyStart c) (bodyEnd c)
    (fixedBoundary c fixed) j

/-- The speeds of a job's range with the fixed boundaries set. -/
def heldSpeeds (c : PlanInput) (fixed : Option FixedPoint) : List Nat :=
  (rangeBoundaries c fixed).zip (rangeSpeeds c fixed) |>.map fun (j, b) => if heldFixed c fixed j then fixedValue fixed else b

/-- The planned boundaries of a job's range. -/
def rangePlanned (c : PlanInput) (fixed : Option FixedPoint) : List Planned :=
  (rangeBoundaries c fixed).zip
    (if fixed.isSome then repair (fixedValue fixed) (heldSpeeds c fixed) ((rangeBoundaries c fixed).map (rangeDist c fixed))
      else (heldSpeeds c fixed).map fun b => (b, false)) |>.map fun (j, b, up) => (⟨b, up, (boundary c j).limit⟩ : Planned)

theorem rangeJobWords_eq (c : PlanInput) (fixed : Option FixedPoint) :
    rangeJobWords c fixed = rangeWords c (lowest c fixed) (rangePlanned c fixed) := rfl

theorem rangeBoundaries_getElem? {j : Nat} :
    (rangeBoundaries c fixed)[k]? = some j ↔ j = lowest c fixed + k ∧ j ≤ c.segs.length := by
  rw [rangeBoundaries, List.getElem?_drop, List.getElem?_eq_some_iff]
  simp only [List.length_range, List.getElem_range]
  exact ⟨fun ⟨hlt, h⟩ => ⟨h.symm, by omega⟩, fun ⟨h, hle⟩ => ⟨by omega, h.symm⟩⟩

theorem bodyEnd_le (c : PlanInput) : bodyEnd c ≤ c.segs.length := by
  have hbefore : (c.segs.take (firstBody c.segs)).countP (fun r => segRole r == .body) = 0 := by
    refine List.countP_eq_zero.2 fun r hr => ?_
    obtain ⟨i, hi, rfl⟩ := List.mem_take_iff_getElem.1 hr
    have hlt : i < c.segs.findIdx (fun r => segRole r == .body) := lt_of_lt_of_le hi (min_le_left _ _)
    exact Bool.eq_false_iff.1 (List.not_of_lt_findIdx hlt)
  have hcount : bodyCount c.segs = (c.segs.drop (firstBody c.segs)).countP (fun r => segRole r == .body) := by
    conv_lhs => rw [bodyCount, ← List.take_append_drop (firstBody c.segs) c.segs, List.countP_append, hbefore]
    exact Nat.zero_add _
  have hle := List.countP_le_length (p := fun r => segRole r == .body) (l := c.segs.drop (firstBody c.segs))
  have hfirst : firstBody c.segs ≤ c.segs.length := List.findIdx_le_length
  rw [List.length_drop, ← hcount] at hle
  rw [bodyEnd]
  omega

theorem lowest_le (h : wraps c fixed = true) : lowest c fixed ≤ bodyStart c := by
  rw [lowest, if_pos h]
  exact min_le_right _ _

theorem bodyStart_le_bodyEnd (c : PlanInput) : bodyStart c ≤ bodyEnd c := Nat.le_add_right _ _

theorem rangeLimits_getElem? {u : Nat} : (rangeLimits c fixed)[k]? = some u ↔ lowest c fixed + k ≤ c.segs.length
    ∧ u = if heldFixed c fixed (lowest c fixed + k) then fixedValue fixed else (boundary c (lowest c fixed + k)).limit := by
  simp only [rangeLimits, List.getElem?_map, Option.map_eq_some_iff, rangeBoundaries_getElem?]
  constructor
  · rintro ⟨j, ⟨rfl, hj⟩, rfl⟩
    exact ⟨hj, rfl⟩
  · rintro ⟨hj, rfl⟩
    exact ⟨_, ⟨rfl, hj⟩, rfl⟩

theorem rangeLimits_length : (rangeLimits c fixed).length = c.segs.length + 1 - lowest c fixed := by
  simp [rangeLimits, rangeBoundaries]

theorem rangeIncs_getElem? (h : lowest c fixed + k < c.segs.length) :
    (rangeIncs c fixed)[k]? = some (incrementAt c (lowest c fixed + k)) := by
  rw [rangeIncs, List.getElem?_map, List.getElem?_drop, incrementAt, List.getD_eq_getElem?_getD, List.getElem?_eq_getElem h]
  rfl

theorem rangeIncs_length : (rangeIncs c fixed).length = c.segs.length - lowest c fixed := by
  simp [rangeIncs]

theorem range_lengths (h : lowest c fixed ≤ c.segs.length) : (rangeLimits c fixed).length = (rangeIncs c fixed).length + 1 := by
  rw [rangeLimits_length, rangeIncs_length]
  omega

/-- The limits of a job's range, the junction joined where the range goes past the wrap (R80). -/
def rangeEnds (c : PlanInput) (fixed : Option FixedPoint) : List Nat :=
  if wraps c fixed then
    joinedLimits (rangeLimits c fixed) (bodyStart c - lowest c fixed) (bodyEnd c - lowest c fixed) (joinedSpeed c fixed)
  else rangeLimits c fixed

theorem rangeEnds_length : (rangeEnds c fixed).length = (rangeLimits c fixed).length := by
  rw [rangeEnds]
  split
  · rw [joinedLimits, List.length_set, List.length_set]
  · rfl

/-- The speeds of a job's range are the highest within its limits. -/
theorem rangeSpeeds_eq : rangeSpeeds c fixed = profile (rangeEnds c fixed) (rangeIncs c fixed) := by
  rw [rangeSpeeds, rangeEnds]
  split
  · next hwrap =>
    congr 1
    have hlow := lowest_le hwrap
    have hbody := bodyStart_le_bodyEnd c
    refine List.ext_getElem? fun k => ?_
    by_cases hk : lowest c fixed + k ≤ c.segs.length
    · have hboundary : (rangeBoundaries c fixed)[k]? = some (lowest c fixed + k) := rangeBoundaries_getElem?.2 ⟨rfl, hk⟩
      have hlimit := rangeLimits_getElem?.2 ⟨hk, rfl⟩
      have hzip := (List.getElem?_zip_eq_some (z := (_, _))).2 ⟨hboundary, hlimit⟩
      rw [List.getElem?_map, hzip]
      by_cases hjunction : k = bodyStart c - lowest c fixed ∨ k = bodyEnd c - lowest c fixed
      · have hlt : k < (rangeLimits c fixed).length := by
          rw [rangeLimits_length]
          omega
        rw [joinedLimits_self hlt hjunction]
        exact congrArg some (if_pos (by omega))
      · obtain ⟨ha, hz⟩ := not_or.1 hjunction
        rw [joinedLimits_other ha hz, hlimit]
        exact congrArg some (if_neg (by omega))
    · have hlen : (rangeLimits c fixed).length ≤ k := by
        rw [rangeLimits_length]
        omega
      rw [List.getElem?_eq_none (by simp; omega), List.getElem?_eq_none (by rw [joinedLimits]; simpa using hlen)]
  · rfl

/-- The first profile of a job's range. -/
theorem firstProfile_getElem? (h : lowest c fixed + k ≤ c.segs.length) :
    ∃ b, (profile (rangeLimits c fixed) (rangeIncs c fixed))[k]? = some b ∧ highestAt (rangeLimits c fixed) (rangeIncs c fixed) k b :=
  profile_getElem? (range_lengths (by omega)) (by rw [rangeLimits_length]; omega)

/-- The speed at which the two sides of the junction are joined (R80). -/
theorem joinedSpeed_eq {x y : Nat} (hwrap : wraps c fixed = true)
    (hx : highestAt (rangeLimits c fixed) (rangeIncs c fixed) (bodyStart c - lowest c fixed) x)
    (hy : highestAt (rangeLimits c fixed) (rangeIncs c fixed) (bodyEnd c - lowest c fixed) y) : joinedSpeed c fixed = min x y := by
  have hlow := lowest_le hwrap
  have hbody := bodyStart_le_bodyEnd c
  have hend := bodyEnd_le c
  obtain ⟨x', hx', hhx⟩ := firstProfile_getElem? (c := c) (fixed := fixed) (k := bodyStart c - lowest c fixed) (by omega)
  obtain ⟨y', hy', hhy⟩ := firstProfile_getElem? (c := c) (fixed := fixed) (k := bodyEnd c - lowest c fixed) (by omega)
  rw [joinedSpeed, List.getD_eq_getElem?_getD, List.getD_eq_getElem?_getD, hx', hy', highestAt_unique hx hhx, highestAt_unique hy hhy]
  rfl

/-- A range that goes past the wrap has one speed at both sides of the junction (R80). -/
theorem joinedSpeed_highest (hwrap : wraps c fixed = true)
    (hk : k = bodyStart c - lowest c fixed ∨ k = bodyEnd c - lowest c fixed) :
    highestAt (rangeEnds c fixed) (rangeIncs c fixed) k (joinedSpeed c fixed) := by
  have hlow := lowest_le hwrap
  have hbody := bodyStart_le_bodyEnd c
  have hend := bodyEnd_le c
  obtain ⟨x, -, hx⟩ := firstProfile_getElem? (c := c) (fixed := fixed) (k := bodyStart c - lowest c fixed) (by omega)
  obtain ⟨y, -, hy⟩ := firstProfile_getElem? (c := c) (fixed := fixed) (k := bodyEnd c - lowest c fixed) (by omega)
  rw [rangeEnds, if_pos hwrap, joinedSpeed_eq hwrap hx hy]
  exact highestAt_joined (by rw [rangeLimits_length]; omega) (by rw [rangeLimits_length]; omega) hx hy hk

/-- A speed of a job's range is within the limit of its boundary. -/
theorem rangeSpeed_le {u b : Nat} (hu : (rangeLimits c fixed)[k]? = some u)
    (hb : highestAt (rangeEnds c fixed) (rangeIncs c fixed) k b) : b ≤ u := by
  cases hwrap : wraps c fixed with
  | false =>
    rw [rangeEnds, hwrap, if_neg Bool.false_ne_true] at hb
    exact highestAt_le_limit hb hu
  | true =>
    by_cases hjunction : k = bodyStart c - lowest c fixed ∨ k = bodyEnd c - lowest c fixed
    · rw [highestAt_unique hb (joinedSpeed_highest hwrap hjunction)]
      have hlow := lowest_le hwrap
      have hbody := bodyStart_le_bodyEnd c
      have hend := bodyEnd_le c
      obtain ⟨x, -, hx⟩ := firstProfile_getElem? (c := c) (fixed := fixed) (k := bodyStart c - lowest c fixed) (by omega)
      obtain ⟨y, -, hy⟩ := firstProfile_getElem? (c := c) (fixed := fixed) (k := bodyEnd c - lowest c fixed) (by omega)
      rw [joinedSpeed_eq hwrap hx hy]
      rcases hjunction with rfl | rfl
      · exact (min_le_left _ _).trans (highestAt_le_limit hx hu)
      · exact (min_le_right _ _).trans (highestAt_le_limit hy hu)
    · obtain ⟨ha, hz⟩ := not_or.1 hjunction
      rw [rangeEnds, if_pos hwrap] at hb
      exact highestAt_le_limit hb (by rw [joinedLimits_other ha hz]; exact hu)

/-! ### Distances along a range -/

/-- The way from the contour's start to a boundary, in increments. -/
def sumTo (c : PlanInput) (j : Nat) : Nat := ((c.segs.take j).map (increment c.inputs.material)).sum

/-- The distance of two boundaries along the contour, in increments. -/
def apart (c : PlanInput) (x y : Nat) : Nat := max (sumTo c x) (sumTo c y) - min (sumTo c x) (sumTo c y)

theorem apart_self (c : PlanInput) (x : Nat) : apart c x x = 0 := by
  rw [apart, max_self, min_self, Nat.sub_self]

theorem apart_comm (c : PlanInput) (x y : Nat) : apart c x y = apart c y x := by
  rw [apart, apart, max_comm, min_comm]

theorem sumTo_succ {j : Nat} (h : j < c.segs.length) : sumTo c (j + 1) = sumTo c j + incrementAt c j := by
  rw [sumTo, sumTo, List.take_add_one, List.map_append, List.sum_append, List.getElem?_eq_getElem h, incrementAt,
    List.getD_eq_getElem?_getD, List.getElem?_eq_getElem h]
  simp

theorem apart_step {j : Nat} (h : j < c.segs.length) (x : Nat) :
    apart c x j ≤ apart c x (j + 1) + incrementAt c j ∧ apart c x (j + 1) ≤ apart c x j + incrementAt c j := by
  rw [apart, apart, sumTo_succ h]
  omega

/-- The distance from the fixed boundary: straight, or through the junction of a body that wraps (R81). -/
theorem rangeDist_eq (c : PlanInput) (fixed : Option FixedPoint) (j : Nat) : rangeDist c fixed j =
    if wraps c fixed then
      min (apart c (fixedBoundary c fixed) j)
        (min (apart c (fixedBoundary c fixed) (bodyStart c)) (apart c (fixedBoundary c fixed) (bodyEnd c))
          + min (apart c (bodyStart c) j) (apart c (bodyEnd c) j))
    else apart c (fixedBoundary c fixed) j := by
  rw [apart_comm c (bodyStart c) j, apart_comm c (bodyEnd c) j]
  rfl

theorem rangeDist_fixed {j : Nat} (h : heldFixed c fixed j = true) : rangeDist c fixed j = 0 := by
  rw [heldFixed, Bool.and_eq_true, Bool.or_eq_true, Bool.and_eq_true, Bool.and_eq_true, beq_iff_eq, beq_iff_eq, beq_iff_eq] at h
  rw [rangeDist_eq]
  rcases h.2 with rfl | ⟨⟨hwrap, hstart⟩, rfl⟩
  · rw [apart_self, Nat.zero_min, ite_self]
  · rw [if_pos hwrap, hstart, apart_self, apart_self]
    simp

/-- One segment's increment brings a boundary at most that much nearer or further (R81). -/
theorem rangeDist_step {j : Nat} (h : j < c.segs.length) : rangeDist c fixed j ≤ rangeDist c fixed (j + 1) + incrementAt c j
    ∧ rangeDist c fixed (j + 1) ≤ rangeDist c fixed j + incrementAt c j := by
  have hfixed := apart_step h (fixedBoundary c fixed)
  have hstart := apart_step h (bodyStart c)
  have hend := apart_step h (bodyEnd c)
  rw [rangeDist_eq, rangeDist_eq]
  split
  · omega
  · exact hfixed

/-! ### The planned boundaries of an index range -/

/-- The speed a job plans for a boundary of its range, from its highest speed `b` (R79, R81). -/
def plannedSpeed (c : PlanInput) (fixed : Option FixedPoint) (j b : Nat) : Nat :=
  if fixed.isSome then max b (fixedValue fixed - rangeDist c fixed j) else b

/-- A planned boundary of an index range: its highest speed or the descent from the fixed value, raised only above the
highest speed, and its own limit (R79, R81, R85). -/
structure PlannedAt (c : PlanInput) (fixed : Option FixedPoint) (k : Nat) (q : Planned) (b : Nat) : Prop where
  inRange : lowest c fixed + k ≤ c.segs.length
  highest : highestAt (rangeEnds c fixed) (rangeIncs c fixed) k b
  speed : q.speed = plannedSpeed c fixed (lowest c fixed + k) b
  raised : q.raised = true → b < q.speed
  limit : q.limit = (boundary c (lowest c fixed + k)).limit

theorem heldSpeed_le {b : Nat} (hk : lowest c fixed + k ≤ c.segs.length)
    (hb : highestAt (rangeEnds c fixed) (rangeIncs c fixed) k b) (hheld : heldFixed c fixed (lowest c fixed + k) = true) :
    b ≤ fixedValue fixed := by
  have hle := rangeSpeed_le (rangeLimits_getElem?.2 ⟨hk, rfl⟩) hb
  rwa [if_pos hheld] at hle

theorem rangePlanned_getElem? (h : (rangePlanned c fixed)[k]? = some q) : ∃ b, PlannedAt c fixed k q b := by
  simp only [rangePlanned, List.getElem?_map, Option.map_eq_some_iff, List.getElem?_zip_eq_some, Prod.exists] at h
  obtain ⟨j, v, up, ⟨hj, hv⟩, rfl⟩ := h
  obtain ⟨rfl, hk⟩ := rangeBoundaries_getElem?.1 hj
  have hlen := range_lengths (c := c) (fixed := fixed) (by omega)
  obtain ⟨b, hb, hhighest⟩ := profile_getElem? (limits := rangeEnds c fixed) (incs := rangeIncs c fixed) (k := k)
    (by rw [rangeEnds_length, hlen]) (by rw [rangeEnds_length, rangeLimits_length]; omega)
  have hle := fun hheld => heldSpeed_le hk hhighest hheld
  have hheldSpeed : (heldSpeeds c fixed)[k]?
      = some (if heldFixed c fixed (lowest c fixed + k) then fixedValue fixed else b) := by
    rw [heldSpeeds, List.getElem?_map, (List.getElem?_zip_eq_some (z := (_, _))).2 ⟨hj, by rw [rangeSpeeds_eq]; exact hb⟩]
    rfl
  have hspeeds : v = plannedSpeed c fixed (lowest c fixed + k) b ∧ (up = true → b < v) := by
    cases hsome : fixed.isSome with
    | false =>
      have hnot : heldFixed c fixed (lowest c fixed + k) = false := by rw [heldFixed, hsome, Bool.false_and]
      rw [hsome, if_neg Bool.false_ne_true, List.getElem?_map, hheldSpeed, hnot] at hv
      obtain ⟨hv, hup⟩ := Prod.mk.inj (Option.some.inj hv)
      rw [plannedSpeed, hsome, ← hv, ← hup]
      exact ⟨rfl, fun h => (Bool.false_ne_true h).elim⟩
    | true =>
      rw [hsome, if_pos rfl] at hv
      obtain ⟨x, d, hx, hd, hpair⟩ := repair_getElem?.1 hv
      rw [List.getElem?_map, hj] at hd
      rw [hheldSpeed] at hx
      obtain rfl : rangeDist c fixed (lowest c fixed + k) = d := Option.some.inj hd
      obtain ⟨rfl, rfl⟩ := Prod.mk.inj hpair
      rw [← Option.some.inj hx, plannedSpeed, hsome, if_pos rfl]
      cases hheld : heldFixed c fixed (lowest c fixed + k) with
      | false => 
        refine ⟨rfl, fun hraised => ?_⟩
        have hraised' := of_decide_eq_true hraised
        exact lt_of_lt_of_le hraised' (le_max_right _ _)
      | true =>
        have hle := hle hheld
        rw [rangeDist_fixed hheld, Nat.sub_zero]
        simp [hle]
  exact ⟨b, hk, hhighest, hspeeds.1, hspeeds.2, rfl⟩

theorem rangePlanned_length : (rangePlanned c fixed).length = c.segs.length + 1 - lowest c fixed := by
  have hboundaries : (rangeBoundaries c fixed).length = c.segs.length + 1 - lowest c fixed := by simp [rangeBoundaries]
  have hheld : (heldSpeeds c fixed).length = (rangeBoundaries c fixed).length := by
    rw [heldSpeeds, List.length_map, List.length_zip]
    by_cases hlow : lowest c fixed ≤ c.segs.length
    · rw [rangeSpeeds_eq, profile_length (by rw [rangeEnds_length, range_lengths hlow]), rangeEnds_length, rangeLimits_length,
        hboundaries, min_self]
    · rw [hboundaries]
      omega
  rw [rangePlanned, List.length_map, List.length_zip]
  split
  · rw [repair, List.length_map, List.length_zip, List.length_map, hheld, hboundaries]
    omega
  · rw [List.length_map, hheld, hboundaries, min_self]

/-- The words of an index range, and the planned boundaries between which they stand. -/
theorem rangeJobWords_getElem? {x : Nat × PlanWord} (h : (rangeJobWords c fixed)[k]? = some x) :
    lowest c fixed + k < c.segs.length ∧ ∃ s t b b', (rangePlanned c fixed)[k]? = some s ∧ (rangePlanned c fixed)[k + 1]? = some t
      ∧ PlannedAt c fixed k s b ∧ PlannedAt c fixed (k + 1) t b'
      ∧ x = (lowest c fixed + k, planWord c (lowest c fixed + k) s t) := by
  rw [rangeJobWords_eq, rangeWords_eq] at h
  obtain ⟨i, s, t, hi, hs, ht, rfl⟩ := chainWords_getElem?.1 h
  obtain ⟨b, hb⟩ := rangePlanned_getElem? hs
  obtain ⟨b', hb'⟩ := rangePlanned_getElem? ht
  have hlt : k < (rangePlanned c fixed).length - 1 := by
    have := (List.getElem?_eq_some_iff.1 ht).1
    omega
  rw [List.getElem?_range' hlt, Nat.one_mul] at hi
  obtain rfl := Option.some.inj hi
  exact ⟨hb'.inRange, s, t, b, b', hs, ht, hb, hb', rfl⟩

theorem rangeJobWords_indices : (rangeJobWords c fixed).map Prod.fst
    = List.range' (lowest c fixed) (c.segs.length - lowest c fixed) := by
  rw [rangeJobWords_eq, rangeWords_eq, rangePlanned_length]
  by_cases hlow : lowest c fixed ≤ c.segs.length
  · rw [show c.segs.length + 1 - lowest c fixed - 1 = c.segs.length - lowest c fixed by omega]
    exact chainWords_indices (by rw [rangePlanned_length, List.length_range']; omega)
  · rw [show c.segs.length + 1 - lowest c fixed - 1 = 0 by omega, show c.segs.length - lowest c fixed = 0 by omega]
    rfl

/-- Neighbours of an index range differ by at most the increment between them (R84). -/
theorem plannedAt_step {s t : Planned} {b b' : Nat} (hs : PlannedAt c fixed k s b) (ht : PlannedAt c fixed (k + 1) t b') :
    s.speed ≤ t.speed + incrementAt c (lowest c fixed + k) ∧ t.speed ≤ s.speed + incrementAt c (lowest c fixed + k) := by
  have hlt : lowest c fixed + k < c.segs.length := ht.inRange
  have hbetween := between_step (rangeIncs_getElem? (fixed := fixed) hlt)
  have hup := highestAt_le_add hs.highest ht.highest
  have hdown := highestAt_le_add ht.highest hs.highest
  have hdist := rangeDist_step (fixed := fixed) hlt
  rw [between_comm] at hdown
  rw [hbetween] at hup hdown
  rw [hs.speed, ht.speed, plannedSpeed, plannedSpeed, ← Nat.add_assoc]
  split
  · omega
  · omega

end Sys2Proof.Proofs

/-! PROOFS. The words of every job: end speeds, peaks, dwells and flags (R82 to R86, R90). -/

namespace Sys2Proof.Proofs

open Sys2Proof Sys2Proof.Machine

variable {c : PlanInput} {fixed : Option FixedPoint} {job : Job} {k i : Nat} {s t : Planned} {w : PlanWord} {m : Material}
  {p q : SegRecord}

/-! ### One word -/

theorem planWord_bridge (h : isBridge (c.segs.getD i blankRecord) = true) (s t : Planned) :
    planWord c i s t = ⟨0, 0, min 65535 c.inputs.traverse, false, dwellReq (c.segs.getD i blankRecord)⟩ := by
  rw [planWord]
  dsimp only
  rw [if_pos h, dwell_getD]

/-- The ceiling of segment `i` of a contour (R70). -/
def ceilingAt (c : PlanInput) (i : Nat) : Nat := ceiling c.inputs.material (contourSpeed c) (c.segs.getD i blankRecord)

theorem planWord_cut (h : isBridge (c.segs.getD i blankRecord) = false) (s t : Planned) :
    planWord c i s t = ⟨s.speed, t.speed, peakSpeed s.speed t.speed (incrementAt c i) (ceilingAt c i),
      decide (s.limit < s.speed) || decide (t.limit < t.speed)
        || decide (ceilingAt c i < peakSpeed s.speed t.speed (incrementAt c i) (ceilingAt c i)) || s.raised || t.raised,
      (boundary c (i + 1)).dwell⟩ := by
  rw [planWord]
  dsimp only
  rw [h, if_neg Bool.false_ne_true]
  rfl

/-- What an unflagged word of a cutting segment keeps (R85). -/
theorem unflagged_within (h : isBridge (c.segs.getD i blankRecord) = false) (hw : (planWord c i s t).overspeed = false) :
    s.speed ≤ s.limit ∧ t.speed ≤ t.limit ∧ peakSpeed s.speed t.speed (incrementAt c i) (ceilingAt c i) ≤ ceilingAt c i := by
  rw [planWord_cut h] at hw
  simp only [Bool.or_eq_false_iff, decide_eq_false_iff_not, not_lt] at hw
  obtain ⟨⟨⟨⟨hs, ht⟩, hpeak⟩, -⟩, -⟩ := hw
  exact ⟨hs, ht, hpeak⟩

/-- A word between two boundaries within their limits, and within the segment's ceiling, is not flagged (R85). -/
theorem unflagged_of_within (hs : s.speed ≤ s.limit) (ht : t.speed ≤ t.limit) (hsraised : s.raised = false)
    (htraised : t.raised = false) (hceil : isBridge (c.segs.getD i blankRecord) = false →
      s.speed ≤ ceilingAt c i ∧ t.speed ≤ ceilingAt c i) : (planWord c i s t).overspeed = false := by
  cases h : isBridge (c.segs.getD i blankRecord) with
  | true => rw [planWord_bridge h]
  | false =>
    have hpeak : peakSpeed s.speed t.speed (incrementAt c i) (ceilingAt c i) ≤ ceilingAt c i := by
      obtain ⟨hs, ht⟩ := hceil h
      rw [peakSpeed]
      omega
    rw [planWord_cut h, hsraised, htraised, decide_eq_false (by omega), decide_eq_false (by omega), decide_eq_false (by omega)]
    rfl

/-! ### The words of a chain of planned boundaries -/

/-- Planned boundaries whose neighbours differ by at most the increment between them, and whose limits are those of the
contour or below (R84). -/
structure Ramps (c : PlanInput) (is : List Nat) (ps : List Planned) : Prop where
  steps : ∀ k i s t, is[k]? = some i → ps[k]? = some s → ps[k + 1]? = some t →
    s.speed ≤ t.speed + incrementAt c i ∧ t.speed ≤ s.speed + incrementAt c i
  ends : ∀ k i t, is[k]? = some i → ps[k + 1]? = some t → t.limit ≤ (boundary c (i + 1)).limit

/-- The limits of a STOP's chain by their places: the start of its first segment, then the ends of its segments, and 0 at the
stop boundary (R89). -/
theorem stopLimits_getElem? {chain : List Nat} {u j : Nat}
    (h : ((boundary c (chain.headD 0)).limit :: chainLimits c chain)[k]? = some u) :
    (k = 0 → chain[0]? = some j → u = (boundary c j).limit)
      ∧ (∀ l, k = l + 1 → chain[l]? = some j → u = if chain.length = k then 0 else (boundary c (j + 1)).limit) := by
  refine ⟨?_, ?_⟩
  · rintro rfl hj
    cases chain with
    | nil => cases hj
    | cons i is =>
      obtain rfl : i = j := Option.some.inj hj
      exact (Option.some.inj h).symm
  · rintro l rfl hj
    have hne : chain ≠ [] := fun hnil => by simp [hnil] at hj
    have hlt := (List.getElem?_eq_some_iff.1 hj).1
    rw [List.getElem?_cons_succ, chainLimits_eq hne, List.getElem?_append] at h
    split at h
    · next hl =>
      rw [List.length_map, List.length_dropLast] at hl
      rw [List.getElem?_map, List.getElem?_dropLast, if_pos hl, hj] at h
      rw [if_neg (by omega)]
      exact (Option.some.inj h).symm
    · next hl =>
      rw [List.length_map, List.length_dropLast] at hl h
      have hzero : l - (chain.length - 1) = 0 := by omega
      rw [hzero] at h
      rw [if_pos (by omega)]
      exact (Option.some.inj h).symm

theorem ramps_stop (value : Nat) (chain : List Nat) : Ramps c chain (stopPlanned c value chain) where
  steps k i s t hi hs ht := by
    obtain ⟨⟨low, hlow, hspeed⟩, -⟩ := stopPlanned_getElem? hs
    obtain ⟨⟨low', hlow', hspeed'⟩, -⟩ := stopPlanned_getElem? ht
    have hinc : (chainIncs c chain)[k]? = some (incrementAt c i) := by
      rw [chainIncs, List.getElem?_map, hi]
      rfl
    have hbetween := between_step hinc
    have hup := highestAt_le_add hlow hlow'
    have hdown := highestAt_le_add hlow' hlow
    have hnear := between_triangle (chainIncs c chain) 0 k (k + 1)
    have hfar := between_triangle (chainIncs c chain) 0 (k + 1) k
    rw [between_comm _ (k + 1) k] at hdown hfar
    rw [hbetween] at hup hdown hnear hfar
    omega
  ends k i t hi ht := by
    rw [(stopLimits_getElem? (stopPlanned_getElem? ht).2).2 k rfl hi]
    split
    · exact Nat.zero_le _
    · exact le_rfl

theorem ramps_range (c : PlanInput) (fixed : Option FixedPoint) :
    Ramps c (List.range' (lowest c fixed) ((rangePlanned c fixed).length - 1)) (rangePlanned c fixed) where
  steps k i s t hi hs ht := by
    obtain ⟨b, hb⟩ := rangePlanned_getElem? hs
    obtain ⟨b', hb'⟩ := rangePlanned_getElem? ht
    obtain ⟨hlt, rfl⟩ := List.getElem?_eq_some_iff.1 hi
    simpa using plannedAt_step hb hb'
  ends k i t hi ht := by
    obtain ⟨b', hb'⟩ := rangePlanned_getElem? ht
    obtain ⟨hlt, rfl⟩ := List.getElem?_eq_some_iff.1 hi
    rw [hb'.limit]
    simp [Nat.add_assoc]

theorem jobWords_stop (h : job.kind = .stop) : jobWords c job
    = chainWords c ((job.stop.map StopPlan.chain).getD [])
      (stopPlanned c (fixedValue job.fixed) ((job.stop.map StopPlan.chain).getD [])) := by
  rw [jobWords, h]
  exact stopJobWords_eq _ _

theorem jobWords_range (h : job.kind ≠ .stop) : jobWords c job = rangeJobWords c job.fixed := by
  unfold jobWords
  split
  · next hstop => exact absurd hstop h
  · rfl

/-- The words of every job stand between planned boundaries that ramp. -/
theorem jobWords_ramps (c : PlanInput) (job : Job) : ∃ is ps, jobWords c job = chainWords c is ps ∧ Ramps c is ps := by
  by_cases h : job.kind = .stop
  · exact ⟨_, _, jobWords_stop h, ramps_stop ..⟩
  · exact ⟨_, _, (jobWords_range h).trans ((rangeJobWords_eq c job.fixed).trans (rangeWords_eq ..)), ramps_range c job.fixed⟩

/-! ### The limits within the ceilings -/

theorem mem_atOffsets {start : Nat} {l : List Nat} {x : Nat} (h : x ∈ l) : ∃ o, (o, x) ∈ atOffsets start l := by
  induction l generalizing start with
  | nil => cases h
  | cons y ys ih =>
    rcases List.mem_cons.1 h with rfl | h
    · exact ⟨start, List.mem_cons_self⟩
    · obtain ⟨o, ho⟩ := ih (start := start + 2) h
      exact ⟨o, List.mem_cons_of_mem _ ho⟩

/-- The corner factors of a VALID material are at most 256 (R54). -/
theorem cornerFactor_le (h : materialFault m = none) (k : Nat) : (cornerFactors m).getD k 0 ≤ 256 := by
  have hranges : ∀ f ∈ materialRanges m, f.ok = true := by
    have hnone : firstOutOfRange (materialRanges m) = none := by
      cases hf : firstOutOfRange (materialRanges m) with
      | none => rfl
      | some o => rw [materialFault, hf] at h; cases h
    intro f hf
    rw [firstOutOfRange, Option.map_eq_none_iff, List.find?_eq_none] at hnone
    simpa using hnone f hf
  rw [List.getD_eq_getElem?_getD]
  cases hx : (cornerFactors m)[k]? with
  | none => exact Nat.zero_le _
  | some x =>
    obtain ⟨o, ho⟩ := mem_atOffsets (start := 11) (List.mem_of_getElem? hx)
    have hmem : (⟨o, x, 1, 256⟩ : FieldCheck) ∈ materialRanges m := by
      refine List.mem_cons_of_mem _ (List.mem_append_left _ (List.mem_append_left _ (List.mem_append_right _ ?_)))
      exact List.mem_map.2 ⟨(o, x), ho, rfl⟩
    have hok := hranges _ hmem
    rw [FieldCheck.ok, Bool.and_eq_true, decide_eq_true_eq, decide_eq_true_eq] at hok
    exact hok.2

theorem floor_le_ceiling (m : Material) (vo : Nat) (r : SegRecord) : m.vFloor.toNat ≤ ceiling m vo r := le_max_right _ _

theorem cornerTerm_le (h : materialFault m = none) (vo : Nat) (p q : SegRecord) :
    (cornerTerm m vo p q).limit ≤ min (ceiling m vo p) (ceiling m vo q) := by
  have hfactor := cornerFactor_le h (deflectionClass (segHeadingOut p) (segHeadingIn q))
  have hp := floor_le_ceiling m vo p
  have hq := floor_le_ceiling m vo q
  have hproduct : min (ceiling m vo p) (ceiling m vo q) * (cornerFactors m).getD
      (deflectionClass (segHeadingOut p) (segHeadingIn q)) 0 / 256 ≤ min (ceiling m vo p) (ceiling m vo q) :=
    Nat.div_le_of_le_mul (by rw [Nat.mul_comm 256]; exact Nat.mul_le_mul_left _ hfactor)
  rw [cornerTerm]
  exact max_le (le_min hp hq) hproduct

/-- The limit of a boundary between two segments is within the ceilings of both (R72, R74). -/
theorem boundary_le_ceilings (h : materialFault c.inputs.material = none) {j : Nat} (hp : c.segs[j]? = some p)
    (hq : c.segs[j + 1]? = some q) : (boundary c (j + 1)).limit
      ≤ min (ceiling c.inputs.material (contourSpeed c) p) (ceiling c.inputs.material (contourSpeed c) q) := by
  have hzeroed : ∀ limit dwell, (zeroed limit dwell).limit ≤ limit := fun limit dwell => by
    rw [zeroed]
    dsimp only
    split <;> omega
  rw [boundary_succ hp hq]
  split
  · exact Nat.zero_le _
  · split
    · exact Nat.zero_le _
    · split
      · next hjunction =>
        have hp' : c.segs.getD j blankRecord = p := by rw [List.getD_eq_getElem?_getD, hp]; rfl
        have hq' : c.segs.getD (j + 1) blankRecord = q := by rw [List.getD_eq_getElem?_getD, hq]; rfl
        refine (hzeroed _ _).trans ((min_le_left _ _).trans ?_)
        rcases hjunction.2 with hstart | hend
        · refine (min_le_left _ _).trans ?_
          dsimp only
          rw [← hstart, Nat.add_sub_cancel, hp', hq']
          exact cornerTerm_le h _ p q
        · refine (min_le_right _ _).trans ((min_le_right _ _).trans ?_)
          dsimp only
          rw [← hend, Nat.add_sub_cancel, hp', hq']
          exact cornerTerm_le h _ p q
      · exact (hzeroed _ _).trans (cornerTerm_le h _ p q)

/-- Both limits of a segment are within its ceiling. -/
theorem limits_le_ceilingAt (h : materialFault c.inputs.material = none) (hi : i < c.segs.length) :
    (boundary c i).limit ≤ ceilingAt c i ∧ (boundary c (i + 1)).limit ≤ ceilingAt c i := by
  have hr := List.getElem?_eq_getElem hi
  have hceil : ceilingAt c i = ceiling c.inputs.material (contourSpeed c) c.segs[i] := by
    rw [ceilingAt, List.getD_eq_getElem?_getD, hr]
    rfl
  rw [hceil]
  constructor
  · cases i with
    | zero => exact Nat.zero_le _
    | succ i => exact (boundary_le_ceilings h (List.getElem?_eq_getElem (by omega)) hr).trans (min_le_right _ _)
  · cases hq : c.segs[i + 1]? with
    | none =>
      have hlast : i + 1 = c.segs.length := by
        have := List.getElem?_eq_none_iff.1 hq
        omega
      have hend : c.segs.getLast? = some c.segs[i] := by
        rw [List.getLast?_eq_getElem?, ← hlast, Nat.add_sub_cancel, hr]
      rw [hlast, boundary_end hend]
      exact Nat.zero_le _
    | some q => exact (boundary_le_ceilings h hr hq).trans (min_le_left _ _)

/-! ### Nothing is flagged from rest -/

/-- A planned boundary of a range whose fixed value is 0, or that has none: within the limit of its boundary (R90). -/
theorem PlannedAt.of_rest {b : Nat} (hq : PlannedAt c fixed k s b) (hzero : fixedValue fixed = 0) :
    s.speed = b ∧ s.speed ≤ s.limit ∧ s.raised = false := by
  have hspeed : s.speed = b := by
    rw [hq.speed, plannedSpeed, hzero, Nat.zero_sub, max_eq_left (Nat.zero_le _), ite_self]
  have hle := rangeSpeed_le (rangeLimits_getElem?.2 ⟨hq.inRange, rfl⟩) hq.highest
  refine ⟨hspeed, ?_, ?_⟩
  · rw [hspeed, hq.limit]
    split at hle
    · omega
    · exact hle
  · refine Bool.eq_false_iff.2 fun hraised => ?_
    have := hq.raised hraised
    omega

theorem rest_unflagged (hzero : fixedValue fixed = 0) (hvalid : materialFault c.inputs.material = none) {x : Nat × PlanWord}
    (hx : x ∈ rangeJobWords c fixed) : x.2.overspeed = false := by
  obtain ⟨k, hk⟩ := List.mem_iff_getElem?.1 hx
  obtain ⟨hlt, s, t, b, b', -, -, hs, ht, rfl⟩ := rangeJobWords_getElem? hk
  obtain ⟨-, hsle, hsraised⟩ := hs.of_rest hzero
  obtain ⟨-, htle, htraised⟩ := ht.of_rest hzero
  obtain ⟨hstart, hend⟩ := limits_le_ceilingAt hvalid hlt
  refine unflagged_of_within hsle htle hsraised htraised fun _ => ⟨hsle.trans ?_, htle.trans ?_⟩
  · rw [hs.limit]
    exact hstart
  · rw [ht.limit]
    exact hend

/-! ### The obligation -/

/-- The entry and exit speed of a cutting word are those of the boundaries about it. -/
theorem cut_speeds (h : isBridge (c.segs.getD i blankRecord) = false) (s t : Planned) :
    (planWord c i s t).entry = s.speed ∧ (planWord c i s t).exit = t.speed
      ∧ (planWord c i s t).peak = peakSpeed s.speed t.speed (incrementAt c i) (ceilingAt c i)
      ∧ (planWord c i s t).dwell = (boundary c (i + 1)).dwell := by
  rw [planWord_cut h]
  exact ⟨rfl, rfl, rfl, rfl⟩

/-- A word of a job that is no STOP enters within the limit of its start boundary, where it is not flagged (R85). -/
theorem range_entry_le (hkind : job.kind ≠ .stop) (hw : (i, w) ∈ jobWords c job)
    (hcut : isBridge (c.segs.getD i blankRecord) = false) (hflag : w.overspeed = false) : w.entry ≤ (boundary c i).limit := by
  rw [jobWords_range hkind] at hw
  obtain ⟨k, hk⟩ := List.mem_iff_getElem?.1 hw
  obtain ⟨-, s, t, b, b', -, -, hs, -, hx⟩ := rangeJobWords_getElem? hk
  obtain ⟨rfl, rfl⟩ := Prod.mk.inj hx
  rw [(cut_speeds hcut s t).1, ← hs.limit]
  exact (unflagged_within hcut hflag).1

/-- The words of a STOP between their boundaries. -/
theorem stopWords_getElem? {value : Nat} {chain : List Nat} {x : Nat × PlanWord}
    (h : (chainWords c chain (stopPlanned c value chain))[k]? = some x) : ∃ i s t, chain[k]? = some i
      ∧ (stopPlanned c value chain)[k]? = some s ∧ (stopPlanned c value chain)[k + 1]? = some t ∧ x = (i, planWord c i s t) :=
  chainWords_getElem?.1 h

theorem stopWords_length (value : Nat) (chain : List Nat) :
    (chainWords c chain (stopPlanned c value chain)).length = chain.length := by
  rw [← List.length_map (f := Prod.fst), chainWords_indices (stopPlanned_length value chain)]

/-- Settles O42: the ramps of every job, the ends of a STOP, and the plan from rest. -/
theorem rampLaw : Obligations.RampLaw := by
  unfold Obligations.RampLaw
  refine ⟨?_, ?_, fun c job fixed i w hkind hfixed hzero hvalid hw => ?_⟩
  · rintro c job i w r inc hw rfl rfl
    obtain ⟨is, ps, hwords, hramps⟩ := jobWords_ramps c job
    have hmem := hw
    rw [hwords] at hw
    obtain ⟨k, hk⟩ := List.mem_iff_getElem?.1 hw
    obtain ⟨i', s, t, hi, hs, ht, hx⟩ := chainWords_getElem?.1 hk
    obtain ⟨rfl, rfl⟩ := Prod.mk.inj hx
    refine ⟨fun hbridge => planWord_bridge hbridge s t, fun hcut => ?_⟩
    obtain ⟨hentry, hexit, hpeak, hdwell⟩ := cut_speeds hcut s t
    obtain ⟨hup, hdown⟩ := hramps.steps k i s t hi hs ht
    refine ⟨by rw [hentry, hexit]; exact hup, by rw [hentry, hexit]; exact hdown, by rw [hpeak, hentry, hexit]; rfl, hdwell,
      fun hflag => ?_⟩
    obtain ⟨-, htlimit, hceil⟩ := unflagged_within hcut hflag
    exact ⟨by rw [hexit]; exact htlimit.trans (hramps.ends k i t hi ht), by rw [hpeak]; exact hceil,
      fun hkind => range_entry_le hkind hmem hcut hflag⟩
  · intro c job k i w hkind hk hcut hflag
    rw [jobWords_stop hkind] at hk ⊢
    obtain ⟨i', s, t, hi, hs, ht, hx⟩ := stopWords_getElem? hk
    obtain ⟨rfl, rfl⟩ := Prod.mk.inj hx
    obtain ⟨hentry, hexit, -, -⟩ := cut_speeds hcut s t
    obtain ⟨hslimit, htlimit, -⟩ := unflagged_within hcut hflag
    have hstart := (stopPlanned_getElem? hs).2
    have hend := (stopPlanned_getElem? ht).2
    rw [hentry, hexit, stopWords_length]
    refine ⟨fun hzero => ?_, fun hlast => ?_, fun j v hpos hv => ?_⟩
    · subst hzero
      rw [← (stopLimits_getElem? hstart).1 rfl hi]
      exact hslimit
    · have hzero := (stopLimits_getElem? hend).2 k rfl hi
      rw [if_pos hlast] at hzero
      omega
    · obtain ⟨j', s', t', hj, -, -, hx⟩ := stopWords_getElem? hv
      obtain ⟨rfl, -⟩ := Prod.mk.inj hx
      have hlimit := (stopLimits_getElem? hstart).2 (k - 1) (by omega) hj
      have hlt := (List.getElem?_eq_some_iff.1 hi).1
      rw [if_neg (by omega)] at hlimit
      rw [← hlimit]
      exact hslimit
  · rw [jobWords_range hkind, hfixed] at hw
    exact rest_unflagged (fixed := some fixed) hzero hvalid hw

end Sys2Proof.Proofs

/-! PROOFS. Whole plans, and how the words of every job join (R79 to R81, R84, R85, R89, R90). -/

namespace Sys2Proof.Proofs

open Sys2Proof Sys2Proof.Machine

variable {c : PlanInput} {fixed : Option FixedPoint} {job : Job} {k l i : Nat} {s t : Planned} {w w' : PlanWord}
  {x x' : Nat × PlanWord}

/-! ### At rest on both sides of a bridge -/

theorem getD_of_getElem? {r : SegRecord} (h : c.segs[i]? = some r) : c.segs.getD i blankRecord = r := by
  rw [List.getD_eq_getElem?_getD, h]
  rfl

theorem boundary_end_limit (c : PlanInput) : (boundary c c.segs.length).limit = 0 := by
  cases hlast : c.segs.getLast? with
  | none =>
    rw [List.getLast?_eq_none_iff.1 hlast]
    rfl
  | some p => rw [boundary_end hlast]

theorem bridge_limits (hi : i < c.segs.length) (hbridge : isBridge (c.segs.getD i blankRecord) = true) :
    (boundary c i).limit = 0 ∧ (boundary c (i + 1)).limit = 0 := by
  have hr := List.getElem?_eq_getElem hi
  rw [getD_of_getElem? hr] at hbridge
  constructor
  · cases i with
    | zero => rfl
    | succ i =>
      rw [boundary_succ (List.getElem?_eq_getElem (by omega)) hr, hbridge, if_pos rfl]
      split <;> rfl
  · cases hq : c.segs[i + 1]? with
    | none =>
      have hlast : i + 1 = c.segs.length := by
        have := List.getElem?_eq_none_iff.1 hq
        omega
      rw [hlast, boundary_end_limit]
    | some q => rw [boundary_succ hr hq, if_pos hbridge]

/-- From rest every word, a bridge's too, enters and leaves at the speeds of its boundaries (R83, R84). -/
theorem rest_speeds {b b' : Nat} (hzero : fixedValue fixed = 0) (hs : PlannedAt c fixed k s b) (ht : PlannedAt c fixed (k + 1) t b') :
    (planWord c (lowest c fixed + k) s t).entry = b ∧ (planWord c (lowest c fixed + k) s t).exit = b' := by
  obtain ⟨hspeed, hsle, -⟩ := hs.of_rest hzero
  obtain ⟨htspeed, htle, -⟩ := ht.of_rest hzero
  cases hbridge : isBridge (c.segs.getD (lowest c fixed + k) blankRecord) with
  | false =>
    obtain ⟨hentry, hexit, -, -⟩ := cut_speeds hbridge s t
    exact ⟨hentry.trans hspeed, hexit.trans htspeed⟩
  | true =>
    obtain ⟨hstart, hend⟩ := bridge_limits (i := lowest c fixed + k) ht.inRange hbridge
    have hlimit := hs.limit
    have htlimit := ht.limit
    rw [← Nat.add_assoc] at htlimit
    rw [planWord_bridge hbridge]
    dsimp only
    omega

/-! ### A plan of the whole contour -/

theorem lowest_none (c : PlanInput) : lowest c none = 0 := by
  rw [lowest]
  split
  · exact Nat.zero_min _
  · rfl

theorem wraps_none (c : PlanInput) : wraps c none = decide (1 < c.passes) := rfl

theorem whole_limits (c : PlanInput) :
    rangeLimits c none = (List.range (c.segs.length + 1)).map fun j => (boundary c j).limit := by
  rw [rangeLimits, rangeBoundaries, lowest_none]
  rfl

theorem whole_incs (c : PlanInput) :
    rangeIncs c none = c.segs.map fun r => c.inputs.material.slope.toNat * segLength r / 1000 := by
  rw [rangeIncs, lowest_none]
  rfl

/-- The words of a plan of the whole contour, by their boundaries' highest speeds. -/
theorem whole_getElem? (h : (rangeJobWords c none)[k]? = some x) : ∃ b b', k < c.segs.length ∧ x.1 = k ∧ x.2.entry = b
    ∧ x.2.exit = b' ∧ highestAt (rangeEnds c none) (rangeIncs c none) k b
    ∧ highestAt (rangeEnds c none) (rangeIncs c none) (k + 1) b' ∧ b ≤ (boundary c k).limit
    ∧ b' ≤ (boundary c (k + 1)).limit := by
  obtain ⟨hlt, s, t, b, b', -, -, hs, ht, rfl⟩ := rangeJobWords_getElem? h
  obtain ⟨hentry, hexit⟩ := rest_speeds rfl hs ht
  obtain ⟨hspeed, hle, -⟩ := hs.of_rest rfl
  obtain ⟨htspeed, htle, -⟩ := ht.of_rest rfl
  have hlimit := hs.limit
  have htlimit := ht.limit
  rw [lowest_none, Nat.zero_add] at hlt hlimit htlimit hentry hexit ⊢
  exact ⟨b, b', hlt, rfl, hentry, hexit, hs.highest, ht.highest, by omega, by omega⟩

theorem whole_length (c : PlanInput) : (rangeJobWords c none).length = c.segs.length := by
  rw [← List.length_map (f := Prod.fst), rangeJobWords_indices, List.length_range', lowest_none]
  rfl

/-- One word leaves as the next enters. -/
theorem whole_joins (h : (rangeJobWords c none)[k]? = some x) (h' : (rangeJobWords c none)[k + 1]? = some x') :
    x.2.exit = x'.2.entry := by
  obtain ⟨-, b, -, -, -, hexit, -, hb, -, -⟩ := whole_getElem? h
  obtain ⟨b', -, -, -, hentry, -, hb', -, -, -⟩ := whole_getElem? h'
  rw [hexit, hentry, highestAt_unique hb hb']

/-- The body's end joins its beginning (R80). -/
theorem whole_wraps (hpasses : 1 < c.passes) (hbody : 0 < bodyCount c.segs)
    (h : (rangeJobWords c none)[lastBody c.segs]? = some x) (h' : (rangeJobWords c none)[firstBody c.segs]? = some x') :
    x.2.exit = x'.2.entry := by
  have hwrap : wraps c none = true := decide_eq_true hpasses
  have hlast : lastBody c.segs + 1 = bodyEnd c - lowest c none := by
    rw [lastBody, bodyEnd, lowest_none]
    omega
  have hfirst : firstBody c.segs = bodyStart c - lowest c none := by
    rw [lowest_none]
    rfl
  obtain ⟨-, b, -, -, -, hexit, -, hb, -, -⟩ := whole_getElem? h
  obtain ⟨b', -, -, -, hentry, -, hb', -, -, -⟩ := whole_getElem? h'
  rw [hexit, hentry, highestAt_unique hb (joinedSpeed_highest hwrap (.inr hlast)),
    highestAt_unique hb' (joinedSpeed_highest hwrap (.inl hfirst))]

/-- The limits of a plan of the whole contour, the junction at the lower of its two sides (R80). -/
theorem whole_ends {y z : Nat} (hy : highestAt (rangeLimits c none) (rangeIncs c none) (bodyStart c) y)
    (hz : highestAt (rangeLimits c none) (rangeIncs c none) (bodyEnd c) z) : rangeEnds c none
      = if 1 < c.passes then ((rangeLimits c none).set (bodyStart c) (min y z)).set (bodyEnd c) (min y z) else rangeLimits c none := by
  rw [rangeEnds, wraps_none]
  by_cases hpasses : 1 < c.passes
  · have hwrap : wraps c none = true := decide_eq_true hpasses
    rw [if_pos (decide_eq_true hpasses), if_pos hpasses, joinedSpeed_eq hwrap (x := y) (y := z)
      (by rw [lowest_none]; exact hy) (by rw [lowest_none]; exact hz), lowest_none]
    rfl
  · rw [if_neg (by simpa using hpasses), if_neg hpasses]

/-! ### How the words of any job join -/

/-- Two cutting words in a row join. -/
theorem words_join (h : (jobWords c job)[k]? = some x) (h' : (jobWords c job)[k + 1]? = some x')
    (hcut : isBridge (c.segs.getD x.1 blankRecord) = false) (hcut' : isBridge (c.segs.getD x'.1 blankRecord) = false) :
    x.2.exit = x'.2.entry := by
  obtain ⟨is, ps, hwords, -⟩ := jobWords_ramps c job
  rw [hwords] at h h'
  obtain ⟨i, s, t, -, -, ht, rfl⟩ := chainWords_getElem?.1 h
  obtain ⟨i', s', t', -, hs', -, rfl⟩ := chainWords_getElem?.1 h'
  rw [ht] at hs'
  rw [(cut_speeds hcut s t).2.1, (cut_speeds hcut' s' t').1, Option.some.inj hs']

theorem stop_head {value : Nat} (hkind : job.kind = .stop) (hvalue : fixedValue job.fixed = value)
    (h : (jobWords c job).head? = some x) (hcut : isBridge (c.segs.getD x.1 blankRecord) = false) : x.2.entry = value := by
  rw [List.head?_eq_getElem?, jobWords_stop hkind] at h
  obtain ⟨i, s, t, -, hs, -, rfl⟩ := stopWords_getElem? h
  rw [(cut_speeds hcut s t).1, stopPlanned_first hs, hvalue]

/-- The segment at the fixed boundary starts at the fixed value (R90). -/
theorem fixed_entry {p : FixedPoint} {place : Place} (hplace : p.cursor = .seg place)
    (h : (place.index, w) ∈ rangeJobWords c (some p)) (hcut : isBridge (c.segs.getD place.index blankRecord) = false) :
    w.entry = p.value := by
  obtain ⟨k, hk⟩ := List.mem_iff_getElem?.1 h
  obtain ⟨hlt, s, t, b, b', -, -, hs, -, hx⟩ := rangeJobWords_getElem? hk
  obtain ⟨hindex, rfl⟩ := Prod.mk.inj hx
  have hfixed : fixedBoundary c (some p) = place.index := by
    rw [fixedBoundary, Option.map_some, hplace]
    rfl
  have hheld : heldFixed c (some p) (lowest c (some p) + k) = true := by
    rw [← hindex, heldFixed, hfixed]
    simp
  have hle := heldSpeed_le hs.inRange hs.highest hheld
  rw [← hindex, (cut_speeds hcut s t).1, hs.speed, plannedSpeed, rangeDist_fixed hheld]
  exact max_eq_right hle

/-- A range that goes past the wrap joins there (R80, R81). -/
theorem wrap_joins (hwrap : wraps c fixed = true) (hbody : 0 < bodyCount c.segs)
    (h : (lastBody c.segs, w) ∈ rangeJobWords c fixed) (h' : (firstBody c.segs, w') ∈ rangeJobWords c fixed)
    (hcut : isBridge (c.segs.getD (lastBody c.segs) blankRecord) = false)
    (hcut' : isBridge (c.segs.getD (firstBody c.segs) blankRecord) = false) : w.exit = w'.entry := by
  obtain ⟨k, hk⟩ := List.mem_iff_getElem?.1 h
  obtain ⟨k', hk'⟩ := List.mem_iff_getElem?.1 h'
  obtain ⟨-, s, t, -, b, -, -, -, ht, hx⟩ := rangeJobWords_getElem? hk
  obtain ⟨-, s', t', b', -, -, -, hs', -, hx'⟩ := rangeJobWords_getElem? hk'
  obtain ⟨hlast, rfl⟩ := Prod.mk.inj hx
  obtain ⟨hfirst, rfl⟩ := Prod.mk.inj hx'
  rw [hlast] at hcut
  rw [hfirst] at hcut'
  have hend : lowest c fixed + (k + 1) = bodyEnd c := by
    rw [bodyEnd, ← Nat.add_assoc, ← hlast, lastBody]
    omega
  have hstart : lowest c fixed + k' = bodyStart c := hfirst.symm
  have hjoined := highestAt_unique ht.highest (joinedSpeed_highest hwrap (.inr (by omega)))
  have hjoined' := highestAt_unique hs'.highest (joinedSpeed_highest hwrap (.inl (by omega)))
  have hdist : rangeDist c fixed (bodyEnd c) = rangeDist c fixed (bodyStart c) := by
    rw [rangeDist_eq, rangeDist_eq, if_pos hwrap, if_pos hwrap, apart_self, apart_self]
    omega
  rw [(cut_speeds hcut s t).2.1, (cut_speeds hcut' s' t').1, ht.speed, hs'.speed, plannedSpeed, plannedSpeed, hend, hstart, hdist,
    hjoined, hjoined']

/-! ### The highest speeds of a range from a fixed point, and of a STOP -/

/-- A STOP's words descend from the fixed value (R79, R81, R89). -/
theorem stop_descends {value : Nat} {chain : List Nat} {x : Nat × PlanWord}
    (h : (chainWords c chain (stopPlanned c value chain))[k]? = some x)
    (hcut : isBridge (c.segs.getD x.1 blankRecord) = false) :
    descendsAt value (value :: chainLimits c chain) (chainIncs c chain) k x.2.entry
      ∧ descendsAt value (value :: chainLimits c chain) (chainIncs c chain) (k + 1) x.2.exit := by
  obtain ⟨i, s, t, -, hs, ht, rfl⟩ := stopWords_getElem? h
  obtain ⟨hentry, hexit, -, -⟩ := cut_speeds hcut s t
  obtain ⟨⟨low, hlow, hspeed⟩, -⟩ := stopPlanned_getElem? hs
  obtain ⟨⟨low', hlow', hspeed'⟩, -⟩ := stopPlanned_getElem? ht
  refine ⟨⟨low, hlow, ?_⟩, low', hlow', ?_⟩
  · rw [hentry]
    split
    · next hzero =>
      subst hzero
      exact stopPlanned_first hs
    · exact hspeed
  · rw [hexit, if_neg (Nat.succ_ne_zero k)]
    exact hspeed'

section
variable {p : FixedPoint} {place : Place} (hplace : p.cursor = .seg place) (hpass : c.passes ≤ place.pass)
include hplace

theorem fixedBoundary_seg : fixedBoundary c (some p) = place.index := by
  rw [fixedBoundary, Option.map_some, hplace]
  rfl

include hpass

theorem wraps_lastPass : wraps c (some p) = false := by
  rw [wraps, Option.map_some, hplace]
  exact decide_eq_false (by omega)

theorem lowest_lastPass : lowest c (some p) = place.index := by
  rw [lowest, wraps_lastPass hplace hpass, if_neg Bool.false_ne_true, fixedBoundary_seg hplace]

theorem lastPass_indices : (rangeJobWords c (some p)).map Prod.fst = (List.range c.segs.length).drop place.index := by
  rw [rangeJobWords_indices, lowest_lastPass hplace hpass, List.range_eq_range', List.drop_range']
  simp

/-- The limits from a fixed point in the last pass: the fixed value, then the segments' end boundaries. -/
theorem lastPass_limits (hle : place.index ≤ c.segs.length) : rangeEnds c (some p)
    = p.value :: ((List.range c.segs.length).drop place.index).map fun i => (boundary c (i + 1)).limit := by
  have hends : rangeEnds c (some p) = rangeLimits c (some p) := by
    rw [rangeEnds, wraps_lastPass hplace hpass, if_neg Bool.false_ne_true]
  have hheld : ∀ j, heldFixed c (some p) j = (j == place.index) := fun j => by
    rw [heldFixed, wraps_lastPass hplace hpass, fixedBoundary_seg hplace]
    simp
  have hboundaries : rangeBoundaries c (some p) = place.index :: ((List.range c.segs.length).drop place.index).map (· + 1) := by
    rw [rangeBoundaries, lowest_lastPass hplace hpass]
    refine List.ext_getElem (by simp; omega) fun k _ _ => ?_
    cases k with
    | zero => simp
    | succ k => simp [Nat.add_assoc]
  rw [hends, rangeLimits, hboundaries, List.map_cons, List.map_map, hheld, beq_self_eq_true, if_pos rfl]
  refine congrArg (p.value :: ·) (List.map_congr_left fun i hi => ?_)
  obtain ⟨k, hk, rfl⟩ := List.mem_drop_iff_getElem.1 hi
  rw [Function.comp_apply, hheld, beq_eq_false_iff_ne.2 (by simp; omega), if_neg Bool.false_ne_true]

theorem lastPass_incs : rangeIncs c (some p) = ((List.range c.segs.length).drop place.index).map (incrementAt c) := by
  rw [rangeIncs, lowest_lastPass hplace hpass]
  refine List.ext_getElem (by simp) fun k hk _ => ?_
  have hlt : place.index + k < c.segs.length := by
    rw [List.length_map, List.length_drop] at hk
    omega
  simp [incrementAt, List.getElem?_eq_getElem hlt]

/-- The distance from the fixed point is that of the increments between. -/
theorem lastPass_dist (k : Nat) : rangeDist c (some p) (place.index + k) = between (rangeIncs c (some p)) 0 k := by
  have hsum : sumTo c (place.index + k) = sumTo c place.index + ((rangeIncs c (some p)).take k).sum := by
    rw [sumTo, sumTo, rangeIncs, lowest_lastPass hplace hpass, List.take_add, List.map_append, List.sum_append,
      List.map_take (l := c.segs.drop place.index)]
  rw [rangeDist_eq, wraps_lastPass hplace hpass, if_neg Bool.false_ne_true, fixedBoundary_seg hplace, apart, hsum,
    ← sum_take_eq_between]
  omega

/-- A planned boundary from a fixed point in the last pass descends from the fixed value (R79, R81, R90). -/
theorem lastPass_descends {q : Planned} {b : Nat} (hq : PlannedAt c (some p) k q b) :
    descendsAt p.value (rangeEnds c (some p)) (rangeIncs c (some p)) k q.speed := by
  have hspeed : q.speed = max b (p.value - rangeDist c (some p) (lowest c (some p) + k)) := hq.speed
  rw [lowest_lastPass hplace hpass, lastPass_dist hplace hpass] at hspeed
  refine ⟨b, hq.highest, ?_⟩
  split
  · next hzero =>
    subst hzero
    have hheld : heldFixed c (some p) (lowest c (some p) + 0) = true := by
      rw [heldFixed, lowest_lastPass hplace hpass, fixedBoundary_seg hplace]
      simp
    have hle : b ≤ p.value := heldSpeed_le hq.inRange hq.highest hheld
    rw [hspeed, between_self, Nat.sub_zero, max_eq_right hle]
  · exact hspeed

end

/-- Settles O43: the whole plan, the joins of every job, and the descents. -/
theorem wholePlanJoinsWithinLimits : Obligations.WholePlanJoinsWithinLimits := by
  unfold Obligations.WholePlanJoinsWithinLimits
  refine ⟨?_, fun c job cuts hcuts => ⟨fun k w w' h h' hcut hcut' => ?_, fun fixed p hfixed hplace => ⟨fun hkind w hw hcut => ?_,
    fun hkind w hw hcut => ?_, fun hkind hpasses hpass hbody hindex w w' hw hw' hcut hcut' => ?_⟩⟩, ?_⟩
  · rintro c job words hkind hfixed hvalid rfl
    have hwords : jobWords c job = rangeJobWords c none := by
      rw [jobWords_range (by rcases hkind with h | h <;> rw [h] <;> exact JobKind.noConfusion), hfixed]
    rw [hwords]
    refine ⟨?_, fun i w r hw hr => ?_, fun i w w' h h' => whole_joins h h', fun w hw => ?_, fun w hw => ?_,
      fun hpasses hbody w w' h h' => whole_wraps hpasses hbody h h', ?_⟩
    · rw [rangeJobWords_indices, lowest_none, List.range_eq_range']
      rfl
    · refine ⟨rest_unflagged rfl hvalid hw, fun hcut => ?_⟩
      have hflag : w.overspeed = false := rest_unflagged (fixed := none) rfl hvalid hw
      obtain ⟨k, hk⟩ := List.mem_iff_getElem?.1 hw
      obtain ⟨-, s, t, -, -, -, -, -, -, hx⟩ := rangeJobWords_getElem? hk
      obtain ⟨rfl, rfl⟩ := Prod.mk.inj hx
      have hr' := getD_of_getElem? hr
      rw [← hr'] at hcut ⊢
      rw [(cut_speeds hcut s t).2.2.1]
      exact (unflagged_within hcut hflag).2.2
    · rw [List.head?_eq_getElem?] at hw
      obtain ⟨b, -, -, -, hentry, -, -, -, hle, -⟩ := whole_getElem? hw
      rw [hentry]
      exact Nat.le_zero.1 hle
    · rw [List.getLast?_eq_getElem?, whole_length] at hw
      obtain ⟨-, b, hlt, -, -, hexit, -, -, -, hle⟩ := whole_getElem? hw
      rw [Nat.sub_add_cancel (by omega), boundary_end_limit] at hle
      rw [hexit]
      exact Nat.le_zero.1 hle
    · rintro limits incs a z x y hlimits hincs rfl rfl hx hy i w hw -
      rw [← whole_limits] at hlimits
      rw [← whole_incs] at hincs
      subst hlimits hincs
      obtain ⟨k, hk⟩ := List.mem_iff_getElem?.1 hw
      obtain ⟨b, b', -, rfl, rfl, rfl, hb, hb', -, -⟩ := whole_getElem? hk
      exact ⟨rangeEnds c none, whole_ends hx hy, hb, hb'⟩
  · exact words_join h h' ((hcuts _).1 hcut) ((hcuts _).1 hcut')
  · exact stop_head hkind (by rw [hfixed]; rfl) hw ((hcuts _).1 hcut)
  · rw [jobWords_range hkind, hfixed] at hw
    exact fixed_entry hplace hw ((hcuts _).1 hcut)
  · rw [jobWords_range hkind, hfixed] at hw hw'
    have hwrap : wraps c (some fixed) = true := by
      rw [wraps, Option.map_some, hplace]
      exact decide_eq_true ⟨hpasses, hpass⟩
    exact wrap_joins hwrap hbody hw hw' ((hcuts _).1 hcut) ((hcuts _).1 hcut')
  · rintro c job fixed chain ends hfixed (⟨hkind, ⟨place, hstop⟩, hends⟩ | ⟨hkind, ⟨p, hplace, hpass, rfl⟩, rfl⟩)
    · have hwords : jobWords c job = chainWords c chain (stopPlanned c fixed.value chain) := by
        rw [jobWords_stop hkind, hfixed, hstop]
        rfl
      rw [hwords]
      refine ⟨chainWords_indices (stopPlanned_length _ _), ?_⟩
      rintro limits incs rfl rfl k i w hk hcut
      have hne : chain ≠ [] := fun hnil => by
        obtain ⟨i, -, -, hi, -⟩ := stopWords_getElem? hk
        simp [hnil] at hi
      rw [hends, ← chainLimits_eq hne]
      exact stop_descends hk hcut
    · rw [jobWords_range hkind, hfixed]
      refine ⟨lastPass_indices hplace hpass, ?_⟩
      rintro limits incs rfl rfl k i w hk hcut
      obtain ⟨hlt, s, t, b, b', -, -, hs, ht, hx⟩ := rangeJobWords_getElem? hk
      obtain ⟨rfl, rfl⟩ := Prod.mk.inj hx
      obtain ⟨hentry, hexit, -, -⟩ := cut_speeds hcut s t
      have hle : p.index ≤ c.segs.length := by
        rw [lowest_lastPass hplace hpass] at hlt
        omega
      have hincs := lastPass_incs (c := c) hplace hpass
      have hstart := lastPass_descends hplace hpass hs
      have hend := lastPass_descends hplace hpass ht
      rw [lastPass_limits hplace hpass hle, hincs] at hstart hend
      rw [hentry, hexit]
      exact ⟨hstart, hend⟩

end Sys2Proof.Proofs
